-- ==== Sys2Proof/Word.lean ====
section
/-!
DEFINITION. The widths the ZR-416 uses: link characters, 32-bit counts that wrap, and the 64 KiB block of the frame store.
-/

namespace Sys2Proof

/-- One link character's data, and one byte of a field (spec/11, R189). -/
abbrev Byte := BitVec 8

/-- A 32-bit count that wraps from FFFFFFFFH to 0: the RPN (R10) and the lane counters (R41). The export counts (R169) are of this width
too; that they wrap as well is the model's choice (log 44). -/
abbrev Count32 := BitVec 32

/-- The contents of one 64 KiB block of the frame store (spec/08, 8.1): 65,536 bytes of 8 bits. -/
abbrev BlockData := BitVec 524288

/-- The largest lane frame number (spec/00, Conventions). -/
abbrev maxLfn : Nat := 4294967295

end Sys2Proof
end

