-- ==== Sys2Proof/Syntax.lean ====
section
/-!
DEFINITION. The commands and events of the ZR-416: `Instr` has one constructor per row of spec/opcode_table.json, with the
operands the row's rule gives it. The fields of a host command are numbers as the host sent them, so that a value out of range
can be told and refused (log 13).
-/

namespace Sys2Proof

/-- What the first characters of a command frame say of it (R194, R204): whether it went to the broadcast address, the station
and claimed level of character 1, and the tag. -/
structure Header where
  broadcast : Bool
  station   : Fin 16
  claimed   : Fin 4
  tag       : Byte
  deriving DecidableEq, Repr

/-- A completed command frame as the receiver holds it (R191): its characters from the address on, and whether it was completed
by a length fault. -/
structure LinkFrame where
  chars       : List Byte
  lengthFault : Bool
  deriving DecidableEq, Repr

/-- What is found at the release of RESET (R15, R73, R88, R189, R203): the straps UA and LR (LR1 the high bit), the level of
each mark line, and the levels of each jog's A and B inputs. -/
structure Straps where
  unitAddress : Fin 8
  linkRate    : Fin 4
  markLevels  : BitVec 8
  jogA        : BitVec 4
  jogB        : BitVec 4
  deriving DecidableEq, Repr

/-- The action of one block at an Output Tick (R2). `jogMotion j` lets the Jog Motion that jog `j` has just handed over reach its
channel at that point of the tick (R91, R125). -/
inductive TickAction where
  | lane (l : Fin 8)
  | markLine (m : Fin 8)
  | jog (j : Fin 4)
  | jogMotion (j : Fin 4)
  | levers
  | channel (c : Fin 4)
  | exporter
  | cueLine (q : Fin 8)
  deriving DecidableEq, Repr

/-- An expiry of the window timer (R7): the µs since what the Reference Unit measured last (log 6), and the order of its tick (log 8). -/
structure Expiry where
  elapsed : Nat
  order   : List TickAction
  deriving DecidableEq, Repr

/-- The body of LANE CONFIG (R17). -/
structure LaneFields where
  lane   : Nat
  enable : Nat
  p      : Nat
  s      : Nat
  k      : Nat
  base   : Nat
  h      : Nat
  deriving DecidableEq, Repr

/-- The body of CLIP MARK (R54): `value` is the explicit LFN or the channel. -/
structure MarkFields where
  clip   : Nat
  lane   : Nat
  point  : Nat
  source : Nat
  value  : Nat
  vl     : Nat
  el     : Nat
  deriving DecidableEq, Repr

/-- The body of CLIP SPAN (R60). -/
structure SpanFields where
  clip   : Nat
  lane   : Nat
  inLfn  : Nat
  outLfn : Nat
  vl     : Nat
  el     : Nat
  deriving DecidableEq, Repr

/-- The body of LINE CONFIG (R71): the binding is a kind with a channel and a lane (R205). -/
structure LineFields where
  line         : Nat
  action       : Nat
  bindKind     : Nat
  bindChannel  : Nat
  bindLane     : Nat
  edge         : Nat
  holdOff      : Nat
  preRoll      : Nat
  postRoll     : Nat
  vl           : Nat
  el           : Nat
  lockOnCreate : Nat
  actingLevel  : Nat
  snapLane     : Nat
  snapDelay    : Nat
  deriving DecidableEq, Repr

/-- The body of JOG CONFIG (R92). -/
structure JogFields where
  jog      : Nat
  bindKind : Nat
  channel  : Nat
  counts   : Nat
  step     : Nat
  takeover : Nat
  deriving DecidableEq, Repr

/-- The body of LEVER CONFIG (R99). -/
structure LeverFields where
  lever     : Nat
  bindKind  : Nat
  channel   : Nat
  centre    : Nat
  halfWidth : Nat
  takeover  : Nat
  deriving DecidableEq, Repr

/-- The body of SNAP (R129): a lane and delay, or a clip and offset. -/
structure SnapFields where
  channel : Nat
  kind    : Nat
  lane    : Nat
  delay   : Nat
  clip    : Nat
  offset  : Nat
  deriving DecidableEq, Repr

/-- The speed, ramp step and round mode of PLAY and SYNC PLAY (R111, R117). -/
structure PlayFields where
  speedKind : Nat
  speed     : Int
  ramp      : Nat
  round     : Nat
  deriving DecidableEq, Repr

/-- One segment record of BANK WRITE (R133): `number` is the number of SKIP, GOTO or CHAIN. -/
structure SegmentFields where
  clip      : Nat
  hasStart  : Nat
  start     : Nat
  hasEnd    : Nat
  endOffset : Nat
  speed     : Int
  action    : Nat
  number    : Int
  deriving DecidableEq, Repr

/-- The body of CUE LINE CONFIG (R181). -/
structure CueFields where
  line       : Nat
  mode       : Nat
  channel    : Nat
  compareLfn : Nat
  direction  : Nat
  rearm      : Nat
  action     : Nat
  n          : Nat
  idleLevel  : Nat
  bank       : Nat
  entry      : Nat
  deriving DecidableEq, Repr

/-- The end of a frame at an ingest port (R157): the LFN of the taken frame that ends, none for the frame under delivery (log 25), and
whether its camera stream reports a fault. -/
structure FrameEnd where
  frame       : Option Nat
  streamFault : Bool
  deriving DecidableEq, Repr

/-- The commands and events, in the order of spec/opcode_table.json. -/
inductive Instr where
  | powerOnReset
  | resetRelease (straps : Straps)
  | referencePulse (elapsed : Nat) (order : List TickAction)
  | windowTimerExpiry (expiry : Expiry)
  | holdoverLimit (expiry : Expiry)
  | holdOffEnd (line : Fin 8)
  | jogMotion (jog : Fin 4)
  | leverResult (value : Nat)
  | leverMotion (lever : Fin 4)
  | pulseEnd (line : Fin 8)
  | exportStall
  | signalChange (lane : Fin 8) (present : Bool)
  | frameArrival (lane : Fin 8)
  | ingestBlockDelivered (lane : Fin 8) (data : BlockData)
  | frameEnd (lane : Fin 8) (ended : FrameEnd)
  | blockCompletion (good : Bool)
  | xrdyAsserted
  | xrdyDeasserted
  | markEdge (line : Fin 8) (level : Bool)
  | jogEdge (jog : Fin 4) (a b : Bool)
  | linkCharacter (marked : Bool) (data : Byte)
  | frameRefused (frame : LinkFrame)
  | replySent
  | poll (h : Header)
  | unitStatus (h : Header)
  | unitReset (h : Header)
  | stationSet (h : Header) (station ceiling : Nat)
  | noticeLevels (h : Header) (levels : List Nat)
  | refConfig (h : Header) (n w f : Nat)
  | timeSet (h : Header) (hh mm ss ff : Nat)
  | laneConfig (h : Header) (fields : LaneFields)
  | recStart (h : Header) (mask : BitVec 8)
  | recStop (h : Header) (mask : BitVec 8)
  | indexRead (h : Header) (lane startLfn : Nat)
  | laneStatus (h : Header) (lane : Nat)
  | clipMark (h : Header) (fields : MarkFields)
  | clipSpan (h : Header) (fields : SpanFields)
  | clipLock (h : Header) (clip : Nat)
  | clipUnlock (h : Header) (clip : Nat)
  | clipDelete (h : Header) (clip : Nat)
  | clipRights (h : Header) (clip vl el : Nat)
  | clipLabel (h : Header) (clip : Nat) (length : Nat) (text : List Byte)
  | clipRead (h : Header) (clip : Nat)
  | clipNext (h : Header) (clip : Nat)
  | rightsProbe (h : Header) (clip : Nat)
  | lineConfig (h : Header) (fields : LineFields)
  | jogConfig (h : Header) (fields : JogFields)
  | jogStatus (h : Header) (jog : Nat)
  | leverConfig (h : Header) (fields : LeverFields)
  | curveLoad (h : Header) (lever : Nat) (points : List Int)
  | leverStatus (h : Header) (lever : Nat)
  | channelTake (h : Header) (channel : Nat)
  | channelRelease (h : Header) (channel : Nat)
  | cueClip (h : Header) (channel clip offset : Nat)
  | cueLane (h : Header) (channel lane newest lfn : Nat)
  | live (h : Header) (channel lane delay : Nat)
  | play (h : Header) (channel : Nat) (fields : PlayFields)
  | pause (h : Header) (channel : Nat)
  | speed (h : Header) (channel : Nat) (kind : Nat) (value : Int) (ramp : Nat)
  | stepFrames (h : Header) (channel : Nat) (count : Int)
  | continuePlay (h : Header) (channel : Nat)
  | snap (h : Header) (fields : SnapFields)
  | resume (h : Header) (channel : Nat)
  | saveDiscard (h : Header) (channel : Nat)
  | syncPlay (h : Header) (mask : BitVec 8) (fields : PlayFields)
  | channelStatus (h : Header) (channel : Nat)
  | flagsClear (h : Header) (channel : Nat) (mask : BitVec 8)
  | flagEnables (h : Header) (channel : Nat) (mask : BitVec 8)
  | bankWrite (h : Header) (bank first count : Nat) (records : List SegmentFields)
  | bankRead (h : Header) (bank first count : Nat)
  | runOrder (h : Header) (channel bank entry : Nat)
  | segue (h : Header) (channel kind number : Nat)
  | exportStart (h : Header) (clip fromOffset toOffset tag : Nat)
  | exportAbort (h : Header)
  | exportConfig (h : Header) (limit : Nat)
  | exportStatus (h : Header)
  | cueLineConfig (h : Header) (fields : CueFields)
  | cueLineFire (h : Header) (line : Nat)
  | cueLineStatus (h : Header) (line : Nat)
  deriving DecidableEq, Repr

end Sys2Proof
end

