-- ==== Sys2Proof/Decode.lean ====
section
/-!
DEFINITION. The word decoder the host asks for. spec/opcode_table.json gives no row any bits: the commands of this part are pin
events, port events and link frames, and no word spells one. A link frame's bytes are decoded in Machine/Frames.lean.
-/

namespace Sys2Proof

/-- The command that a word of the opcode table's bits spells: none, since no row gives bits. -/
def decodeTableWord (_nbits _w : Nat) : Option Instr := none

end Sys2Proof
end

