-- ==== Sys2Proof/Config.lean ====
section
/-!
DEFINITION. The values the spec leaves open. Each is a constant without a body: nothing can be proved of what it is.
-/

namespace Sys2Proof

/-- What the frame store reads as at a block that nothing has written since the power-on numbered by the first argument.
The spec does not say (log 18). -/
opaque Config.unwrittenBlock : Nat → Nat → BlockData

/-- Byte `b` of absent field `f` of the reply or notice numbered `z`: R205 says that a field's own bytes follow whatever its
present flag holds, and not what they are when it says absent (log 16). -/
opaque Config.absentByte (z f b : Nat) : Byte

/-- How a number too great for a four-byte LFN field travels in one: the spec does not say (log 17). -/
opaque Config.wideLfn : Nat → BitVec 32

end Sys2Proof
end

