-- ==== Sys2Proof/Machine/State.lean ====
section
/-!
DEFINITION. The state of the ZR-416 as plain data, block by block as spec/00 lists them, and its value right after reset.
-/

namespace Sys2Proof.Machine

/-- Why the part stops. -/
inductive Fault where
  /-- Raised by BLOCK_COMPLETION alone, when the block in service has a number that the frame store does not have (spec/08, 8.1:
  blocks 0 to 262,143). Safe: R154 says no transfer names such a block, and the model stops where the store has nothing. -/
  | noSuchBlock
  deriving DecidableEq, Repr

/-- Why the model gives a command no meaning. -/
inductive Refusal where
  /-- Raised for a command without a meaning; no command is without one. Safe: the model stops. -/
  | notModelled (mnemonic : String)
  deriving DecidableEq, Repr

/-! ### Values shared by several blocks -/

/-- hh:mm:ss:ff (spec/01, 1.1). -/
structure Timecode where
  hh : Nat
  mm : Nat
  ss : Nat
  ff : Nat
  deriving DecidableEq, Repr

/-- The reply statuses (spec/11, 11.9). -/
inductive Status where
  | ok | accepted | saveKept | frameCheck | badKind | badLength | badField | level | rights | notOwner | channelHeld
  | busy | wrongState | clipFree | clipAbsent | clipOpen | clipLocked | clipInUse | tableFull | range | noFrames
  | lockBudget | lockedFrames | overlap | noRoom | segmentActive | nothingSaved | entryRange | emptyEntry | offset
  deriving DecidableEq, Repr

/-- The eleven notice classes, in the order of their numbers (spec/11, 11.9). -/
inductive NoticeClass where
  | reference | store | lane | clip | exporting | mark | segue | cadence | sync | channel | cue
  deriving DecidableEq, Repr

/-- A queued notice (R197): class, code within the class, subject, the RPN at posting, and its data bytes. -/
structure Notice where
  cls     : NoticeClass
  code    : Nat
  subject : Nat
  rpn     : Count32
  data    : List Byte
  deriving DecidableEq, Repr

/-! ### Reference Unit (spec/01) -/

inductive RefState where
  | freeRun | holdover | locked
  deriving DecidableEq, Repr

/-- N and W in µs, and the timecode frame rate F (R13). -/
structure RefConfig where
  n : Nat
  w : Nat
  f : Nat
  deriving DecidableEq, Repr

structure Refu where
  state    : RefState
  config   : RefConfig
  pending  : Option RefConfig
  /-- µs since the last tick, as of what was last measured: a tick, the release, a pulse or an expiry (R1; log 6). -/
  interval : Nat
  /-- The window timer's one expiry, in µs after the last tick (R3). -/
  expiry   : Nat
  holdover : Nat
  rpn      : Count32
  timecode : Timecode
  waiting  : Option Timecode
  deriving DecidableEq, Repr

/-! ### Ingest Lanes and Frame Index (spec/02) -/

inductive LaneState where
  | off | stopped | recording | stopping
  deriving DecidableEq, Repr

inductive EntryStatus where
  | writing | good
  deriving DecidableEq, Repr

/-- One entry of a lane's partition (2.4). -/
structure Entry where
  lfn       : Nat
  slot      : Nat
  status    : EntryStatus
  rpn       : Count32
  timecode  : Timecode
  phase     : Nat
  readCount : Nat
  deriving DecidableEq, Repr

/-- Why a lane left RECORDING (R20). -/
inductive StopCause where
  | recStop | exhaustion
  deriving DecidableEq, Repr

/-- What an ingest port is delivering (R156, R157): nothing, a frame told TAKE with the blocks it has brought so far, or a frame
whose blocks it drops. -/
inductive PortFrame where
  | idle
  | taking (lfn blocks : Nat)
  | dropping
  deriving DecidableEq, Repr

/-- A frame told TAKE, with the blocks the ingest port has brought of it (R156, R157). -/
structure TakenFrame where
  lfn    : Nat
  blocks : Nat
  deriving DecidableEq, Repr

/-- A lane and its partition. Next LFN is `periodBase + arrivals`; floor and newest GOOD are read from the entries (R26). -/
structure Lane where
  state          : LaneState
  p              : Nat
  s              : Nat
  k              : Nat
  base           : Nat
  h              : Nat
  signal         : Bool
  /-- In order of LFN, oldest first. -/
  entries        : List Entry
  /-- In ascending order. -/
  freeSlots      : List Nat
  held           : Nat
  periodBase     : Nat
  arrivals       : Nat
  newestAssigned : Option Nat
  stopCause      : StopCause
  accepted       : Count32
  overs          : Count32
  overruns       : Count32
  damaged        : Count32
  evicted        : Count32
  port           : PortFrame
  /-- The taken frames that the port has gone on from and not yet ended, oldest first (R158; log 25). -/
  unended        : List TakenFrame
  deriving DecidableEq, Repr

/-! ### Clip Table (spec/03) -/

inductive ClipState where
  | free | opened | closed | absent
  deriving DecidableEq, Repr

/-- One clip record (3.1). -/
structure Clip where
  state       : ClipState
  lane        : Fin 8
  inLfn       : Nat
  out         : Option Nat
  planned     : Option Nat
  opLock      : Bool
  exportLock  : Bool
  vl          : Nat
  el          : Nat
  label       : List Byte
  inTc        : Option Timecode
  outTc       : Option Timecode
  useCount    : Nat
  creationRpn : Count32
  deriving DecidableEq, Repr

/-- The FREE record (R44). -/
def Clip.free : Clip :=
  { state := .free, lane := 0, inLfn := 0, out := none, planned := none, opLock := false, exportLock := false, vl := 3, el := 3,
    label := [], inTc := none, outTc := none, useCount := 0, creationRpn := 0 }

/-! ### Mark Lines (spec/04) -/

inductive LineAction where
  | none | markIn | markOut | markSnap | continuePlay | snapLive | resume
  deriving DecidableEq, Repr

inductive LineBinding where
  | channel (c : Fin 4)
  | lane (l : Fin 8)
  deriving DecidableEq, Repr

inductive Edge where
  | rising | falling
  deriving DecidableEq, Repr

structure MarkLine where
  action       : LineAction
  binding      : LineBinding
  edge         : Edge
  holdOff      : Nat
  preRoll      : Nat
  postRoll     : Nat
  vl           : Nat
  el           : Nat
  lockOnCreate : Bool
  actingLevel  : Nat
  snapLane     : Fin 8
  snapDelay    : Nat
  workingClip  : Nat
  counter      : Nat
  /-- The input level last seen (R73). -/
  level        : Bool
  deriving DecidableEq, Repr

/-! ### Jog Counters and Lever Converter (spec/05) -/

/-- A Jog Motion on its way to its channel (R91). -/
structure JogMotion where
  channel  : Fin 4
  detents  : Int
  step     : Nat
  takeover : Bool
  deriving DecidableEq, Repr

structure Jog where
  a        : Bool
  b        : Bool
  count    : BitVec 16
  glitch   : Bool
  binding  : Option (Fin 4)
  counts   : Nat
  step     : Nat
  takeover : Bool
  /-- Delivered by the jog and not yet taken by the channel, oldest first (log 9). -/
  motions  : List JogMotion
  deriving DecidableEq, Repr

/-- The last completed conversion of a lever (R96). -/
structure LeverResult where
  value  : Nat
  target : Int
  inBand : Bool
  deriving DecidableEq, Repr

/-- A Lever Motion on its way to its channel (R96). -/
structure LeverMotion where
  channel  : Fin 4
  target   : Int
  inBand   : Bool
  takeover : Bool
  deriving DecidableEq, Repr

structure Lever where
  binding   : Option (Fin 4)
  centre    : Nat
  halfWidth : Nat
  takeover  : Bool
  /-- The 17 speed points (R98). -/
  curve     : List Int
  last      : Option LeverResult
  skipped   : BitVec 16
  /-- Delivered by the converter and not yet taken by the channel, oldest first (log 9). -/
  motions   : List LeverMotion
  deriving DecidableEq, Repr

/-! ### Playout Channels and running orders (spec/06, spec/07) -/

inductive ChannelState where
  | idle | cued | playing | paused | shuttle | jog | live
  deriving DecidableEq, Repr

inductive Source where
  | none
  | clip (n : Nat)
  | lane (l : Fin 8)
  | live (l : Fin 8) (delay : Nat)
  deriving DecidableEq, Repr

inductive RoundMode where
  | floor | nearest
  deriving DecidableEq, Repr

/-- The running-order position and the two resolved offsets of the segment range, present together (R136). -/
structure Running where
  bank        : Fin 8
  entry       : Fin 32
  startOffset : Nat
  endOffset   : Nat
  deriving DecidableEq, Repr

/-- A segue request (R136). `release` is the NEXT that releasing a hold sets (R146), told apart by its cause (R152). -/
inductive SegueRequest where
  | start | next | release
  | goto (e : Fin 32)
  | chain (b : Fin 8)
  deriving DecidableEq, Repr

/-- Lane, LFN and slot of a frame (6.1). -/
structure FrameRef where
  lane : Fin 8
  lfn  : Nat
  slot : Nat
  deriving DecidableEq, Repr

/-- The saved context of SNAP (6.1). -/
structure SavedContext where
  state    : ChannelState
  source   : Source
  position : Nat
  current  : Int
  target   : Int
  ramp     : Nat
  round    : RoundMode
  running  : Option Running
  hold     : Bool
  deriving DecidableEq, Repr

structure Channel where
  state     : ChannelState
  owner     : Option (Fin 16)
  level     : Nat
  source    : Source
  running   : Option Running
  hold      : Bool
  request   : Option SegueRequest
  /-- In units of 1/256 frame. -/
  position  : Nat
  current   : Int
  target    : Int
  ramp      : Nat
  round     : RoundMode
  jogAcc    : Int
  onAir     : Option FrameRef
  next      : Option FrameRef
  fetch     : Option FrameRef
  /-- Bit i is the flag of code i in R132. -/
  flags     : BitVec 8
  enables   : BitVec 8
  lastFault : Option Status
  saved     : Option SavedContext
  deriving DecidableEq, Repr

/-- What an output port shows (R118). -/
inductive Picture where
  | black
  | body (blocks : List BlockData)
  deriving DecidableEq, Repr

/-- An output port (8.4): its staging body, void or the blocks streamed so far, and the picture on air. -/
structure OutputPort where
  staging : Option (List BlockData)
  picture : Picture
  deriving DecidableEq, Repr

/-- The end actions of a segment record (R133); SKIP, GOTO and CHAIN take the record's number. -/
inductive EndKind where
  | next | hold | loop | skip | goto | chain | stop
  deriving DecidableEq, Repr

/-- A segment record as written (R133): an offset is absent when its flag is clear. -/
structure Segment where
  clip      : Nat
  hasStart  : Bool
  start     : Nat
  hasEnd    : Bool
  endOffset : Nat
  speed     : Int
  action    : EndKind
  number    : Int
  deriving DecidableEq, Repr

/-- The empty record after reset (R133). That its number byte, which STOP does not use, and the bytes of its absent offsets are 0 is the
model's choice (log 37, log 16). -/
def Segment.empty : Segment :=
  { clip := 0, hasStart := false, start := 0, hasEnd := false, endOffset := 0, speed := 0, action := .stop, number := 0 }

/-! ### Transfer Engine (spec/08) -/

/-- A frame write in a lane's queue (R155 to R158). The blocks delivered by the port are the `granted` ones and those waiting. -/
structure FrameWrite where
  lfn        : Nat
  slot       : Nat
  firstBlock : Nat
  size       : Nat
  granted    : Nat
  done       : Nat
  waiting    : List BlockData
  /-- The good frame end has been recorded (R158). -/
  ended      : Bool
  deriving DecidableEq, Repr

/-- A playout fetch (R160). -/
structure Fetch where
  frame      : FrameRef
  firstBlock : Nat
  size       : Nat
  granted    : Nat
  done       : Nat
  deriving DecidableEq, Repr

/-- An export block read (R155). -/
structure BlockRead where
  block : Nat
  lane  : Fin 8
  lfn   : Nat
  index : Nat
  deriving DecidableEq, Repr

/-- For whom the block in service is moved. A cancelled or dropped transfer leaves its block in service counted to nobody
(R159, R167). -/
inductive Serving where
  | write (lane : Fin 8) (lfn : Nat) (data : BlockData)
  | fetch (c : Fin 4) (index : Nat)
  | exportRead
  | orphanWrite (data : BlockData)
  | orphanRead
  deriving DecidableEq, Repr

structure InService where
  block : Nat
  use   : Serving
  deriving DecidableEq, Repr

structure Xfer where
  ingest      : Vector (List FrameWrite) 8
  fetch       : Vector (Option Fetch) 4
  exportRead  : Option BlockRead
  /-- The store is busy while a block is in service. -/
  service     : Option InService
  lastLane    : Fin 8
  lastChannel : Fin 4
  deriving DecidableEq, Repr

/-! ### Export Channel (spec/09) -/

inductive ExportState where
  | idle | running
  deriving DecidableEq, Repr

inductive ExportResult where
  | complete | aborted | stalled
  deriving DecidableEq, Repr

/-- The frame an export is reading (R169). -/
structure ExportFrame where
  lfn    : Nat
  slot   : Nat
  sent   : Nat
  failed : Bool
  deriving DecidableEq, Repr

structure Exporter where
  state      : ExportState
  clip       : Nat
  lane       : Fin 8
  fromOffset : Nat
  toOffset   : Nat
  first      : Nat
  last       : Nat
  tag        : Nat
  next       : Nat
  frame      : Option ExportFrame
  abort      : Bool
  sent       : Count32
  gaps       : Count32
  /-- A Gap record has been sent (R179); `gaps` cannot tell after it has wrapped (log 44). -/
  gapSent    : Bool
  damaged    : Count32
  stall      : Nat
  limit      : Nat
  lastResult : Option ExportResult
  deriving DecidableEq, Repr

/-! ### Cue Lines (spec/10) -/

inductive CueMode where
  | off | compare | segment | state
  deriving DecidableEq, Repr

inductive CueDirection where
  | forward | reverse | either
  deriving DecidableEq, Repr

inductive CueRearm where
  | once | every
  deriving DecidableEq, Repr

inductive CueAction where
  | pulse (n : Nat)
  | set | clear | toggle
  deriving DecidableEq, Repr

structure CueLine where
  mode       : CueMode
  channel    : Fin 4
  compareLfn : Nat
  direction  : CueDirection
  rearm      : CueRearm
  action     : CueAction
  /-- The idle level is high. -/
  idleHigh   : Bool
  bank       : Fin 8
  entry      : Fin 32
  /-- The output stands at the active level. -/
  active     : Bool
  pulse      : Nat
  armed      : Bool
  deriving DecidableEq, Repr

/-! ### Link Interface (spec/11) -/

/-- The receiver with the frame under reception (R190). -/
inductive Receiver where
  | hunt
  | receiving (chars : List Byte)
  | skip
  deriving DecidableEq, Repr

/-- A queued reply (R196); its indicator character is formed when it begins to be sent. -/
structure Reply where
  tag       : Byte
  kind      : Byte
  status    : Status
  body      : List Byte
  indicator : Option Byte
  deriving DecidableEq, Repr

structure Link where
  unitAddress : Fin 8
  linkRate    : Fin 4
  receiver    : Receiver
  /-- The first is the one being sent. -/
  replies     : List Reply
  overrun     : Bool
  overflow    : Bool
  stations    : Vector Nat 16
  levels      : Vector Nat 11
  /-- Oldest first. -/
  notices     : List Notice
  deriving DecidableEq, Repr

/-! ### What leaves the part -/

/-- What the part tells its ports and its link, in the order it does (log 19). -/
inductive Emission where
  | take (lane : Fin 8) (lfn : Nat)
  | discard (lane : Fin 8)
  /-- The port is to drop the blocks it holds: those of one frame, named by its LFN, or of every frame (log 45). -/
  | dropBlocks (lane : Fin 8) (frame : Option Nat)
  | present (c : Fin 4)
  | repeatPicture (c : Fin 4)
  | black (c : Fin 4)
  | portRecord (bytes : List Byte)
  | portBlock (data : BlockData)
  | reply (chars : List Byte)
  deriving DecidableEq, Repr

/-- The whole part, and the queue of events on their way to it. -/
structure State where
  resetHeld : Bool
  refu      : Refu
  lanes     : Vector Lane 8
  /-- The records that are not FREE, by clip number, in ascending order. -/
  clips     : List (Nat × Clip)
  marks     : Vector MarkLine 8
  jogs      : Vector Jog 4
  levers    : Vector Lever 4
  scanList  : List (Fin 4)
  underWay  : Option (Fin 4)
  channels  : Vector Channel 4
  outPorts  : Vector OutputPort 4
  banks     : Vector (Vector Segment 32) 8
  xfer      : Xfer
  /-- The frame store: the blocks written since power-on, by block number, in ascending order. -/
  store     : List (Nat × BlockData)
  storeEpoch : Nat
  exporter  : Exporter
  xrdy      : Bool
  cues      : Vector CueLine 8
  link      : Link
  emitted   : List Emission
  fresh     : Nat
  pending   : List Instr
  deriving DecidableEq, Repr

/-! ### Values after reset -/

/-- R15. -/
def Refu.powerOn : Refu :=
  { state := .freeRun, config := { n := 20000, w := 200, f := 25 }, pending := none, interval := 0, expiry := 20000,
    holdover := 0, rpn := 0, timecode := { hh := 0, mm := 0, ss := 0, ff := 0 }, waiting := none }

/-- R43. -/
def Lane.powerOn : Lane :=
  { state := .off, p := 0, s := 0, k := 0, base := 0, h := 0, signal := false, entries := [], freeSlots := [], held := 0,
    periodBase := 0, arrivals := 0, newestAssigned := none, stopCause := .recStop, accepted := 0, overs := 0, overruns := 0,
    damaged := 0, evicted := 0, port := .idle, unended := [] }

/-- R72. -/
def MarkLine.powerOn : MarkLine :=
  { action := .none, binding := .channel 0, edge := .falling, holdOff := 4, preRoll := 0, postRoll := 0, vl := 3, el := 3,
    lockOnCreate := false, actingLevel := 3, snapLane := 0, snapDelay := 0, workingClip := 0, counter := 0, level := false }

/-- R94, for jog `k`. -/
def Jog.powerOn (k : Fin 4) : Jog :=
  { a := false, b := false, count := 0, glitch := false, binding := some k, counts := 4, step := 1, takeover := true,
    motions := [] }

/-- The curve after power-on: point i is (i − 8) × 256 (R102). -/
def Lever.powerOnCurve : List Int :=
  (List.range 17).map fun i => ((i : Int) - 8) * 256

/-- R102, for lever `k`. -/
def Lever.powerOn (k : Fin 4) : Lever :=
  { binding := some k, centre := 512, halfWidth := 16, takeover := true, curve := Lever.powerOnCurve, last := none,
    skipped := 0, motions := [] }

/-- R103 and R136, after either reset. -/
def Channel.reset : Channel :=
  { state := .idle, owner := none, level := 3, source := .none, running := none, hold := false, request := none, position := 0,
    current := 0, target := 0, ramp := 8192, round := .nearest, jogAcc := 0, onAir := none, next := none, fetch := none,
    flags := 0, enables := 0, lastFault := none, saved := none }

/-- R168, after either reset but for the block in service. -/
def Xfer.reset : Xfer :=
  { ingest := Vector.replicate 8 [], fetch := Vector.replicate 4 none, exportRead := none, service := none, lastLane := 7,
    lastChannel := 3 }

/-- R169, after either reset. -/
def Exporter.reset : Exporter :=
  { state := .idle, clip := 0, lane := 0, fromOffset := 0, toOffset := 0, first := 0, last := 0, tag := 0, next := 0,
    frame := none, abort := false, sent := 0, gaps := 0, gapSent := false, damaged := 0, stall := 0, limit := 100, lastResult := none }

/-- R182. -/
def CueLine.powerOn : CueLine :=
  { mode := .off, channel := 0, compareLfn := 0, direction := .forward, rearm := .once, action := .pulse 1, idleHigh := false,
    bank := 0, entry := 0, active := false, pulse := 0, armed := true }

/-- R203. -/
def Link.powerOn : Link :=
  { unitAddress := 0, linkRate := 0, receiver := .hunt, replies := [], overrun := false, overflow := false,
    stations := (Vector.replicate 16 3).set 0 0, levels := #v[1, 1, 3, 4, 4, 5, 5, 6, 6, 7, 15], notices := [] }

/-- Every ROS entry empty (R133, R153). -/
def State.emptyBanks : Vector (Vector Segment 32) 8 :=
  Vector.replicate 8 (Vector.replicate 32 Segment.empty)

/-- The part with the RESET pin held: every block at its power-on values (R15, R43, R44, R72, R94, R102, R103, R133, R168, R169,
R182, R203). -/
def State.powerOn : State :=
  { resetHeld := true, refu := Refu.powerOn, lanes := Vector.replicate 8 Lane.powerOn, clips := [],
    marks := Vector.replicate 8 MarkLine.powerOn,
    jogs := #v[Jog.powerOn 0, Jog.powerOn 1, Jog.powerOn 2, Jog.powerOn 3],
    levers := #v[Lever.powerOn 0, Lever.powerOn 1, Lever.powerOn 2, Lever.powerOn 3],
    scanList := [], underWay := none, channels := Vector.replicate 4 Channel.reset,
    outPorts := Vector.replicate 4 { staging := none, picture := .black }, banks := State.emptyBanks, xfer := Xfer.reset,
    store := [], storeEpoch := 0, exporter := Exporter.reset, xrdy := false, cues := Vector.replicate 8 CueLine.powerOn,
    link := Link.powerOn, emitted := [], fresh := 0, pending := [] }

/-- The part right after the release of power-on reset, with the straps and input levels of log 4. -/
def State.reset : State :=
  { State.powerOn with resetHeld := false }

end Sys2Proof.Machine
end

