-- ==== Sys2Proof/Machine/Operands.lean ====
section
/-!
DEFINITION. The fields of commands, replies and notices: which values of a field name what, and the bytes each field takes
(R205). Codes are those of R205's table, else the value's place in the list its definition gives.
-/

namespace Sys2Proof.Machine

/-! ### Reading the fields of a command -/

/-- The number `n` as one of `k` numbered things. -/
def fin? (k n : Nat) : Option (Fin k) :=
  if h : n < k then some ⟨n, h⟩ else none

/-- A yes-or-no field: 0 for no, 1 for yes, and nothing else is in its range (R205; log 14). -/
def flag? : Nat → Option Bool
  | 0 => some false
  | 1 => some true
  | _ => none

/-- A channel or none: kind 0 with a channel, kind 1 none (R92, R99, R205). -/
def channelBinding? (kind channel : Nat) : Option (Option (Fin 4)) :=
  match kind with
  | 0 => (fin? 4 channel).map some
  | 1 => some none
  | _ => none

/-- A line's binding: kind 0 a channel, kind 1 a lane (R71, R205). -/
def lineBinding? (kind channel lane : Nat) : Option LineBinding :=
  match kind with
  | 0 => (fin? 4 channel).map .channel
  | 1 => (fin? 8 lane).map .lane
  | _ => none

def lineAction? : Nat → Option LineAction
  | 0 => some .none
  | 1 => some .markIn
  | 2 => some .markOut
  | 3 => some .markSnap
  | 4 => some .continuePlay
  | 5 => some .snapLive
  | 6 => some .resume
  | _ => none

def edge? : Nat → Option Edge
  | 0 => some .rising
  | 1 => some .falling
  | _ => none

def roundMode? : Nat → Option RoundMode
  | 0 => some .floor
  | 1 => some .nearest
  | _ => none

def endKind? : Nat → Option EndKind
  | 0 => some .next
  | 1 => some .hold
  | 2 => some .loop
  | 3 => some .skip
  | 4 => some .goto
  | 5 => some .chain
  | 6 => some .stop
  | _ => none

def cueMode? : Nat → Option CueMode
  | 0 => some .off
  | 1 => some .compare
  | 2 => some .segment
  | 3 => some .state
  | _ => none

def cueDirection? : Nat → Option CueDirection
  | 0 => some .forward
  | 1 => some .reverse
  | 2 => some .either
  | _ => none

def cueRearm? : Nat → Option CueRearm
  | 0 => some .once
  | 1 => some .every
  | _ => none

/-- The action of a cue line; `n` is the pulse's number of ticks (R181; log 39). -/
def cueAction? (code n : Nat) : Option CueAction :=
  match code with
  | 0 => if 1 ≤ n ∧ n ≤ 255 then some (.pulse n) else none
  | 1 => some .set
  | 2 => some .clear
  | 3 => some .toggle
  | _ => none

/-- The speed field of PLAY, SPEED and SYNC PLAY (R111). -/
inductive SpeedField where
  | exact (v : Int)
  | percent (v : Int)
  | segment
  deriving DecidableEq, Repr

/-- R111: EXACT within ±8,192, PERCENT within ±3,200 tenths of a percent, SEGMENT. -/
def speedField? (kind : Nat) (v : Int) : Option SpeedField :=
  match kind with
  | 0 => if -8192 ≤ v ∧ v ≤ 8192 then some (.exact v) else none
  | 1 => if -3200 ≤ v ∧ v ≤ 3200 then some (.percent v) else none
  | 2 => some .segment
  | _ => none

/-- A ramp step of 1 to 8,192 (R111). -/
def rampStep? (n : Nat) : Option Nat :=
  if 1 ≤ n ∧ n ≤ 8192 then some n else none

/-- A segment record within the ranges of R133. -/
def segment? (r : SegmentFields) : Option Segment := do
  let hasStart ← flag? r.hasStart
  let hasEnd ← flag? r.hasEnd
  let action ← endKind? r.action
  if r.clip ≤ 1023 ∧ r.start ≤ maxLfn ∧ r.endOffset ≤ maxLfn ∧ -8192 ≤ r.speed ∧ r.speed ≤ 8192 ∧
      (action = .skip → -16 ≤ r.number ∧ r.number ≤ 15) ∧
      (action = .goto → 0 ≤ r.number ∧ r.number ≤ 31) ∧
      (action = .chain → 0 ≤ r.number ∧ r.number ≤ 7) then
    some { clip := r.clip, hasStart, start := r.start, hasEnd, endOffset := r.endOffset, speed := r.speed, action,
           number := r.number }
  else none

/-! ### Codes of the values a field names -/

/-- The reply status table (11.9). -/
def Status.code : Status → Nat
  | .ok => 0x00 | .accepted => 0x01 | .saveKept => 0x02 | .frameCheck => 0x10 | .badKind => 0x11 | .badLength => 0x12
  | .badField => 0x13 | .level => 0x14 | .rights => 0x15 | .notOwner => 0x16 | .channelHeld => 0x17 | .busy => 0x18
  | .wrongState => 0x19 | .clipFree => 0x1C | .clipAbsent => 0x1D | .clipOpen => 0x1E | .clipLocked => 0x1F
  | .clipInUse => 0x20 | .tableFull => 0x21 | .range => 0x22 | .noFrames => 0x23 | .lockBudget => 0x24
  | .lockedFrames => 0x25 | .overlap => 0x26 | .noRoom => 0x27 | .segmentActive => 0x28 | .nothingSaved => 0x29
  | .entryRange => 0x2A | .emptyEntry => 0x2B | .offset => 0x2C

/-- OK, ACCEPTED and SAVE_KEPT report success (11.9). -/
def Status.success : Status → Bool
  | .ok | .accepted | .saveKept => true
  | .frameCheck | .badKind | .badLength | .badField | .level | .rights | .notOwner | .channelHeld | .busy | .wrongState
  | .clipFree | .clipAbsent | .clipOpen | .clipLocked | .clipInUse | .tableFull | .range | .noFrames | .lockBudget
  | .lockedFrames | .overlap | .noRoom | .segmentActive | .nothingSaved | .entryRange | .emptyEntry | .offset => false

/-- The class numbers of 11.9. -/
def NoticeClass.number : NoticeClass → Fin 11
  | .reference => 0 | .store => 1 | .lane => 2 | .clip => 3 | .exporting => 4 | .mark => 5 | .segue => 6 | .cadence => 7
  | .sync => 8 | .channel => 9 | .cue => 10

def RefState.code : RefState → Nat
  | .freeRun => 0 | .holdover => 1 | .locked => 2

def LaneState.code : LaneState → Nat
  | .off => 0 | .stopped => 1 | .recording => 2 | .stopping => 3

def ChannelState.code : ChannelState → Nat
  | .idle => 0 | .cued => 1 | .playing => 2 | .paused => 3 | .shuttle => 4 | .jog => 5 | .live => 6

def ClipState.code : ClipState → Nat
  | .free => 0 | .opened => 1 | .closed => 2 | .absent => 3

def ExportState.code : ExportState → Nat
  | .idle => 0 | .running => 1

def EntryStatus.code : EntryStatus → Nat
  | .writing => 0 | .good => 1

def StopCause.code : StopCause → Nat
  | .recStop => 0 | .exhaustion => 1

def LineAction.code : LineAction → Nat
  | .none => 0 | .markIn => 1 | .markOut => 2 | .markSnap => 3 | .continuePlay => 4 | .snapLive => 5 | .resume => 6

def RoundMode.code : RoundMode → Nat
  | .floor => 0 | .nearest => 1

def EndKind.code : EndKind → Nat
  | .next => 0 | .hold => 1 | .loop => 2 | .skip => 3 | .goto => 4 | .chain => 5 | .stop => 6

/-- The result byte of the End record and of EXPORT/END (9.3, R179). -/
def ExportResult.code : ExportResult → Nat
  | .complete => 0 | .aborted => 1 | .stalled => 2

/-- The last result in EXPORT STATUS: its place in none, COMPLETE, ABORTED, STALLED (R169, R205). -/
def lastResultCode : Option ExportResult → Nat
  | none => 0
  | some r => r.code + 1

def CueMode.code : CueMode → Nat
  | .off => 0 | .compare => 1 | .segment => 2 | .state => 3

def CueDirection.code : CueDirection → Nat
  | .forward => 0 | .reverse => 1 | .either => 2

def CueRearm.code : CueRearm → Nat
  | .once => 0 | .every => 1

def CueAction.code : CueAction → Nat
  | .pulse _ => 0 | .set => 1 | .clear => 2 | .toggle => 3

/-- The pulse's number, 0 for an action without one (log 39). -/
def CueAction.number : CueAction → Nat
  | .pulse n => n
  | .set | .clear | .toggle => 0

/-! ### The bytes of a field (R205) -/

/-- A number in `w` bytes, the least significant first. -/
def leBytes : Nat → Nat → List Byte
  | 0, _ => []
  | w + 1, n => BitVec.ofNat 8 n :: leBytes w (n / 256)

/-- A signed number in `w` bytes, two's complement. -/
def leInt (w : Nat) (i : Int) : List Byte :=
  leBytes w (i % (256 ^ w : Nat)).toNat

/-- The number that bytes spell, the least significant first. -/
def leNat : List Byte → Nat
  | [] => 0
  | b :: t => b.toNat + 256 * leNat t

/-- The signed number that bytes spell in two's complement. -/
def leSigned (bs : List Byte) : Int :=
  let n := leNat bs
  if 2 * n < 256 ^ bs.length then n else (n : Int) - (256 ^ bs.length : Nat)

def flagBytes (b : Bool) : List Byte :=
  [if b then 1 else 0]

/-- An LFN in four bytes; a greater number's bytes are free (log 17). -/
def lfnBytes (n : Nat) : List Byte :=
  leBytes 4 (if n ≤ maxLfn then n else (Config.wideLfn n).toNat)

/-- A playhead position: its fraction, then its LFN. -/
def positionBytes (p : Nat) : List Byte :=
  leBytes 1 p ++ lfnBytes (p / 256)

def Timecode.bytes (t : Timecode) : List Byte :=
  leBytes 1 t.hh ++ leBytes 1 t.mm ++ leBytes 1 t.ss ++ leBytes 1 t.ff

/-- The own bytes of a field that is absent: free (log 16). -/
def absentBytes (z f w : Nat) : List Byte :=
  (List.range w).map (Config.absentByte z f)

/-- The own bytes of a field that may be absent, `w` of them. -/
def ownBytes (z f w : Nat) : Option (List Byte) → List Byte
  | some bs => bs
  | none => absentBytes z f w

/-- A field that may be absent: its present flag, then its own bytes. -/
def optBytes (z f w : Nat) (o : Option (List Byte)) : List Byte :=
  flagBytes o.isSome ++ ownBytes z f w o

/-- A channel or none: kind and channel (R205). -/
def bindingBytes : Option (Fin 4) → List Byte
  | some c => leBytes 1 0 ++ leBytes 1 c.val
  | none => leBytes 1 1 ++ leBytes 1 0

/-- An owner: none, or a station (6.1, R205). -/
def ownerBytes : Option (Fin 16) → List Byte
  | none => leBytes 1 0 ++ leBytes 1 0
  | some st => leBytes 1 1 ++ leBytes 1 st.val

/-- A channel's source: none, clip, lane, or lane live with a delay (6.1, R205). -/
def Source.bytes : Source → List Byte
  | .none => leBytes 1 0 ++ leBytes 2 0 ++ leBytes 1 0 ++ leBytes 2 0
  | .clip n => leBytes 1 1 ++ leBytes 2 n ++ leBytes 1 0 ++ leBytes 2 0
  | .lane l => leBytes 1 2 ++ leBytes 2 0 ++ leBytes 1 l.val ++ leBytes 2 0
  | .live l d => leBytes 1 3 ++ leBytes 2 0 ++ leBytes 1 l.val ++ leBytes 2 d

def FrameRef.bytes (f : FrameRef) : List Byte :=
  leBytes 1 f.lane.val ++ lfnBytes f.lfn ++ leBytes 2 f.slot

/-- A running-order position: bank and entry. -/
def Running.positionBytes (r : Running) : List Byte :=
  leBytes 1 r.bank.val ++ leBytes 1 r.entry.val

/-- A segue request: its code and its number (R136, R205). -/
def requestBytes : Option SegueRequest → List Byte
  | none => leBytes 1 0 ++ leBytes 1 0
  | some .start => leBytes 1 1 ++ leBytes 1 0
  | some .next => leBytes 1 2 ++ leBytes 1 0
  | some .release => leBytes 1 2 ++ leBytes 1 0
  | some (.goto e) => leBytes 1 3 ++ leBytes 1 e.val
  | some (.chain b) => leBytes 1 4 ++ leBytes 1 b.val

/-- A segment record as written (R133, R135, R205). -/
def Segment.bytes (g : Segment) : List Byte :=
  leBytes 2 g.clip ++ flagBytes g.hasStart ++ leBytes 4 g.start ++ flagBytes g.hasEnd ++ leBytes 4 g.endOffset ++
    leInt 2 g.speed ++ leBytes 1 g.action.code ++ leInt 1 g.number

/-- A notice record (11.9). -/
def Notice.bytes (n : Notice) : List Byte :=
  leBytes 1 n.cls.number.val ++ leBytes 1 n.code ++ leBytes 2 n.subject ++ leBytes 4 n.rpn.toNat ++
    leBytes 1 n.data.length ++ n.data

/-- The mask of the numbers in `l` (R205): bit i for the number i. -/
def maskOf (l : List Nat) : BitVec 8 :=
  l.foldl (fun m i => m ||| BitVec.ofNat 8 (2 ^ i)) 0

/-- The bits of one byte. -/
def maskByte (m : BitVec 8) : List Byte :=
  [m]

end Sys2Proof.Machine
end

