-- ==== Sys2Proof/Machine/Sparse.lean ====
section
/-!
DEFINITION. Tables with few entries, kept as lists of number and value in ascending order of number: the Clip Table's records
that are not FREE, and the frame store's written blocks.
-/

namespace Sys2Proof.Machine

/-- The value listed for `n`. -/
def Sparse.lookup {α : Type} : List (Nat × α) → Nat → Option α
  | [], _ => none
  | (k, v) :: t, n => if k = n then some v else Sparse.lookup t n

/-- The table with `v` for `n`, its order kept. -/
def Sparse.insert {α : Type} : List (Nat × α) → Nat → α → List (Nat × α)
  | [], n, v => [(n, v)]
  | (k, w) :: t, n, v =>
    if n < k then (n, v) :: (k, w) :: t
    else if n = k then (n, v) :: t
    else (k, w) :: Sparse.insert t n v

/-- The table without `n`. -/
def Sparse.erase {α : Type} (t : List (Nat × α)) (n : Nat) : List (Nat × α) :=
  t.filter fun e => e.1 != n

/-- The numbers rise strictly: each number is listed once, and equal tables are equal lists. -/
abbrev Sparse.Sorted {α : Type} (t : List (Nat × α)) : Prop :=
  t.Pairwise fun a b => a.1 < b.1

end Sys2Proof.Machine
end

