-- ==== Sys2Proof/Machine/Ops.lean ====
section
/-!
DEFINITION. The shared operations: reading and writing each part of the state, what is read from a lane's entries and from a
clip record, the frame store, and the record of what leaves the part.
-/

namespace Sys2Proof.Machine

abbrev allLanes : List (Fin 8) := [0, 1, 2, 3, 4, 5, 6, 7]
abbrev allLines : List (Fin 8) := [0, 1, 2, 3, 4, 5, 6, 7]
abbrev allCues : List (Fin 8) := [0, 1, 2, 3, 4, 5, 6, 7]
abbrev allChannels : List (Fin 4) := [0, 1, 2, 3]
abbrev allLevers : List (Fin 4) := [0, 1, 2, 3]

/-! ### One home for each thing -/

def State.lane (s : State) (l : Fin 8) : Lane := s.lanes[l]
def State.setLane (s : State) (l : Fin 8) (x : Lane) : State := { s with lanes := s.lanes.set l x }
def State.modifyLane (s : State) (l : Fin 8) (f : Lane → Lane) : State := s.setLane l (f (s.lane l))

def State.mark (s : State) (m : Fin 8) : MarkLine := s.marks[m]
def State.setMark (s : State) (m : Fin 8) (x : MarkLine) : State := { s with marks := s.marks.set m x }

def State.jog (s : State) (j : Fin 4) : Jog := s.jogs[j]
def State.setJog (s : State) (j : Fin 4) (x : Jog) : State := { s with jogs := s.jogs.set j x }

def State.lever (s : State) (v : Fin 4) : Lever := s.levers[v]
def State.setLever (s : State) (v : Fin 4) (x : Lever) : State := { s with levers := s.levers.set v x }

def State.channel (s : State) (c : Fin 4) : Channel := s.channels[c]

def State.outPort (s : State) (c : Fin 4) : OutputPort := s.outPorts[c]
def State.setOutPort (s : State) (c : Fin 4) (x : OutputPort) : State := { s with outPorts := s.outPorts.set c x }

def State.segment (s : State) (b : Fin 8) (e : Fin 32) : Segment := s.banks[b][e]
def State.setSegment (s : State) (b : Fin 8) (e : Fin 32) (x : Segment) : State :=
  { s with banks := s.banks.set b (s.banks[b].set e x) }

def State.cue (s : State) (q : Fin 8) : CueLine := s.cues[q]
def State.setCue (s : State) (q : Fin 8) (x : CueLine) : State := { s with cues := s.cues.set q x }

def State.ingest (s : State) (l : Fin 8) : List FrameWrite := s.xfer.ingest[l]
def State.setIngest (s : State) (l : Fin 8) (q : List FrameWrite) : State :=
  { s with xfer := { s.xfer with ingest := s.xfer.ingest.set l q } }

def State.fetchOf (s : State) (c : Fin 4) : Option Fetch := s.xfer.fetch[c]
def State.setFetch (s : State) (c : Fin 4) (f : Option Fetch) : State :=
  { s with xfer := { s.xfer with fetch := s.xfer.fetch.set c f } }

def State.setExportRead (s : State) (r : Option BlockRead) : State :=
  { s with xfer := { s.xfer with exportRead := r } }

def State.setService (s : State) (v : Option InService) : State :=
  { s with xfer := { s.xfer with service := v } }

def State.setExporter (s : State) (e : Exporter) : State := { s with exporter := e }

def State.setRefu (s : State) (r : Refu) : State := { s with refu := r }

def State.setLink (s : State) (k : Link) : State := { s with link := k }

/-- Something leaves the part (log 19). -/
def State.emit (s : State) (e : Emission) : State := { s with emitted := s.emitted ++ [e] }

/-- An event is taken only while the RESET pin is not held (R1, R15, R73, R88, R102, R168, R182, R203). -/
def State.whenRunning (s : State) (f : State → State) : State := if s.resetHeld then s else f s

/-- ATTN is asserted while the notice queue holds at least one notice (R199). -/
def State.attn (s : State) : Bool := !s.link.notices.isEmpty

/-- LTE is driven while a reply is being sent (R189, R203). -/
def State.lte (s : State) : Bool := !s.link.replies.isEmpty

/-- The level on a cue output pin: the idle level or the other one (10.1). -/
def CueLine.pin (q : CueLine) : Bool := xor q.idleHigh q.active

/-! ### The frame store (spec/08, 8.1) -/

/-- The store's one form: block numbers rising, each once, each a block of the store. An unlisted block has not been written. -/
abbrev Memory.wf (m : List (Nat × BlockData)) : Prop :=
  Sparse.Sorted m ∧ ∀ e ∈ m, e.1 < 262144

/-- The contents of a block: what was last written to it, free while nothing has been (R154; log 18). -/
def State.readBlock (s : State) (b : Nat) : BlockData :=
  (Sparse.lookup s.store b).getD (Config.unwrittenBlock s.storeEpoch b)

def State.writeBlock (s : State) (b : Nat) (d : BlockData) : State :=
  { s with store := Sparse.insert s.store b d }

/-! ### What is read from a lane (spec/02, 2.3 and 2.4) -/

def Entry.isGood (e : Entry) : Bool := e.status == .good

/-- The oldest entry's LFN, whatever its status (R26). -/
def Lane.floor (x : Lane) : Option Nat := x.entries.head?.map Entry.lfn

/-- The highest LFN whose entry is GOOD (R26). -/
def Lane.newestGood (x : Lane) : Option Nat := ((x.entries.filter Entry.isGood).getLast?).map Entry.lfn

/-- The lowest LFN the lane may still assign (2.3). -/
def Lane.nextLfn (x : Lane) : Nat := x.periodBase + x.arrivals

def Lane.entryAt (x : Lane) (n : Nat) : Option Entry := x.entries.find? fun e => e.lfn == n

/-- The entries in WRITING are the lane's write queue (2.2). -/
def Lane.writing (x : Lane) : Nat := x.entries.countP fun e => e.status == .writing

/-- Every entry of the lane with this LFN changed by `f`. -/
def Lane.modifyEntry (x : Lane) (n : Nat) (f : Entry → Entry) : Lane :=
  { x with entries := x.entries.map fun e => if e.lfn = n then f e else e }

/-- The free slots with `j` put in its place. -/
def insertSlot : List Nat → Nat → List Nat
  | [], j => [j]
  | k :: t, j => if j < k then j :: k :: t else k :: insertSlot t j

/-- The first block of slot `j` of the lane (R154). -/
def Lane.slotBlock (x : Lane) (j : Nat) : Nat := x.base + j * x.s

/-- The arrival timecode of the lane's entry at an LFN, of any status (R46). -/
def State.entryTimecode (s : State) (l : Fin 8) (n : Nat) : Option Timecode :=
  ((s.lane l).entryAt n).map Entry.timecode

/-! ### The Clip Table (spec/03) -/

/-- The record of clip `n` (R44). -/
def State.clip (s : State) (n : Nat) : Clip := (Sparse.lookup s.clips n).getD Clip.free

/-- The record of clip `n` becomes `c`; a FREE record is listed nowhere. -/
def State.setClip (s : State) (n : Nat) (c : Clip) : State :=
  if c.state = .free then { s with clips := Sparse.erase s.clips n } else { s with clips := Sparse.insert s.clips n c }

/-- A change to the record of a clip that is not FREE. -/
def State.modifyClip (s : State) (n : Nat) (f : Clip → Clip) : State :=
  if (s.clip n).state = .free then s else s.setClip n (f (s.clip n))

/-- A set of LFNs from `lo` to `hi`, or without end (R45). -/
structure LfnRange where
  lo : Nat
  hi : Option Nat
  deriving DecidableEq, Repr

def LfnRange.has (r : LfnRange) (n : Nat) : Bool :=
  r.lo ≤ n && match r.hi with
    | none => true
    | some h => n ≤ h

/-- The range of a clip (R45). -/
def Clip.range (c : Clip) : Option LfnRange :=
  match c.state with
  | .free => none
  | .closed => some { lo := c.inLfn, hi := c.out }
  | .opened => some { lo := c.inLfn, hi := c.planned }
  | .absent => some { lo := c.inLfn, hi := c.out <|> c.planned }

def Clip.covers (c : Clip) (n : Nat) : Bool :=
  match c.range with
  | none => false
  | some r => r.has n

/-- A clip is locked when its operator lock or its export lock is set (3.1). -/
def Clip.locked (c : Clip) : Bool := c.opLock || c.exportLock

/-- The lowest-numbered FREE record, if any (R56). -/
def State.lowestFree (s : State) : Option Nat :=
  ((List.range 1023).map (· + 1)).find? fun n => (s.clip n).state == .free

/-- The timecodes of a record with new points (R46). -/
def State.retimed (s : State) (c : Clip) : Clip :=
  { c with inTc := s.entryTimecode c.lane c.inLfn, outTc := c.out.bind (s.entryTimecode c.lane) }

/-- A block takes a clip into use (R66). -/
def State.takeClip (s : State) (n : Nat) : State := s.modifyClip n fun c => { c with useCount := c.useCount + 1 }

/-- A block leaves a clip (R66). -/
def State.leaveClip (s : State) (n : Nat) : State := s.modifyClip n fun c => { c with useCount := c.useCount - 1 }

/-- A channel's role (current or saved source) moves from one source to another: the clip that enters it is taken and the clip
that leaves it is left, in one event (R107). -/
def State.moveRole (s : State) (old new : Source) : State :=
  let s := match new with
    | .clip n => s.takeClip n
    | .none | .lane _ | .live _ _ => s
  match old with
    | .clip n => s.leaveClip n
    | .none | .lane _ | .live _ _ => s

/-- The lane a source lies on (R17). -/
def State.sourceLane (s : State) : Source → Option (Fin 8)
  | .none => none
  | .clip n => some (s.clip n).lane
  | .lane l => some l
  | .live l _ => some l

/-! ### The Reference Unit as other blocks see it (R16) -/

def State.rpn (s : State) : Count32 := s.refu.rpn

/-! ### Levels (R194) -/

/-- The ceiling of a station in the station table. -/
def State.ceiling (s : State) (st : Fin 16) : Nat := s.link.stations[st]

/-- The effective level of a command: the numerically greater of its claimed level and its station's ceiling. -/
def State.effective (s : State) (h : Header) : Nat := max h.claimed.val (s.ceiling h.station)

/-- The level of a notice class at the moment (R197). -/
def State.classLevel (s : State) (k : NoticeClass) : Nat := s.link.levels[k.number]

end Sys2Proof.Machine
end

