-- ==== Sys2Proof/Machine/Flags.lean ====
section
/-!
DEFINITION. Notices and the notice queue (R197, R198), and the condition flags of the channels (R127).
-/

namespace Sys2Proof.Machine

/-! ### The notice queue -/

/-- The greatest class level among notices. -/
def greatestLevel (level : NoticeClass → Nat) (l : List Notice) : Nat :=
  l.foldl (fun m n => max m (level n.cls)) 0

/-- A list of candidates, oldest first, less the newest of those at the numerically greatest level (R198). -/
def dropLeastUrgent (level : NoticeClass → Nat) (l : List Notice) : List Notice :=
  (l.reverse.eraseP fun n => level n.cls == greatestLevel level l).reverse

/-- A notice is posted (R197, R198). -/
def State.post (s : State) (cls : NoticeClass) (code subject : Nat) (data : List Byte) : State :=
  let n : Notice := { cls, code, subject, rpn := s.rpn, data }
  let s := { s with fresh := s.fresh + 1 }
  if s.classLevel cls = 15 then s
  else if s.link.notices.length < 64 then s.setLink { s.link with notices := s.link.notices ++ [n] }
  else s.setLink { s.link with notices := dropLeastUrgent s.classLevel (s.link.notices ++ [n]), overflow := true }

/-! ### The condition flags of a channel -/

/-- The flags, whose codes are their places (R132). -/
inductive Flag where
  | repeated | clamp | late | quant | segue | store
  deriving DecidableEq, Repr

def Flag.code : Flag → Nat
  | .repeated => 0 | .clamp => 1 | .late => 2 | .quant => 3 | .segue => 4 | .store => 5

def Flag.bit (f : Flag) : BitVec 8 := BitVec.ofNat 8 (2 ^ f.code)

/-- The six flags of a channel; a mask's other bits name nothing (log 15). -/
abbrev flagMask : BitVec 8 := 0x3F

def Channel.hasFlag (x : Channel) (f : Flag) : Bool := x.flags &&& f.bit != 0

/-- The OR of the flags (6.9). -/
def Channel.summary (x : Channel) : Bool := x.flags != 0

/-- The data of CHANNEL/FLAG (R132): the flag, the channel's state, its on-air LFN and whether there is one. -/
def Channel.flagData (z : Nat) (x : Channel) (f : Flag) : List Byte :=
  leBytes 1 f.code ++ leBytes 1 x.state.code ++ ownBytes z 0 4 (x.onAir.map fun r => lfnBytes r.lfn) ++ flagBytes x.onAir.isSome

/-- A flag is set: when it goes from clear to set and its enable is on, CHANNEL/FLAG is posted in the same event (R127). -/
def State.setFlag (s : State) (c : Fin 4) (f : Flag) : State :=
  let x := s.channel c
  if x.hasFlag f then s
  else
    let s := { s with channels := s.channels.set c { x with flags := x.flags ||| f.bit } }
    if x.enables &&& f.bit != 0 then s.post .channel 0 c.val (x.flagData s.fresh f) else s

/-! ### The indicators of a reply (R196) -/

/-- The indicator character: NOTICES_WAITING, QUEUE_OVERFLOW and LINK_OVERRUN in bits 0 to 2 (R204). -/
def Link.indicator (k : Link) : Byte :=
  (if k.notices.isEmpty then 0 else 1) ||| (if k.overflow then 2 else 0) ||| (if k.overrun then 4 else 0)

end Sys2Proof.Machine
end

