-- ==== Sys2Proof/Machine/Index.lean ====
section
/-!
DEFINITION. What the lanes, the Frame Index and the Clip Table do to each other: read claims, the held count, lock admission and
release, eviction, the closes a lane makes, and clips becoming ABSENT (spec/02, 2.4 and 2.5; spec/03, 3.1 and 3.5).
-/

namespace Sys2Proof.Machine

/-! ### Read claims (R32) -/

/-- A read claim is placed on the lane's entry at an LFN. -/
def State.placeClaim (s : State) (l : Fin 8) (n : Nat) : State :=
  s.modifyLane l fun x => x.modifyEntry n fun e => { e with readCount := e.readCount + 1 }

/-- A read claim is removed from the lane's entry at an LFN. -/
def State.removeClaim (s : State) (l : Fin 8) (n : Nat) : State :=
  s.modifyLane l fun x => x.modifyEntry n fun e => { e with readCount := e.readCount - 1 }

/-! ### The held count (R33 to R35) -/

/-- An LFN lies in the range of at least one locked clip of the lane (R33). -/
def State.isHeld (s : State) (l : Fin 8) (n : Nat) : Bool :=
  s.clips.any fun e => e.2.locked && e.2.lane == l && e.2.covers n

/-- The entries of the lane, of any status, in a range and not held. -/
def State.unheldIn (s : State) (l : Fin 8) (r : LfnRange) : Nat :=
  (s.lane l).entries.countP fun e => r.has e.lfn && !s.isHeld l e.lfn

/-- Lock admission of a range by its lane: the held count risen by the entries not already held, or no (R34). -/
def State.admitLock (s : State) (l : Fin 8) (r : LfnRange) : Option State :=
  let n := s.unheldIn l r
  if (s.lane l).held + n > (s.lane l).h then none
  else some (s.modifyLane l fun x => { x with held := x.held + n })

/-- Lock release of a range, taken when the clip's lock flags are already clear: the held count falls by the entries that no
locked clip covers any more (R35). -/
def State.release (s : State) (l : Fin 8) (r : LfnRange) : State :=
  let n := s.unheldIn l r
  s.modifyLane l fun x => { x with held := x.held - n }

/-- A clip's record takes new flags; a release reaches the lane when it loses its last flag (R62). -/
def State.relax (s : State) (n : Nat) (c : Clip) : State :=
  let s' := s.setClip n c
  if c.locked then s'
  else match c.range with
    | none => s'
    | some r => s'.release c.lane r

/-! ### Closes made by the lane (R36, R37, R47) -/

/-- The lane closes a clip at `out` (R47). -/
def State.closeClip (s : State) (n out : Nat) : State :=
  s.modifyClip n fun c =>
    { c with state := .closed, out := some out, planned := none, outTc := s.entryTimecode c.lane out }

/-- The numbers of the clips of a lane for which `p` holds, in ascending order. -/
def State.clipsOf (s : State) (l : Fin 8) (p : Clip → Bool) : List Nat :=
  (s.clips.filter fun e => e.2.lane == l && p e.2).map Prod.fst

/-- An OPEN clip whose planned out the test accepts closes there, and CLIP/CLOSED is posted (R37, R42). -/
def State.closePlannedClip (s : State) (l : Fin 8) (n : Nat) : State :=
  match (s.clip n).planned with
  | none => s
  | some q => (s.closeClip n q).post .clip 0 n (leBytes 1 l.val ++ lfnBytes q)

/-- Every OPEN clip of the lane whose planned out is at or below `bound` closes (R37). -/
def State.closePlanned (s : State) (l : Fin 8) (bound : Nat) : State :=
  (s.clipsOf l fun c => c.state == .opened && (c.planned.any fun q => q ≤ bound)).foldl (fun s n => s.closePlannedClip l n) s

/-- Every OPEN clip of the lane whose planned out is below `bound` closes, as at a tick (R23, R37). -/
def State.closeBelow (s : State) (l : Fin 8) : Nat → State
  | 0 => s
  | bound + 1 => s.closePlanned l bound

/-- The locked clips of the lane whose range contains an LFN (R36). -/
def State.lockedAt (s : State) (l : Fin 8) (n : Nat) : List Nat :=
  s.clipsOf l fun c => c.locked && c.covers n

/-- A clip closes at the lock ceiling, at the newest LFN assigned before the arrival, and CLIP/LOCK_LIMIT is posted (R36, R42). -/
def State.closeAtCeiling (s : State) (l : Fin 8) (out arrival n : Nat) : State :=
  (s.closeClip n out).post .clip 2 n (leBytes 1 l.val ++ lfnBytes out ++ lfnBytes arrival)

/-! ### Clips becoming ABSENT (R38, R48) -/

/-- An unlocked clip becomes ABSENT and CLIP/ABSENT is posted (R42). -/
def State.makeAbsent (s : State) (l : Fin 8) (lfn cause n : Nat) : State :=
  (s.modifyClip n fun c => { c with state := .absent }).post .clip 1 n (leBytes 1 l.val ++ lfnBytes lfn ++ leBytes 1 cause)

def Clip.mayBecomeAbsent (c : Clip) : Bool := !c.locked && (c.state == .opened || c.state == .closed)

/-- The Clip Table's part of an eviction (R38, R48). -/
def State.evictedAt (s : State) (l : Fin 8) (lfn : Nat) : State :=
  (s.clipsOf l fun c => c.mayBecomeAbsent && c.covers lfn).foldl (fun s n => s.makeAbsent l lfn 0 n) s

/-- The Clip Table's part of an accepted LANE CONFIG (R18, R48). -/
def State.laneConfigured (s : State) (l : Fin 8) : State :=
  (s.clipsOf l Clip.mayBecomeAbsent).foldl (fun s n => s.makeAbsent l 0 1 n) s

/-! ### Eviction and slots (R28, R29) -/

/-- The oldest entry that is GOOD, unclaimed and not held (R29). -/
def State.evictable (s : State) (l : Fin 8) : Option Entry :=
  (s.lane l).entries.find? fun e => e.isGood && e.readCount == 0 && !s.isHeld l e.lfn

/-- An entry leaves the partition and its slot joins the free set (R26). -/
def Lane.removeEntry (x : Lane) (e : Entry) : Lane :=
  { x with entries := x.entries.filter (fun y => y.lfn != e.lfn), freeSlots := insertSlot x.freeSlots e.slot }

/-- Eviction of one entry, with its effect on the lane's clips (R29, R38). -/
def State.evict (s : State) (l : Fin 8) (e : Entry) : State :=
  (s.modifyLane l fun x => { x.removeEntry e with evicted := x.evicted + 1 }).evictedAt l e.lfn

/-- The lane is left with a free slot: one eviction when its free set is empty (R28). -/
def State.makeRoom (s : State) (l : Fin 8) : State :=
  match (s.lane l).freeSlots with
  | _ :: _ => s
  | [] => match s.evictable l with
    | none => s
    | some e => s.evict l e

/-! ### Leaving RECORDING (R20, R21) -/

/-- The lane enters STOPPED and posts LANE/STOPPED (R21, R42). -/
def State.enterStopped (s : State) (l : Fin 8) : State :=
  let x := s.lane l
  (s.setLane l { x with state := .stopped }).post .lane 2 l.val
    (ownBytes s.fresh 0 4 (x.newestAssigned.map lfnBytes) ++ flagBytes x.newestAssigned.isSome ++ leBytes 1 x.stopCause.code)

/-- A RECORDING lane takes REC STOP, from the host or on itself (R20, R23). -/
def State.stopLane (s : State) (l : Fin 8) (cause : StopCause) : State :=
  let x := { s.lane l with stopCause := cause }
  if x.writing = 0 then (s.setLane l x).enterStopped l else s.setLane l { x with state := .stopping }

/-- A lane in STOPPING whose write queue is now empty enters STOPPED (R21, R30, R31). -/
def State.settleStopping (s : State) (l : Fin 8) : State :=
  if (s.lane l).state = .stopping ∧ (s.lane l).writing = 0 then s.enterStopped l else s

/-- Write completion at the lane (R30). -/
def State.writeCompleted (s : State) (l : Fin 8) (n : Nat) : State :=
  (s.modifyLane l fun x => x.modifyEntry n fun e => { e with status := .good }).settleStopping l

/-! ### Point validity (R55) -/

/-- An in point lies in [floor, newest assigned]. -/
def Lane.inValid (x : Lane) (n : Nat) : Bool :=
  (x.floor.any fun f => f ≤ n) && (x.newestAssigned.any fun a => n ≤ a)

/-- An out point is at least the floor. -/
def Lane.outValid (x : Lane) (n : Nat) : Bool := x.floor.any fun f => f ≤ n

/-- An out point above newest assigned is a planned out. -/
def Lane.isPlanned (x : Lane) (n : Nat) : Bool := !x.newestAssigned.any fun a => n ≤ a

end Sys2Proof.Machine
end

