-- ==== Sys2Proof/Machine/Arbiter.lean ====
section
/-!
DEFINITION. The Transfer Engine's queues and the store arbiter: handing a transfer over, which block waits, and the grant
(spec/08, R154 to R156, R160, R162, R163).
-/

namespace Sys2Proof.Machine

/-! ### Which block waits (R156, R160, R162) -/

/-- The lane offers a block when one of its writes has a delivered block that has not been granted. -/
def State.laneWaits (s : State) (l : Fin 8) : Bool := (s.ingest l).any fun w => !w.waiting.isEmpty

/-- A fetch has a waiting block until all its blocks have been granted. -/
def State.fetchWaits (s : State) (c : Fin 4) : Bool := (s.fetchOf c).any fun f => f.granted < f.size

/-- The export's block read has been granted and not completed. -/
def State.exportServed (s : State) : Bool := s.xfer.service.any fun v => v.use == .exportRead

/-- An export block read is waiting while XRDY is asserted (R162). -/
def State.exportWaits (s : State) : Bool := s.xrdy && s.xfer.exportRead.isSome && !s.exportServed

/-! ### The grant (R163) -/

/-- The lanes in the order that begins after the one granted last, and ends with it. -/
def laneTurns (lastOne : Fin 8) : List (Fin 8) := [1, 2, 3, 4, 5, 6, 7, 0].map (lastOne + ·)

/-- The channels in the order that begins after the one granted last, and ends with it. -/
def channelTurns (lastOne : Fin 4) : List (Fin 4) := [1, 2, 3, 0].map (lastOne + ·)

/-- The lane's lowest waiting block of its oldest write that has one is taken out for service (R156): the write's number, the
block number and data, and the queue after it. -/
def takeWaiting : List FrameWrite → Option (Nat × Nat × BlockData × List FrameWrite)
  | [] => none
  | w :: t => match w.waiting with
    | d :: rest => some (w.lfn, w.firstBlock + w.granted, d, { w with granted := w.granted + 1, waiting := rest } :: t)
    | [] => (takeWaiting t).map fun r => (r.1, r.2.1, r.2.2.1, w :: r.2.2.2)

def State.grantLane (s : State) (l : Fin 8) : State :=
  match takeWaiting (s.ingest l) with
  | none => s
  | some (lfn, block, d, q) =>
    let s := s.setIngest l q
    { s with xfer := { s.xfer with service := some { block, use := .write l lfn d }, lastLane := l } }

/-- The first block's grant clears the port's staging body (R160). -/
def State.grantFetch (s : State) (c : Fin 4) : State :=
  match s.fetchOf c with
  | none => s
  | some f =>
    let s := if f.granted = 0 then s.setOutPort c { s.outPort c with staging := some [] } else s
    let s := s.setFetch c (some { f with granted := f.granted + 1 })
    { s with xfer := { s.xfer with service := some { block := f.firstBlock + f.granted, use := .fetch c f.granted },
                                   lastChannel := c } }

def State.grantExport (s : State) : State :=
  match s.xfer.exportRead with
  | none => s
  | some r => s.setService (some { block := r.block, use := .exportRead })

/-- The arbiter grants the idle store to one waiting block: ingest before fetch before export, and in turn within a class
(R163). -/
def State.grant (s : State) : State :=
  if s.xfer.service.isSome then s
  else match (laneTurns s.xfer.lastLane).find? s.laneWaits with
    | some l => s.grantLane l
    | none => match (channelTurns s.xfer.lastChannel).find? s.fetchWaits with
      | some c => s.grantFetch c
      | none => if s.exportWaits then s.grantExport else s

/-! ### Handing a transfer over (R155) -/

/-- A lane hands a frame write; it begins with no block waiting (R156). -/
def State.handWrite (s : State) (l : Fin 8) (lfn slot : Nat) : State :=
  let x := s.lane l
  s.setIngest l (s.ingest l ++
    [{ lfn, slot, firstBlock := x.slotBlock slot, size := x.s, granted := 0, done := 0, waiting := [], ended := false }])

/-- A channel hands a playout fetch; all its blocks wait from then on (R160). -/
def State.handFetch (s : State) (c : Fin 4) (r : FrameRef) : State :=
  let x := s.lane r.lane
  (s.setFetch c (some { frame := r, firstBlock := x.slotBlock r.slot, size := x.s, granted := 0, done := 0 })).grant

/-- The Export Channel hands one block read (R155, R162). -/
def State.handExportRead (s : State) (l : Fin 8) (lfn slot k : Nat) : State :=
  (s.setExportRead (some { block := (s.lane l).slotBlock slot + k, lane := l, lfn, index := k })).grant

/-! ### A transfer dropped with its block in service (R159, R167) -/

/-- The block in service stays with the store and is counted to nobody. -/
def Serving.orphaned : Serving → Serving
  | .write _ _ d => .orphanWrite d
  | .fetch _ _ => .orphanRead
  | .exportRead => .orphanRead
  | .orphanWrite d => .orphanWrite d
  | .orphanRead => .orphanRead

/-- The block in service belongs to this frame write. -/
def Serving.isWriteOf (u : Serving) (l : Fin 8) (n : Nat) : Bool :=
  match u with
  | .write l' n' _ => l' == l && n' == n
  | .fetch _ _ | .exportRead | .orphanWrite _ | .orphanRead => false

/-- The lane cancels a frame write: it leaves the queue with its waiting blocks, the port is told to drop the blocks of that frame,
and a block in service is finished for nobody (R159). That the order names the frame by its LFN is the model's choice (log 45). -/
def State.cancelWrite (s : State) (l : Fin 8) (n : Nat) : State :=
  let s := s.setIngest l ((s.ingest l).filter fun w => w.lfn != n)
  let s := s.setService (s.xfer.service.map fun v => if v.use.isWriteOf l n then { v with use := v.use.orphaned } else v)
  s.emit (.dropBlocks l (some n))

end Sys2Proof.Machine
end

