-- ==== Sys2Proof/Machine/CueOps.lean ====
section
/-!
DEFINITION. What a cue line does when it is reached: a fire, the line's own tick action, and the reports of its channel
(spec/10, R183 to R186, R188).
-/

namespace Sys2Proof.Machine

/-- The output and the pulse counter after a fire (R183). -/
def CueLine.fired (q : CueLine) : CueLine :=
  match q.action with
  | .pulse n => { q with active := true, pulse := n }
  | .set => { q with active := true, pulse := 0 }
  | .clear => { q with active := false, pulse := 0 }
  | .toggle => { q with active := !q.active, pulse := 0 }

/-- A fire, which posts CUE/FIRED (R183, R188). -/
def State.fireCue (s : State) (k : Fin 8) (cause : Nat) (detail : List Byte) (direction : Nat) : State :=
  let q := (s.cue k).fired
  (s.setCue k q).post .cue 0 k.val
    (leBytes 1 cause ++ leBytes 1 q.channel.val ++ detail ++ leBytes 1 direction ++ flagBytes q.active)

/-- A line's trigger condition has come about: an armed line fires, and stays armed only with re-arm EVERY (R184, R185). -/
def State.triggerCue (s : State) (k : Fin 8) (cause : Nat) (detail : List Byte) (direction : Nat) : State :=
  let q := s.cue k
  if q.armed then
    (s.setCue k { q with armed := q.rearm == .every }).fireCue k cause detail direction
  else s

/-- The crossing of a compare LFN: 0 forward, 1 reverse (R184). -/
def crossing (c old new : Nat) : Option Nat :=
  if old < c ∧ c ≤ new then some 0 else if new < c ∧ c ≤ old then some 1 else none

/-- The directions a line fires on (R184). -/
def CueDirection.takes : CueDirection → Nat → Bool
  | .forward, d => d == 0
  | .reverse, d => d == 1
  | .either, _ => true

/-- A COMPARE line is reached by a change of its channel's on-air frame (R184). -/
def State.cueSeesFrame (s : State) (c : Fin 4) (old new : FrameRef) (k : Fin 8) : State :=
  let q := s.cue k
  if q.mode = .compare ∧ q.channel = c ∧ old.lane = new.lane then
    match crossing q.compareLfn old.lfn new.lfn with
    | none => s
    | some d => if q.direction.takes d then s.triggerCue k 0 (lfnBytes new.lfn) d else s
  else s

/-- A channel's presentation changes its on-air frame: its COMPARE lines see it, when both frames exist (R184). -/
def State.reportFrame (s : State) (c : Fin 4) (old : Option FrameRef) (new : FrameRef) : State :=
  match old with
  | none => s
  | some o => if o.lane = new.lane ∧ o.lfn = new.lfn then s else allCues.foldl (fun s k => s.cueSeesFrame c o new k) s

/-- A SEGMENT line is reached by a passing segue of its channel (R185). -/
def State.cueSeesSegue (s : State) (c : Fin 4) (b : Fin 8) (e : Fin 32) (k : Fin 8) : State :=
  let q := s.cue k
  if q.mode = .segment ∧ q.channel = c ∧ q.bank = b ∧ q.entry = e then
    s.triggerCue k 1 (leBytes 1 b.val ++ leBytes 1 e.val ++ leBytes 2 0) 0xFF
  else s

/-- A channel reports a passing segue to its lines (R138, R140, R185). -/
def State.reportSegue (s : State) (c : Fin 4) (b : Fin 8) (e : Fin 32) : State :=
  allCues.foldl (fun s k => s.cueSeesSegue c b e k) s

/-- A STATE line's output follows its channel (R186). -/
def State.cueFollows (s : State) (c : Fin 4) (playing : Bool) (k : Fin 8) : State :=
  let q := s.cue k
  if q.mode = .state ∧ q.channel = c then s.setCue k { q with active := playing } else s

def ChannelState.isPlaying (t : ChannelState) : Bool := t == .playing

/-- A channel's record changes; a change into or out of PLAYING is reported to its STATE lines in the same event (R186). -/
def State.setChannel (s : State) (c : Fin 4) (x : Channel) : State :=
  let old := (s.channel c).state
  let s := { s with channels := s.channels.set c x }
  if old.isPlaying = x.state.isPlaying then s
  else allCues.foldl (fun s k => s.cueFollows c x.state.isPlaying k) s

/-- The line's own tick action: a running pulse counts down, and its end returns the output to the idle level (R183). -/
def CueLine.ticked (q : CueLine) : CueLine :=
  if q.pulse = 0 then q
  else if q.pulse = 1 then { q with pulse := 0, active := false }
  else { q with pulse := q.pulse - 1 }

def State.cueTick (s : State) (k : Fin 8) : State := s.setCue k (s.cue k).ticked

end Sys2Proof.Machine
end

