-- ==== Sys2Proof/Machine/Replies.lean ====
section
/-!
DEFINITION. The reply queue, and the taking of a command frame that is whole, good and of a known kind (spec/11, R192 to R194,
R196, R204).
-/

namespace Sys2Proof.Machine

/-- The message kinds (11.9). -/
inductive Kind where
  | poll | unitStatus | unitReset | stationSet | noticeLevels | refConfig | timeSet | laneConfig | recStart | recStop | indexRead
  | laneStatus | clipMark | clipSpan | clipLock | clipUnlock | clipDelete | clipRights | clipLabel | clipRead | clipNext
  | rightsProbe | lineConfig | jogConfig | jogStatus | leverConfig | curveLoad | leverStatus | channelTake | channelRelease
  | cueClip | cueLane | live | play | pause | speed | stepFrames | continuePlay | snap | resume | saveDiscard | syncPlay
  | channelStatus | flagsClear | flagEnables | bankWrite | bankRead | runOrder | segue | exportStart | exportAbort
  | exportConfig | exportStatus | cueLineConfig | cueLineFire | cueLineStatus
  deriving DecidableEq, Repr

/-- The kind table's codes (11.9). -/
def Kind.code : Kind → Byte
  | .poll => 0x01 | .unitStatus => 0x02 | .unitReset => 0x03 | .stationSet => 0x04 | .noticeLevels => 0x05
  | .refConfig => 0x10 | .timeSet => 0x11 | .laneConfig => 0x18 | .recStart => 0x19 | .recStop => 0x1A | .indexRead => 0x1B
  | .laneStatus => 0x1C | .clipMark => 0x20 | .clipSpan => 0x21 | .clipLock => 0x22 | .clipUnlock => 0x23
  | .clipDelete => 0x24 | .clipRights => 0x25 | .clipLabel => 0x26 | .clipRead => 0x27 | .clipNext => 0x28
  | .rightsProbe => 0x29 | .lineConfig => 0x30 | .jogConfig => 0x34 | .jogStatus => 0x35 | .leverConfig => 0x38
  | .curveLoad => 0x39 | .leverStatus => 0x3A | .channelTake => 0x40 | .channelRelease => 0x41 | .cueClip => 0x42
  | .cueLane => 0x43 | .live => 0x44 | .play => 0x45 | .pause => 0x46 | .speed => 0x47 | .stepFrames => 0x48
  | .continuePlay => 0x49 | .snap => 0x4A | .resume => 0x4B | .saveDiscard => 0x4C | .syncPlay => 0x4D
  | .channelStatus => 0x4E | .flagsClear => 0x4F | .flagEnables => 0x50 | .bankWrite => 0x58 | .bankRead => 0x59
  | .runOrder => 0x5A | .segue => 0x5B | .exportStart => 0x60 | .exportAbort => 0x61 | .exportConfig => 0x62
  | .exportStatus => 0x63 | .cueLineConfig => 0x68 | .cueLineFire => 0x69 | .cueLineStatus => 0x6A

/-- Every kind of the kind table. -/
def Kind.all : List Kind :=
  [.poll, .unitStatus, .unitReset, .stationSet, .noticeLevels, .refConfig, .timeSet, .laneConfig, .recStart, .recStop,
   .indexRead, .laneStatus, .clipMark, .clipSpan, .clipLock, .clipUnlock, .clipDelete, .clipRights, .clipLabel, .clipRead,
   .clipNext, .rightsProbe, .lineConfig, .jogConfig, .jogStatus, .leverConfig, .curveLoad, .leverStatus, .channelTake,
   .channelRelease, .cueClip, .cueLane, .live, .play, .pause, .speed, .stepFrames, .continuePlay, .snap, .resume, .saveDiscard,
   .syncPlay, .channelStatus, .flagsClear, .flagEnables, .bankWrite, .bankRead, .runOrder, .segue, .exportStart, .exportAbort,
   .exportConfig, .exportStatus, .cueLineConfig, .cueLineFire, .cueLineStatus]

/-- The level-0 kinds (R194). -/
def Kind.levelZero (k : Kind) : Bool :=
  k ∈ [.refConfig, .laneConfig, .lineConfig, .jogConfig, .leverConfig, .curveLoad, .cueLineConfig, .exportConfig, .stationSet,
    .noticeLevels, .unitReset]

/-- The kinds taken from the broadcast address (R193). -/
def Kind.broadcast (k : Kind) : Bool := k ∈ [.timeSet, .recStart, .recStop, .syncPlay]

/-! ### The reply queue (R196) -/

/-- The oldest reply begins to be sent: its indicator character is formed, the overrun marker is cleared, and a POLL reply clears
the overflow marker (R196; log 27). -/
def Link.startReply (k : Link) : Link :=
  match k.replies with
  | [] => k
  | r :: rest =>
    { k with replies := { r with indicator := some k.indicator } :: rest, overrun := false,
             overflow := if r.kind = Kind.poll.code ∧ r.status = .ok then false else k.overflow }

/-- A reply joins the queue, and is started at once when the queue was empty (R196). -/
def State.queueReply (s : State) (tag kind : Byte) (status : Status) (body : List Byte) : State :=
  let k := { s.link with replies := s.link.replies ++ [{ tag, kind, status, body, indicator := none }] }
  { s.setLink (if s.link.replies.isEmpty then k.startReply else k) with fresh := s.fresh + 1 }

/-- A frame is discarded for a full reply queue (R192 check 1). -/
def State.discardFrame (s : State) : State := s.setLink { s.link with overrun := true }

/-! ### Taking a command (R192, R193) -/

/-- What the owning block answers a command: the state after it, the reply status and the reply body. -/
structure Answer where
  state  : State
  status : Status
  body   : List Byte

/-- A refusal changes nothing and carries a body of length 0 (R192). -/
def State.refuse (s : State) (st : Status) : Answer := { state := s, status := st, body := [] }

/-- The command is done, and the reply is OK. -/
def State.accept (s : State) (body : List Byte) : Answer := { state := s, status := .ok, body }

/-- The taking of a completed command frame without length or CRC fault, of kind `k` and of that kind's length: a broadcast frame
is executed if its kind may be broadcast, and gets no reply; a unit's frame is discarded for a full reply queue, refused for its
level, or executed and answered (R192 checks 1, 6 and 7, R193, R194). `run` is given the effective level. The receiver, and a frame it
is part way through, stay as they are (log 11). -/
def State.takeCommand (s : State) (k : Kind) (h : Header) (run : Nat → State → Answer) : State :=
  if s.resetHeld then s
  else if h.broadcast then if k.broadcast then (run (s.effective h) s).state else s
  else if 4 ≤ s.link.replies.length then s.discardFrame
  else if k.levelZero ∧ 0 < s.effective h then s.queueReply h.tag k.code .level []
  else
    let a := run (s.effective h) s
    a.state.queueReply h.tag k.code a.status a.body

end Sys2Proof.Machine
end

