-- ==== Sys2Proof/Machine/ChannelOps.lean ====
section
/-!
DEFINITION. What the channel commands share: the range of a channel, speed conversion, cueing, going live, playing, and the
requests that a mark line delivers as well as the host (spec/06, 6.4 to 6.6 and 6.10; spec/07, R137, R146).
-/

namespace Sys2Proof.Machine

/-! ### Source and range (R106) -/

/-- lo and hi of a source's range, hi absent when the lane has no GOOD entry. -/
def State.sourceRange (s : State) : Source → Nat × Option Nat
  | .none => (0, none)
  | .lane l => (((s.lane l).floor).getD 0, (s.lane l).newestGood)
  | .live l _ => (((s.lane l).floor).getD 0, (s.lane l).newestGood)
  | .clip n =>
    let c := s.clip n
    let open_ := (s.lane c.lane).newestGood.map fun g => match c.planned with
      | none => g
      | some q => min g q
    match c.state with
    | .closed => (c.inLfn, c.out)
    | .absent => (c.inLfn, match c.out with
      | some o => some o
      | none => open_)
    | .opened => (c.inLfn, open_)
    | .free => (c.inLfn, open_)

/-- A hi that is absent, or below lo, makes the range the single point lo (R106). -/
def closeRange (r : Nat × Option Nat) : Nat × Nat := (r.1, max r.1 (r.2.getD r.1))

/-- The in point that an active segment's offsets count from (R136). -/
def State.segmentBase (s : State) : Source → Nat
  | .clip n => (s.clip n).inLfn
  | .none | .lane _ | .live _ _ => 0

/-- The range of a channel: that of its active segment, else of its source (R106). -/
def State.channelRange (s : State) (x : Channel) : Nat × Nat :=
  match x.running with
  | some r => closeRange (s.segmentBase x.source + r.startOffset, some (s.segmentBase x.source + r.endOffset))
  | none => closeRange (s.sourceRange x.source)

/-- The position held to a range: the position in 1/256 frames, and whether it was moved (R120). -/
def holdTo (lo hi : Nat) (raw : Int) : Nat × Bool :=
  if raw < (lo * 256 : Nat) then (lo * 256, true)
  else if ((max lo hi) * 256 : Nat) < raw then (max lo hi * 256, true)
  else (raw.toNat, false)

/-! ### Speeds (R111, R112) -/

/-- P of the lane the channel's source lies on (R112). -/
def State.rateMultiple (s : State) (x : Channel) : Nat :=
  match s.sourceLane x.source with
  | some l => (s.lane l).p
  | none => 0

/-- The speed of the entry at the channel's running-order position, as the ROS holds it now (R146). -/
def State.segmentSpeed (s : State) (x : Channel) : Int :=
  match x.running with
  | some r => (s.segment r.bank r.entry).speed
  | none => 0

/-- P × value × 256 ÷ 1,000 to the nearest whole unit, a half away from zero (R112). -/
def percentSpeed (p : Nat) (v : Int) : Int :=
  let m := (p : Int) * v * 256
  if 0 ≤ m then (2 * m + 1000) / 2000 else -((-(2 * m) + 1000) / 2000)

/-- The division of R112 leaves a remainder. -/
def percentInexact (p : Nat) (v : Int) : Bool := ((p : Int) * v * 256) % 1000 != 0

/-- The speed a field asks for, and whether it could not be held exactly. -/
def State.speedOf (s : State) (x : Channel) : SpeedField → Int × Bool
  | .exact v => (v, false)
  | .percent v => (percentSpeed (s.rateMultiple x) v, percentInexact (s.rateMultiple x) v)
  | .segment => (s.segmentSpeed x, false)

/-- QUANT is set for an inexact conversion (R112). -/
def State.noteQuant (s : State) (c : Fin 4) (inexact : Bool) : State := if inexact then s.setFlag c .quant else s

/-! ### Cueing and going live (R108 to R110, R137) -/

/-- The running order on a channel ends (R137). -/
def Channel.endRunning (x : Channel) : Channel := { x with running := none, hold := false, request := none }

/-- Leaving LIVE, the source becomes the lane without delay (R111, R113, R125, R126). -/
def Source.withoutDelay : Source → Source
  | .live l _ => .lane l
  | .none => .none
  | .clip n => .clip n
  | .lane l => .lane l

/-- A channel is parked on a source at an LFN, in CUED (R108, R109). -/
def State.cueAt (s : State) (c : Fin 4) (src : Source) (lfn : Nat) : State :=
  let x := s.channel c
  (s.moveRole x.source src).setChannel c
    { x.endRunning with state := .cued, source := src, position := lfn * 256, current := 0, target := 0, jogAcc := 0 }

/-- newest GOOD − delay, raised to the floor (R110). -/
def Lane.liveLfn (x : Lane) (newest delay : Nat) : Nat := max (x.floor.getD 0) (newest - delay)

/-- A channel follows a lane at a delay, in LIVE (R110). -/
def State.goLive (s : State) (c : Fin 4) (l : Fin 8) (delay newest : Nat) : State :=
  let x := s.channel c
  let rt : Int := (s.lane l).p * 256
  (s.moveRole x.source (.live l delay)).setChannel c
    { x.endRunning with state := .live, source := .live l delay, position := (s.lane l).liveLfn newest delay * 256,
                        current := rt, target := rt, jogAcc := 0 }

/-- The checks of a clip to be cued, at a level: CLIP_FREE, RIGHTS, CLIP_ABSENT, RANGE, or the LFN of the offset (R108). -/
def State.cueClipAt (s : State) (n offset level : Nat) : Except Status Nat :=
  let cl := s.clip n
  let r := closeRange (s.sourceRange (.clip n))
  if cl.state = .free then .error .clipFree
  else if level > cl.vl then .error .rights
  else if cl.state = .absent then .error .clipAbsent
  else if offset > r.2 - r.1 then .error .range
  else .ok (r.1 + offset)

/-! ### Playing (R111, R146) -/

/-- The current speed kept on entering PLAYING or SHUTTLE (R111, R126). -/
def Channel.keptSpeed (x : Channel) : Int :=
  match x.state with
  | .playing | .shuttle | .live => x.current
  | .idle | .cued | .paused | .jog => 0

/-- The channel becomes PLAYING toward a target speed; a pending hold is released (R111, R146). -/
def State.playChannel (s : State) (c : Fin 4) (speed : Int) (ramp : Nat) (round : RoundMode) : State :=
  let x := s.channel c
  s.setChannel c
    { x with state := .playing, target := speed, ramp, round, current := x.keptSpeed, source := x.source.withoutDelay,
             jogAcc := 0, request := if x.hold then some .release else x.request, hold := false }

/-! ### Requests that a mark line delivers too (R85) -/

/-- CONTINUE, less its owner check (R116, R146); like PLAY it makes no view check (log 43). -/
def State.continueRequest (s : State) (c : Fin 4) : Answer :=
  let x := s.channel c
  if x.state = .idle then s.refuse .wrongState
  else if x.hold then (s.setChannel c { x with request := some .release, hold := false }).accept []
  else if x.state = .playing then s.accept []
  else
    let speed : Int := if x.running.isSome then s.segmentSpeed x else (s.rateMultiple x : Int) * 256
    (s.playChannel c speed 8192 x.round).accept []

/-- The context SNAP saves (6.1). -/
def Channel.context (x : Channel) : SavedContext :=
  { state := x.state, source := x.source, position := x.position, current := x.current, target := x.target, ramp := x.ramp,
    round := x.round, running := x.running, hold := x.hold }

/-- The first step of an accepted SNAP: the context is saved if the slot is empty and the channel is not IDLE (R129). -/
def State.saveContext (s : State) (c : Fin 4) : State :=
  let x := s.channel c
  if x.saved.isSome ∨ x.state = .idle then s
  else (s.moveRole .none x.source).setChannel c { x with saved := some x.context }

/-- The reply status of an accepted SNAP (R129). -/
def Channel.snapStatus (x : Channel) : Status := if x.saved.isSome then .saveKept else .ok

/-- SNAP to a lane, less its owner check (R129). -/
def State.snapLaneRequest (s : State) (c : Fin 4) (l : Fin 8) (delay : Nat) : Answer :=
  match (s.lane l).newestGood with
  | none => s.refuse .noFrames
  | some g => { state := (s.saveContext c).goLive c l delay g, status := (s.channel c).snapStatus, body := [] }

/-- SNAP to a clip, less its owner check (R129). -/
def State.snapClipRequest (s : State) (c : Fin 4) (n offset : Nat) : Answer :=
  match s.cueClipAt n offset (s.channel c).level with
  | .error st => s.refuse st
  | .ok lfn => { state := (s.saveContext c).cueAt c (.clip n) lfn, status := (s.channel c).snapStatus, body := [] }

/-- The clip checks of RESUME on the saved source (R130). -/
def State.resumeCheck (s : State) (src : Source) (level : Nat) : Option Status :=
  match src with
  | .clip n =>
    if (s.clip n).state = .absent then some .clipAbsent
    else if level > (s.clip n).vl then some .rights
    else none
  | .none | .lane _ | .live _ _ => none

/-- RESUME, less its owner check, with the view check made at `level` (R130, R150). -/
def State.resumeRequest (s : State) (c : Fin 4) (level : Nat) : Answer :=
  let x := s.channel c
  match x.saved with
  | none => s.refuse .nothingSaved
  | some k => match s.resumeCheck k.source level with
    | some st => s.refuse st
    | none =>
      ((s.moveRole x.source .none).setChannel c
        { x with state := k.state, source := k.source, position := k.position, current := k.current, target := k.target,
                 ramp := k.ramp, round := k.round, running := k.running, hold := k.hold, request := none, jogAcc := 0,
                 saved := none }).accept []

end Sys2Proof.Machine
end

