-- ==== Sys2Proof/Machine/RunningOrders.lean ====
section
/-!
DEFINITION. The segue, its checks and outcomes, the end actions, and the commands over the Running Order Store (spec/07).
-/

namespace Sys2Proof.Machine

/-! ### The segue (R139 to R141) -/

/-- What leads to a segue, with the number of SKIP, GOTO or CHAIN (R139). -/
inductive SegueCause where
  | run | next | skip (d : Int) | goto (e : Int) | chain | loop | request | release
  deriving DecidableEq, Repr

/-- The cause byte of R152. -/
def SegueCause.code : SegueCause → Nat
  | .run => 0 | .next => 1 | .skip _ => 2 | .goto _ => 3 | .chain => 4 | .loop => 5 | .request => 6 | .release => 7

/-- The start and end offsets of a record, resolved against the clip as it stands (R136). -/
def Segment.resolve (g : Segment) (c : Clip) : Nat × Nat :=
  (if g.hasStart then g.start else 0, if g.hasEnd then g.endOffset else c.out.getD c.inLfn - c.inLfn)

/-- What a passing segue moves the channel to. -/
structure SegueTarget where
  running : Running
  clip    : Nat
  speed   : Int
  deriving DecidableEq, Repr

/-- A failed check: the reason, and the target clip, 0 where none was read (R139, R152). -/
structure SegueFault where
  reason : Status
  clip   : Nat
  deriving DecidableEq, Repr

/-- The seven checks of a segue to entry `n` of bank `b`, in their order, at the channel's level (R139). -/
def State.segueCheck (s : State) (level : Nat) (b : Fin 8) (n : Int) : Except SegueFault SegueTarget :=
  match if 0 ≤ n then fin? 32 n.toNat else none with
  | none => .error { reason := .entryRange, clip := 0 }
  | some e =>
    let g := s.segment b e
    let c := s.clip g.clip
    let offs := g.resolve c
    if g.clip = 0 then .error { reason := .emptyEntry, clip := 0 }
    else if c.state = .free then .error { reason := .clipFree, clip := g.clip }
    else if c.state = .absent then .error { reason := .clipAbsent, clip := g.clip }
    else if c.state = .opened then .error { reason := .clipOpen, clip := g.clip }
    else if level > c.vl then .error { reason := .rights, clip := g.clip }
    else if offs.1 ≤ offs.2 ∧ offs.2 ≤ c.out.getD c.inLfn - c.inLfn then
      .ok { running := { bank := b, entry := e, startOffset := offs.1, endOffset := offs.2 }, clip := g.clip, speed := g.speed }
    else .error { reason := .offset, clip := g.clip }

/-- The old running-order position in SEGUE/DONE, FFH for none (R152). -/
def oldPositionBytes : Option Running → List Byte
  | some r => r.positionBytes
  | none => leBytes 1 0xFF ++ leBytes 1 0xFF

/-- A segue whose checks pass (R138, R140): the channel plays the target segment from its first frame, or from its last at a
negative speed; SEGUE/DONE is posted and the channel's cue lines see the passage. -/
def State.passSegue (s : State) (c : Fin 4) (t : SegueTarget) (cause : SegueCause) (request : Option SegueRequest) : State :=
  let x := s.channel c
  let first := (s.clip t.clip).inLfn + (if t.speed < 0 then t.running.endOffset else t.running.startOffset)
  let s := (s.moveRole x.source (.clip t.clip)).setChannel c
    { x with running := some t.running, source := .clip t.clip, state := .playing, current := t.speed, target := t.speed,
             jogAcc := 0, position := first * 256, hold := false, request }
  let s := s.post .segue 0 c.val
    (t.running.positionBytes ++ leBytes 2 t.clip ++ leBytes 1 cause.code ++ oldPositionBytes x.running)
  s.reportSegue c t.running.bank t.running.entry

/-- A segue that fails (R141). `position` is where it leaves the playhead, `clamped` whether that change sets CLAMP. -/
def State.failSegue (s : State) (c : Fin 4) (r : Running) (b : Fin 8) (n : Int) (f : SegueFault) (cause : SegueCause)
    (position : Nat) (clamped : Bool) : State :=
  let s := s.setChannel c
    { s.channel c with state := .paused, current := 0, target := 0, position }
  let s := if clamped then s.setFlag c .clamp else s
  let s := s.setChannel c { s.channel c with hold := false, request := none, lastFault := some f.reason }
  let s := s.setFlag c .segue
  s.post .segue 2 c.val
    (leBytes 1 f.reason.code ++ leBytes 1 b.val ++ leInt 1 n ++ leBytes 1 cause.code ++ r.positionBytes ++ leBytes 2 f.clip)

/-- One segue at a boundary step: to entry `n` of bank `b`. A failure leaves the playhead at `fallback` (R139 to R141). -/
def State.makeSegue (s : State) (c : Fin 4) (r : Running) (b : Fin 8) (n : Int) (cause : SegueCause) (fallback : Nat × Bool) :
    State :=
  match s.segueCheck (s.channel c).level b n with
  | .ok t => s.passSegue c t cause none
  | .error f => s.failSegue c r b n f cause fallback.1 fallback.2

/-- The SEGUE request taken at a boundary step (R142 item 2). -/
def State.takeRequest (s : State) (c : Fin 4) (r : Running) (q : SegueRequest) (fallback : Nat × Bool) : State :=
  match q with
  | .start => s
  | .next => s.makeSegue c r r.bank (r.entry.val + 1) .request fallback
  | .release => s.makeSegue c r r.bank (r.entry.val + 1) .release fallback
  | .goto e => s.makeSegue c r r.bank e.val .request fallback
  | .chain b => s.makeSegue c r b 0 .request fallback

/-! ### End actions (R143 to R145) -/

/-- The channel becomes PAUSED at the crossed boundary (R144, R145). -/
def Channel.pausedAt (x : Channel) (lfn : Nat) : Channel :=
  { x with state := .paused, position := lfn * 256, current := 0, target := 0 }

/-- SEGUE/HOLD (R152): 0 for HOLD, 1 for STOP. -/
def State.postHold (s : State) (c : Fin 4) (r : Running) (action lfn : Nat) : State :=
  s.post .segue 1 c.val (r.positionBytes ++ leBytes 1 action ++ lfnBytes lfn)

/-- HOLD (R144). -/
def State.holdAction (s : State) (c : Fin 4) (r : Running) (lfn : Nat) : State :=
  (s.setChannel c { (s.channel c).pausedAt lfn with hold := true }).postHold c r 0 lfn

/-- STOP (R145): the running order ends, and the boundary is held to the clip's own range. -/
def State.stopAction (s : State) (c : Fin 4) (r : Running) (lfn : Nat) : State :=
  let x := ((s.channel c).pausedAt lfn).endRunning
  let range := s.channelRange x
  let held := holdTo range.1 range.2 x.position
  let s := s.setChannel c { x with position := held.1 }
  let s := if held.2 then s.setFlag c .clamp else s
  s.postHold c r 1 lfn

/-- The end action of the channel's present entry, taken at the boundary `lfn` (R143). -/
def State.endAction (s : State) (c : Fin 4) (r : Running) (lfn : Nat) : State :=
  let g := s.segment r.bank r.entry
  let fallback := (lfn * 256, false)
  match g.action with
  | .next => s.makeSegue c r r.bank (r.entry.val + 1) .next fallback
  | .skip => s.makeSegue c r r.bank (r.entry.val + g.number) (.skip g.number) fallback
  | .goto => s.makeSegue c r r.bank g.number (.goto g.number) fallback
  | .chain => s.makeSegue c r ((fin? 8 g.number.toNat).getD 0) 0 .chain fallback
  | .loop => s.makeSegue c r r.bank r.entry.val .loop fallback
  | .hold => s.holdAction c r lfn
  | .stop => s.stopAction c r lfn

/-! ### The Running Order Store (R133 to R135) -/

/-- A bank, first entry and count within check 1 of R134. -/
def bankRange? (bank first count : Nat) : Option (Fin 8 × List (Fin 32)) :=
  match fin? 8 bank with
  | none => none
  | some b =>
    if 1 ≤ count ∧ count ≤ 8 ∧ first + count ≤ 32 then
      some (b, (List.range count).filterMap fun i => fin? 32 (first + i))
    else none

/-- The channels whose running-order position is an entry (R135). -/
def State.activeOn (s : State) (b : Fin 8) (e : Fin 32) : List Nat :=
  (allChannels.filter fun c => (s.channel c).running.any fun r => r.bank == b && r.entry == e).map Fin.val

def State.bankWriteRequest (s : State) (bank first count : Nat) (records : List SegmentFields) : Answer :=
  match bankRange? bank first count, records.mapM segment? with
  | some (b, es), some gs =>
    if gs.length ≠ es.length then s.refuse .badField
    else if es.any fun e => !(s.activeOn b e).isEmpty then s.refuse .segmentActive
    else ((es.zip gs).foldl (fun s p => s.setSegment b p.1 p.2) s).accept []
  | some _, none => s.refuse .badField
  | none, some _ => s.refuse .badField
  | none, none => s.refuse .badField

/-- BANK WRITE (R134). -/
def execBankWrite (h : Header) (bank first count : Nat) (records : List SegmentFields) (s : State) :
    Host.Outcome State Fault Refusal :=
  .next (s.takeCommand .bankWrite h fun _ s => s.bankWriteRequest bank first count records)

/-- BANK READ (R135): the records, then the mask of channels for each entry; each list with its count byte (log 24). -/
def execBankRead (h : Header) (bank first count : Nat) (s : State) : Host.Outcome State Fault Refusal :=
  .next (s.takeCommand .bankRead h fun _ s =>
    match bankRange? bank first count with
    | none => s.refuse .badField
    | some (b, es) =>
      s.accept (leBytes 1 es.length ++ es.flatMap (fun e => (s.segment b e).bytes) ++
        leBytes 1 es.length ++ es.flatMap fun e => maskByte (maskOf (s.activeOn b e))))

/-! ### RUN and SEGUE (R138, R147) -/

/-- The first checks of an owned command whose other fields are in range (R105 checks 1 and 2). -/
def State.owned (s : State) (h : Header) (channel : Nat) (run : Fin 4 → Answer) : Answer :=
  match fin? 4 channel with
  | none => s.refuse .badField
  | some c => if (s.channel c).owner = some h.station then run c else s.refuse .notOwner

def State.runRequest (s : State) (c : Fin 4) (b : Fin 8) (entry : Nat) : Answer :=
  if (s.channel c).state = .idle then s.refuse .wrongState
  else match s.segueCheck (s.channel c).level b entry with
    | .error f => s.refuse f.reason
    | .ok t =>
      let s := s.passSegue c t .run (some .start)
      s.accept (flagBytes true ++ t.running.positionBytes ++ positionBytes (s.channel c).position)

/-- RUN (R138). The position field may be absent elsewhere, and keeps its present flag here (log 24). -/
def execRunOrder (h : Header) (channel bank entry : Nat) (s : State) : Host.Outcome State Fault Refusal :=
  .next (s.takeCommand .runOrder h fun _ s =>
    match fin? 8 bank with
    | some b => if entry ≤ 255 then s.owned h channel fun c => s.runRequest c b entry else s.refuse .badField
    | none => s.refuse .badField)

/-- The target of SEGUE: NEXT, GOTO e, CHAIN b (R147). -/
def segueTarget? (kind number : Nat) : Option SegueRequest :=
  match kind with
  | 0 => some .next
  | 1 => (fin? 32 number).map .goto
  | 2 => (fin? 8 number).map .chain
  | _ => none

def State.segueRequest (s : State) (c : Fin 4) (q : SegueRequest) : Answer :=
  let x := s.channel c
  if x.running.isSome ∧ (x.state = .playing ∨ x.state = .paused) then
    (s.setChannel c { x with request := some q, hold := false }).accept []
  else s.refuse .wrongState

/-- SEGUE (R147). -/
def execSegue (h : Header) (channel kind number : Nat) (s : State) : Host.Outcome State Fault Refusal :=
  .next (s.takeCommand .segue h fun _ s =>
    match segueTarget? kind number with
    | some q => s.owned h channel fun c => s.segueRequest c q
    | none => s.refuse .badField)

end Sys2Proof.Machine
end

