-- ==== Sys2Proof/Machine/ChannelTick.lean ====
section
/-!
DEFINITION. A channel at each tick: presentation, advance, boundary step and selection (spec/06, R118 to R122; spec/07, R142).
-/

namespace Sys2Proof.Machine

/-! ### Presentation (R118) -/

/-- REPEAT, or BLACK without an on-air frame (R118). -/
def State.keepPicture (s : State) (c : Fin 4) : State :=
  if (s.channel c).onAir.isSome then s.emit (.repeatPicture c)
  else (s.setOutPort c { s.outPort c with picture := .black }).emit (.black c)

/-- PRESENT: the staging body goes on air, and the next frame becomes the on-air frame, which the COMPARE lines see (R118, R160,
R184). -/
def State.presentNext (s : State) (c : Fin 4) (f : FrameRef) : State :=
  let x := s.channel c
  let s := s.setOutPort c { staging := none, picture := .body ((s.outPort c).staging.getD []) }
  ((s.setChannel c { x with onAir := some f, next := none }).emit (.present c)).reportFrame c x.onAir f

def State.presentation (s : State) (c : Fin 4) : State :=
  let x := s.channel c
  if x.state = .idle then
    ((s.setOutPort c { s.outPort c with picture := .black }).setChannel c { x with onAir := none }).emit (.black c)
  else match x.next with
    | some f => s.presentNext c f
    | none => if x.fetch.isSome then (s.keepPicture c).setFlag c .late else s.keepPicture c

/-! ### Advance (R119) -/

/-- The current speed after one tick's ramp. -/
def rampSpeed (current target : Int) (step : Nat) : Int :=
  if (target - current).natAbs ≤ step then target
  else if current < target then current + step
  else current - step

/-- The channel with its speed ramped and its jog accumulator applied, and the raw position, formed without wrap. -/
def State.advanced (s : State) (x : Channel) : Channel × Int :=
  match x.state with
  | .playing =>
    let v := rampSpeed x.current x.target x.ramp
    ({ x with current := v }, x.position + v)
  | .shuttle =>
    let v := rampSpeed x.current x.target x.ramp
    ({ x with current := v }, x.position + v)
  | .jog => ({ x with jogAcc := 0 }, x.position + x.jogAcc * 256)
  | .live => match x.source with
    | .live l d => match (s.lane l).newestGood with
      | some g => (x, ((g : Int) - d) * 256)
      | none => (x, x.position)
    | .none | .clip _ | .lane _ => (x, x.position)
  | .cued => (x, x.position)
  | .paused => (x, x.position)
  | .idle => (x, x.position)

/-- The tick takes the request START in PLAYING, which discards the whole advance of this tick, the ramp with the move (R119, R142
item 1). -/
def Channel.discardsAdvance (x : Channel) : Bool :=
  x.running.isSome && x.state == .playing && x.request == some .start

/-- The advance that counts: none at START in PLAYING. -/
def State.advance (s : State) (x : Channel) : Channel × Int :=
  if x.discardsAdvance then (x, x.position) else s.advanced x

/-! ### The boundary step (R120, R142) -/

/-- A clamp in PLAYING without a running order pauses the channel (R120). -/
def Channel.afterClamp (x : Channel) : Channel :=
  if x.state = .playing ∧ x.running = none then { x with state := .paused, current := 0, target := 0 } else x

/-- The hold to the range (R120, R142 item 4). CLAMP is set before the change of state (log 23). -/
def State.holdStep (s : State) (c : Fin 4) (raw : Int) : State :=
  let x := s.channel c
  let range := s.channelRange x
  let held := holdTo range.1 range.2 raw
  let s := s.setChannel c { x with position := held.1 }
  if held.2 then
    let s := s.setFlag c .clamp
    s.setChannel c (s.channel c).afterClamp
  else s

/-- START in PLAYING: the playhead returns to the segment's first frame, or its last at a negative speed (R142 item 1). -/
def State.startStep (s : State) (c : Fin 4) (raw : Int) : State :=
  let x := s.channel c
  let s := s.setChannel c { x with request := none }
  if x.state = .playing then
    let range := s.channelRange x
    s.holdStep c ((if s.segmentSpeed x < 0 then range.2 else range.1) * 256 : Nat)
  else s.holdStep c raw

/-- The boundary that a playhead has crossed in PLAYING (R120). -/
def Channel.crossed (x : Channel) (lo hi : Nat) (raw : Int) : Option Nat :=
  if x.state = .playing then
    if (hi * 256 : Nat) < raw ∧ 0 < x.current then some hi
    else if raw < (lo * 256 : Nat) ∧ x.current < 0 then some lo
    else none
  else none

/-- The boundary step with a running order active and no START or segue request to take (R142 items 3 and 4). -/
def State.crossingStep (s : State) (c : Fin 4) (r : Running) (raw : Int) : State :=
  let x := s.channel c
  let range := s.channelRange x
  match x.crossed range.1 range.2 raw with
  | some lfn => s.endAction c r lfn
  | none => s.holdStep c raw

/-- The boundary step with a running order active (R142). -/
def State.runningStep (s : State) (c : Fin 4) (r : Running) (raw : Int) : State :=
  let x := s.channel c
  match x.request with
  | none => s.crossingStep c r raw
  | some .start => s.startStep c raw
  | some q =>
    if x.state = .playing ∨ x.state = .paused then
      let range := s.channelRange x
      s.takeRequest c r q (holdTo range.1 range.2 raw)
    else s.crossingStep c r raw

def State.boundaryStep (s : State) (c : Fin 4) (raw : Int) : State :=
  match (s.channel c).running with
  | some r => s.runningStep c r raw
  | none => s.holdStep c raw

/-! ### Selection (R121, R122) -/

/-- The LFN that a position rounds to. -/
def roundLfn (m : RoundMode) (position : Nat) : Nat :=
  match m with
  | .floor => position / 256
  | .nearest => (position + 128) / 256

/-- The newest GOOD entry at or before `n` in the range, else the oldest at or after it. -/
def Lane.choose (x : Lane) (lo n hi : Nat) : Option Entry :=
  match (x.entries.filter fun e => e.isGood && lo ≤ e.lfn && e.lfn ≤ n).getLast? with
  | some e => some e
  | none => (x.entries.filter fun e => e.isGood && n ≤ e.lfn && e.lfn ≤ hi).head?

/-- The channel claims an entry and hands over its fetch (R122). -/
def State.requestFetch (s : State) (c : Fin 4) (f : FrameRef) : State :=
  let s := s.placeClaim f.lane f.lfn
  (s.setChannel c { s.channel c with fetch := some f }).handFetch c f

def State.selection (s : State) (c : Fin 4) : State :=
  let x := s.channel c
  match s.sourceLane x.source with
  | none => s
  | some l =>
    if x.fetch.isSome then s
    else
      let range := s.channelRange x
      let want := roundLfn x.round x.position
      match (s.lane l).choose range.1 want (max range.1 range.2) with
      | none => s.setFlag c .repeated
      | some e =>
        let s := if e.lfn ≠ want then s.setFlag c .repeated else s
        if x.onAir.any fun o => o.lane == l && o.lfn == e.lfn then s
        else s.requestFetch c { lane := l, lfn := e.lfn, slot := e.slot }

/-! ### The tick (R118) -/

/-- A channel's action at an Output Tick. A channel without a source has no range to be held to and nothing to select. -/
def State.channelTick (s : State) (c : Fin 4) : State :=
  let s := s.presentation c
  let x := s.channel c
  if x.state = .idle then s
  else
    let a := s.advance x
    ((s.setChannel c a.1).boundaryStep c a.2).selection c

end Sys2Proof.Machine
end

