-- ==== Sys2Proof/Machine/Channels.lean ====
section
/-!
DEFINITION. The host commands of the playout channels (spec/06, R104, R105, R108 to R117, R128 to R132).
-/

namespace Sys2Proof.Machine

/-! ### Ownership (R104, R105) -/

/-- The reply of an accepted take: owner and level after it. -/
def State.takeReply (s : State) (c : Fin 4) : Answer :=
  s.accept (ownerBytes (s.channel c).owner ++ leBytes 1 (s.channel c).level)

/-- CHANNEL TAKE by station `st` at the effective level `level` (R104). -/
def State.takeChannel (s : State) (c : Fin 4) (st : Fin 16) (level : Nat) : Answer :=
  let x := s.channel c
  match x.owner with
  | none => (s.setChannel c { x with owner := some st, level }).takeReply c
  | some o =>
    if o = st then (s.setChannel c { x with level }).takeReply c
    else if level = 0 then
      ((s.setChannel c { x with owner := some st, level := 0 }).post .channel 1 c.val
        (leBytes 1 o.val ++ leBytes 1 st.val)).takeReply c
    else s.refuse .channelHeld

/-- CHANNEL TAKE (R104). -/
def execChannelTake (h : Header) (channel : Nat) (s : State) : Host.Outcome State Fault Refusal :=
  .next (s.takeCommand .channelTake h fun level s =>
    match fin? 4 channel with
    | none => s.refuse .badField
    | some c => s.takeChannel c h.station level)

/-- CHANNEL RELEASE (R105). -/
def execChannelRelease (h : Header) (channel : Nat) (s : State) : Host.Outcome State Fault Refusal :=
  .next (s.takeCommand .channelRelease h fun _ s =>
    s.owned h channel fun c => (s.setChannel c { s.channel c with owner := none }).accept [])

/-! ### Cueing and going live (R108 to R110) -/

/-- OK with the channel's position. -/
def State.positionReply (s : State) (c : Fin 4) : Answer := s.accept (positionBytes (s.channel c).position)

/-- OK with the channel's target speed. -/
def State.targetReply (s : State) (c : Fin 4) : Answer := s.accept (leInt 2 (s.channel c).target)

def State.cueClipRequest (s : State) (c : Fin 4) (n offset : Nat) : Answer :=
  match s.cueClipAt n offset (s.channel c).level with
  | .error st => s.refuse st
  | .ok lfn => (s.cueAt c (.clip n) lfn).positionReply c

/-- A clip number of 1 to 1,023. -/
def clipNumber (n : Nat) : Bool := 1 ≤ n && n ≤ 1023

/-- CUE CLIP (R108). -/
def execCueClip (h : Header) (channel clip offset : Nat) (s : State) : Host.Outcome State Fault Refusal :=
  .next (s.takeCommand .cueClip h fun _ s =>
    if clipNumber clip ∧ offset ≤ maxLfn then s.owned h channel fun c => s.cueClipRequest c clip offset
    else s.refuse .badField)

def State.cueLaneRequest (s : State) (c : Fin 4) (l : Fin 8) (newest : Bool) (lfn : Nat) : Answer :=
  match (s.lane l).newestGood with
  | none => s.refuse .noFrames
  | some g =>
    if newest then (s.cueAt c (.lane l) g).positionReply c
    else if ((s.lane l).floor.getD 0) ≤ lfn ∧ lfn ≤ g then (s.cueAt c (.lane l) lfn).positionReply c
    else s.refuse .range

/-- CUE LANE (R109). -/
def execCueLane (h : Header) (channel lane newest lfn : Nat) (s : State) : Host.Outcome State Fault Refusal :=
  .next (s.takeCommand .cueLane h fun _ s =>
    match fin? 8 lane, flag? newest with
    | some l, some f => if lfn ≤ maxLfn then s.owned h channel fun c => s.cueLaneRequest c l f lfn else s.refuse .badField
    | some _, none => s.refuse .badField
    | none, some _ => s.refuse .badField
    | none, none => s.refuse .badField)

def State.liveRequest (s : State) (c : Fin 4) (l : Fin 8) (delay : Nat) : Answer :=
  match (s.lane l).newestGood with
  | none => s.refuse .noFrames
  | some g => (s.goLive c l delay g).positionReply c

/-- LIVE (R110). -/
def execLive (h : Header) (channel lane delay : Nat) (s : State) : Host.Outcome State Fault Refusal :=
  .next (s.takeCommand .live h fun _ s =>
    match fin? 8 lane with
    | none => s.refuse .badField
    | some l => if delay ≤ 65535 then s.owned h channel fun c => s.liveRequest c l delay else s.refuse .badField)

/-! ### Playing (R111 to R117) -/

/-- PLAY on one channel, its checks made: the conversion, with QUANT and its notice, then the play (R111, R112; the order is log 23). -/
def State.playAt (s : State) (c : Fin 4) (f : SpeedField) (ramp : Nat) (round : RoundMode) : State :=
  let v := s.speedOf (s.channel c) f
  (s.noteQuant c v.2).playChannel c v.1 ramp round

/-- PLAY, the owner's checks made. No view check is made on the clip (R105, R111 against R49; log 43). -/
def State.playRequest (s : State) (c : Fin 4) (f : SpeedField) (ramp : Nat) (round : RoundMode) : Answer :=
  let x := s.channel c
  if x.state = .idle then s.refuse .wrongState
  else if f = .segment ∧ x.running = none then s.refuse .wrongState
  else (s.playAt c f ramp round).targetReply c

/-- The fields of PLAY, in range (R111). -/
def playFields? (p : PlayFields) : Option (SpeedField × Nat × RoundMode) := do
  let f ← speedField? p.speedKind p.speed
  let ramp ← rampStep? p.ramp
  let round ← roundMode? p.round
  some (f, ramp, round)

/-- PLAY (R111). -/
def execPlay (h : Header) (channel : Nat) (fields : PlayFields) (s : State) : Host.Outcome State Fault Refusal :=
  .next (s.takeCommand .play h fun _ s =>
    match playFields? fields with
    | none => s.refuse .badField
    | some (f, ramp, round) => s.owned h channel fun c => s.playRequest c f ramp round)

def State.pauseRequest (s : State) (c : Fin 4) : Answer :=
  let x := s.channel c
  if x.state = .playing ∨ x.state = .shuttle ∨ x.state = .jog ∨ x.state = .live then
    (s.setChannel c
      { x with state := .paused, current := 0, target := 0, jogAcc := 0, source := x.source.withoutDelay }).positionReply c
  else s.refuse .wrongState

/-- PAUSE (R113). -/
def execPause (h : Header) (channel : Nat) (s : State) : Host.Outcome State Fault Refusal :=
  .next (s.takeCommand .pause h fun _ s => s.owned h channel fun c => s.pauseRequest c)

/-- A speed of kind EXACT or PERCENT (R114, R117). -/
def plainSpeed? (kind : Nat) (v : Int) : Option SpeedField :=
  if kind ≤ 1 then speedField? kind v else none

/-- SPEED, the owner's checks made; QUANT and its notice come before the new target (R112, R114; log 23). -/
def State.speedRequest (s : State) (c : Fin 4) (f : SpeedField) (ramp : Nat) : Answer :=
  if (s.channel c).state = .playing then
    let v := s.speedOf (s.channel c) f
    let s := s.noteQuant c v.2
    (s.setChannel c { s.channel c with target := v.1, ramp }).targetReply c
  else s.refuse .wrongState

/-- SPEED (R114). -/
def execSpeed (h : Header) (channel kind : Nat) (value : Int) (ramp : Nat) (s : State) : Host.Outcome State Fault Refusal :=
  .next (s.takeCommand .speed h fun _ s =>
    match plainSpeed? kind value, rampStep? ramp with
    | some f, some r => s.owned h channel fun c => s.speedRequest c f r
    | some _, none => s.refuse .badField
    | none, some _ => s.refuse .badField
    | none, none => s.refuse .badField)

def State.stepRequest (s : State) (c : Fin 4) (count : Int) : Answer :=
  let x := s.channel c
  if x.state = .cued ∨ x.state = .paused ∨ x.state = .jog then
    let range := s.channelRange x
    let held := holdTo range.1 range.2 (x.position + count * 256)
    let s := s.setChannel c { x with position := held.1 }
    (if held.2 then s.setFlag c .clamp else s).positionReply c
  else s.refuse .wrongState

/-- STEP (R115). -/
def execStepFrames (h : Header) (channel : Nat) (count : Int) (s : State) : Host.Outcome State Fault Refusal :=
  .next (s.takeCommand .stepFrames h fun _ s =>
    if -1000 ≤ count ∧ count ≤ 1000 then s.owned h channel fun c => s.stepRequest c count else s.refuse .badField)

/-- CONTINUE (R116). -/
def execContinuePlay (h : Header) (channel : Nat) (s : State) : Host.Outcome State Fault Refusal :=
  .next (s.takeCommand .continuePlay h fun _ s => s.owned h channel fun c => s.continueRequest c)

/-- The channels that a mask names; its other bits name nothing (R205; log 15). -/
def maskChannels (m : BitVec 8) : List (Fin 4) := allChannels.filter fun c => m.getLsbD c.val

/-- SYNC/REFUSED (R132). -/
def State.postSync (s : State) (st : Fin 16) (reason : Status) (c : Fin 4) : State :=
  s.post .sync 0 c.val (leBytes 1 reason.code ++ leBytes 1 st.val)

/-- Why SYNC PLAY does not act on a channel (R117). -/
def Channel.syncRefusal (x : Channel) (st : Fin 16) : Option Status :=
  if x.owner ≠ some st then some .notOwner
  else if x.state ≠ .cued then some .wrongState
  else none

/-- SYNC PLAY on one named channel, with the numbers of the channels not acted on so far (R117). -/
def syncOne (st : Fin 16) (f : SpeedField) (ramp : Nat) (round : RoundMode) (a : State × List Nat) (c : Fin 4) :
    State × List Nat :=
  match (a.1.channel c).syncRefusal st with
  | some reason => (a.1.postSync st reason c, a.2 ++ [c.val])
  | none => (a.1.playAt c f ramp round, a.2)

def State.syncRequest (s : State) (h : Header) (mask : BitVec 8) (p : PlayFields) : Answer :=
  match plainSpeed? p.speedKind p.speed, rampStep? p.ramp, roundMode? p.round with
  | some f, some ramp, some round =>
    let a := (maskChannels mask).foldl (syncOne h.station f ramp round) (s, [])
    a.1.accept (maskByte (maskOf a.2))
  | _, _, _ =>
    if h.broadcast then ((maskChannels mask).foldl (fun s c => s.postSync h.station .badField c) s).refuse .badField
    else s.refuse .badField

/-- SYNC PLAY (R117). -/
def execSyncPlay (h : Header) (mask : BitVec 8) (fields : PlayFields) (s : State) : Host.Outcome State Fault Refusal :=
  .next (s.takeCommand .syncPlay h fun _ s => s.syncRequest h mask fields)

/-! ### Snap and resume (R129 to R131) -/

/-- SNAP (R129): target kind 0 a lane and delay, 1 a clip and offset (R205). -/
def execSnap (h : Header) (fields : SnapFields) (s : State) : Host.Outcome State Fault Refusal :=
  .next (s.takeCommand .snap h fun _ s =>
    match fields.kind with
    | 0 => match fin? 8 fields.lane with
      | none => s.refuse .badField
      | some l =>
        if fields.delay ≤ 65535 then s.owned h fields.channel fun c => s.snapLaneRequest c l fields.delay
        else s.refuse .badField
    | 1 =>
      if clipNumber fields.clip ∧ fields.offset ≤ maxLfn then
        s.owned h fields.channel fun c => s.snapClipRequest c fields.clip fields.offset
      else s.refuse .badField
    | _ => s.refuse .badField)

/-- RESUME (R130). -/
def execResume (h : Header) (channel : Nat) (s : State) : Host.Outcome State Fault Refusal :=
  .next (s.takeCommand .resume h fun _ s => s.owned h channel fun c => s.resumeRequest c (s.channel c).level)

/-- The save slot is emptied, and a saved clip leaves the saved role (R131). -/
def State.discardSave (s : State) (c : Fin 4) : State :=
  match (s.channel c).saved with
  | none => s
  | some k => (s.moveRole k.source .none).setChannel c { s.channel c with saved := none }

/-- SAVE DISCARD (R131). -/
def execSaveDiscard (h : Header) (channel : Nat) (s : State) : Host.Outcome State Fault Refusal :=
  .next (s.takeCommand .saveDiscard h fun _ s => s.owned h channel fun c => (s.discardSave c).accept [])

/-! ### Flags and status (R128, R136) -/

/-- Flags and enables, a mask byte each (R128, R205; log 24). -/
def State.flagsReply (s : State) (c : Fin 4) : Answer :=
  s.accept (maskByte (s.channel c).flags ++ maskByte (s.channel c).enables)

/-- FLAGS CLEAR (R128). -/
def execFlagsClear (h : Header) (channel : Nat) (mask : BitVec 8) (s : State) : Host.Outcome State Fault Refusal :=
  .next (s.takeCommand .flagsClear h fun _ s =>
    s.owned h channel fun c =>
      (s.setChannel c { s.channel c with flags := (s.channel c).flags &&& ~~~mask }).flagsReply c)

/-- FLAG ENABLES (R128). -/
def execFlagEnables (h : Header) (channel : Nat) (mask : BitVec 8) (s : State) : Host.Outcome State Fault Refusal :=
  .next (s.takeCommand .flagEnables h fun _ s =>
    s.owned h channel fun c => (s.setChannel c { s.channel c with enables := mask &&& flagMask }).flagsReply c)

/-- The fields of CHANNEL STATUS (R128, R136), in the order of 6.1 and then of the rules, flags and enables a mask byte each (log 24). -/
def State.channelStatusBytes (s : State) (x : Channel) : List Byte :=
  let z := s.fresh
  let range := s.channelRange x
  leBytes 1 x.state.code ++ ownerBytes x.owner ++ leBytes 1 x.level ++ x.source.bytes ++
    optBytes z 0 8 (x.running.map fun r => leBytes 4 r.startOffset ++ leBytes 4 r.endOffset) ++
    optBytes z 1 2 (x.running.map Running.positionBytes) ++ flagBytes x.hold ++ positionBytes x.position ++
    leInt 2 x.current ++ leInt 2 x.target ++ leBytes 2 x.ramp ++ leBytes 1 x.round.code ++ leInt 4 x.jogAcc ++
    optBytes z 2 7 (x.onAir.map FrameRef.bytes) ++ optBytes z 3 7 (x.next.map FrameRef.bytes) ++
    optBytes z 4 7 (x.fetch.map FrameRef.bytes) ++ maskByte x.flags ++ flagBytes x.summary ++ maskByte x.enables ++
    optBytes z 5 1 (x.lastFault.map fun f => leBytes 1 f.code) ++
    optBytes z 6 7 (x.saved.map fun k => leBytes 1 k.state.code ++ k.source.bytes) ++
    optBytes z 7 8 (if x.source = .none then none else some (lfnBytes range.1 ++ lfnBytes range.2)) ++
    optBytes z 8 8 (if x.running.isSome then some (lfnBytes range.1 ++ lfnBytes range.2) else none) ++
    requestBytes x.request

/-- CHANNEL STATUS (R128). -/
def execChannelStatus (h : Header) (channel : Nat) (s : State) : Host.Outcome State Fault Refusal :=
  .next (s.takeCommand .channelStatus h fun _ s =>
    match fin? 4 channel with
    | none => s.refuse .badField
    | some c => s.accept (s.channelStatusBytes (s.channel c)))

end Sys2Proof.Machine
end

