-- ==== Sys2Proof/Machine/CueLines.lean ====
section
/-!
DEFINITION. The cue line commands and the end of a pulse (spec/10, R181, R183, R187).
-/

namespace Sys2Proof.Machine

/-- The configuration that CUE LINE CONFIG carries, in range (R181); the state fields are taken from `x`. -/
def cueConfig? (f : CueFields) (x : CueLine) : Option CueLine := do
  let mode ← cueMode? f.mode
  let channel ← fin? 4 f.channel
  let direction ← cueDirection? f.direction
  let rearm ← cueRearm? f.rearm
  let action ← cueAction? f.action f.n
  let idleHigh ← flag? f.idleLevel
  let bank ← fin? 8 f.bank
  let entry ← fin? 32 f.entry
  if f.compareLfn ≤ maxLfn then
    some { x with mode, channel, compareLfn := f.compareLfn, direction, rearm, action, idleHigh, bank, entry }
  else none

/-- A configured line is armed and at rest; a STATE line takes the level its channel gives (R181). -/
def State.cueConfigured (s : State) (q : CueLine) : CueLine :=
  { q with pulse := 0, armed := true, active := q.mode == .state && (s.channel q.channel).state.isPlaying }

def State.cueConfigRequest (s : State) (f : CueFields) : Answer :=
  match fin? 8 f.line with
  | none => s.refuse .badField
  | some k => match cueConfig? f (s.cue k) with
    | none => s.refuse .badField
    | some q => (s.setCue k (s.cueConfigured q)).accept []

/-- CUE LINE CONFIG (R181). -/
def execCueLineConfig (h : Header) (fields : CueFields) (s : State) : Host.Outcome State Fault Refusal :=
  .next (s.takeCommand .cueLineConfig h fun _ s => s.cueConfigRequest fields)

/-- Output level and pulse counter. -/
def CueLine.outputBytes (q : CueLine) : List Byte := flagBytes q.active ++ leBytes 1 q.pulse

def State.cueFireRequest (s : State) (k : Fin 8) : Answer :=
  match (s.cue k).mode with
  | .off => s.refuse .wrongState
  | .state => s.refuse .wrongState
  | .compare | .segment =>
    let s := s.fireCue k 2 (leBytes 4 0) 0xFF
    s.accept (s.cue k).outputBytes

/-- CUE LINE FIRE (R187). -/
def execCueLineFire (h : Header) (line : Nat) (s : State) : Host.Outcome State Fault Refusal :=
  .next (s.takeCommand .cueLineFire h fun _ s =>
    match fin? 8 line with
    | none => s.refuse .badField
    | some k => s.cueFireRequest k)

/-- The body of CUE LINE STATUS, in the order of 10.1 (R187). -/
def CueLine.statusBytes (q : CueLine) : List Byte :=
  leBytes 1 q.mode.code ++ leBytes 1 q.channel.val ++ leBytes 4 q.compareLfn ++ leBytes 1 q.direction.code ++
    leBytes 1 q.rearm.code ++ leBytes 1 q.action.code ++ leBytes 1 q.action.number ++ flagBytes q.idleHigh ++
    leBytes 1 q.bank.val ++ leBytes 1 q.entry.val ++ q.outputBytes ++ flagBytes q.armed

/-- CUE LINE STATUS (R187). -/
def execCueLineStatus (h : Header) (line : Nat) (s : State) : Host.Outcome State Fault Refusal :=
  .next (s.takeCommand .cueLineStatus h fun _ s =>
    match fin? 8 line with
    | none => s.refuse .badField
    | some k => s.accept (s.cue k).statusBytes)

/-- PULSE_END (R183): the line's tick action when it brings the pulse counter to 0 (log 10). -/
def execPulseEnd (k : Fin 8) (s : State) : Host.Outcome State Fault Refusal :=
  .next (s.whenRunning fun s => if (s.cue k).pulse = 1 then s.cueTick k else s)

end Sys2Proof.Machine
end

