-- ==== Sys2Proof/Machine/LinkCommands.lean ====
section
/-!
DEFINITION. The Link Interface's own commands (spec/11, R195, R199 to R201).
-/

namespace Sys2Proof.Machine

/-! ### POLL (R199) -/

/-- The lowest level among notices, no more than 15. -/
def lowestLevel (level : NoticeClass → Nat) (l : List Notice) : Nat := l.foldl (fun m n => min m (level n.cls)) 15

/-- Up to `k` notices taken from the queue, lowest level first and oldest first within a level: those taken, and those left. -/
def takeUrgent (level : NoticeClass → Nat) : Nat → List Notice → List Notice × List Notice
  | 0, l => ([], l)
  | k + 1, l =>
    match l.find? fun n => level n.cls == lowestLevel level l with
    | none => ([], l)
    | some n =>
      let r := takeUrgent level k (l.eraseP fun n => level n.cls == lowestLevel level l)
      (n :: r.1, r.2)

/-- The count of the notices and their records (R199, 11.9). -/
def pollBytes (l : List Notice) : List Byte := leBytes 1 l.length ++ l.flatMap Notice.bytes

/-- POLL (R199). -/
def execPoll (h : Header) (s : State) : Host.Outcome State Fault Refusal :=
  .next (s.takeCommand .poll h fun _ s =>
    let r := takeUrgent s.classLevel 8 s.link.notices
    (s.setLink { s.link with notices := r.2 }).accept (pollBytes r.1))

/-! ### UNIT STATUS (R201) -/

def State.unitStatusBytes (s : State) : List Byte :=
  leBytes 1 s.link.unitAddress.val ++ leBytes 1 s.refu.state.code ++ s.refu.timecode.bytes ++ leBytes 4 s.rpn.toNat ++
    allLanes.flatMap (fun l => leBytes 1 (s.lane l).state.code) ++
    allChannels.flatMap (fun c => leBytes 1 (s.channel c).state.code) ++ leBytes 1 s.exporter.state.code ++
    leBytes 1 s.link.notices.length ++ flagBytes s.link.overflow ++ flagBytes s.link.overrun

/-- UNIT STATUS (R201, R16). -/
def execUnitStatus (h : Header) (s : State) : Host.Outcome State Fault Refusal :=
  .next (s.takeCommand .unitStatus h fun _ s => s.accept s.unitStatusBytes)

/-! ### STATION SET (R195) -/

def State.ceilingBytes (s : State) : List Byte := s.link.stations.toList.flatMap (leBytes 1)

def State.stationSetRequest (s : State) (station ceiling : Nat) : Answer :=
  match fin? 16 station with
  | none => s.refuse .badField
  | some st =>
    let table := s.link.stations.set st ceiling
    if ceiling ≤ 3 ∧ table.toList.contains 0 then
      let s := s.setLink { s.link with stations := table }
      s.accept s.ceilingBytes
    else s.refuse .badField

/-- STATION SET (R195). -/
def execStationSet (h : Header) (station ceiling : Nat) (s : State) : Host.Outcome State Fault Refusal :=
  .next (s.takeCommand .stationSet h fun _ s => s.stationSetRequest station ceiling)

/-! ### NOTICE LEVELS (R200) -/

/-- Eleven levels, each of 0 to 15. -/
def levels? (l : List Nat) : Option (Vector Nat 11) :=
  if h : l.toArray.size = 11 then if l.all fun n => decide (n ≤ 15) then some ⟨l.toArray, h⟩ else none else none

/-- All levels are replaced, and notices of silenced classes leave the queue. -/
def State.setLevels (s : State) (v : Vector Nat 11) : State :=
  s.setLink
    { s.link with levels := v, notices := s.link.notices.filter fun n => v[n.cls.number] != 15 }

/-- NOTICE LEVELS (R200). -/
def execNoticeLevels (h : Header) (levels : List Nat) (s : State) : Host.Outcome State Fault Refusal :=
  .next (s.takeCommand .noticeLevels h fun _ s =>
    match levels? levels with
    | none => s.refuse .badField
    | some v => (s.setLevels v).accept (v.toList.flatMap (leBytes 1)))

end Sys2Proof.Machine
end

