-- ==== Sys2Proof/Machine/Exports.lean ====
section
/-!
DEFINITION. The Export Channel: its walk and port records, its block completions, its stall counting and its ends, and the
export commands (spec/09).
-/

namespace Sys2Proof.Machine

/-! ### The port records (9.3) -/

def startRecord (e : Exporter) : List Byte :=
  leBytes 1 1 ++ leBytes 4 e.tag ++ leBytes 2 e.clip ++ leBytes 1 e.lane.val ++ lfnBytes e.first ++ lfnBytes e.last

def headerRecord (lfn : Nat) (tc : Timecode) (phase size : Nat) : List Byte :=
  leBytes 1 2 ++ lfnBytes lfn ++ tc.bytes ++ leBytes 1 phase ++ leBytes 1 size

def trailerRecord (lfn : Nat) (damaged : Bool) : List Byte := leBytes 1 3 ++ lfnBytes lfn ++ flagBytes damaged

def gapRecord (lfn : Nat) : List Byte := leBytes 1 4 ++ lfnBytes lfn

def endRecord (e : Exporter) (r : ExportResult) : List Byte :=
  leBytes 1 5 ++ leBytes 4 e.tag ++ leBytes 1 r.code ++ leBytes 4 e.sent.toNat ++ leBytes 4 e.gaps.toNat ++
    leBytes 4 e.damaged.toNat

/-! ### The end of an export (R176, R179) -/

/-- The data of EXPORT/END (R179). -/
def exportEndData (e : Exporter) (r : ExportResult) : List Byte :=
  leBytes 4 e.tag ++ leBytes 1 r.code ++ leBytes 2 (min e.damaged.toNat 0xFFFF) ++ flagBytes e.gapSent

/-- The five effects of every end, in their order (R176). -/
def State.endExport (s : State) (r : ExportResult) : State :=
  let e := s.exporter
  let s := s.emit (.portRecord (endRecord e r))
  let s := s.relax e.clip { s.clip e.clip with exportLock := false }
  let s := s.leaveClip e.clip
  let s := s.setExporter { e with lastResult := some r, abort := false, stall := 0, state := .idle }
  s.post .exporting 0 e.clip (exportEndData e r)

/-- The frame in progress ends with its trailer, and its claim is removed (R173 step 4, R174, R175). -/
def State.endFrame (s : State) (f : ExportFrame) (damaged : Bool) : State :=
  let e := s.exporter
  let s := s.emit (.portRecord (trailerRecord f.lfn damaged))
  let s := s.setExporter { e with sent := e.sent + 1, damaged := if damaged then e.damaged + 1 else e.damaged, frame := none }
  s.removeClaim e.lane f.lfn

/-! ### The walk (R172) -/

/-- The GOOD entry at an LFN. -/
def Lane.goodAt (x : Lane) (n : Nat) : Option Entry := x.entries.find? fun e => e.lfn == n && e.isGood

/-- A frame is begun (R172). -/
def State.beginFrame (s : State) (en : Entry) : State :=
  let e := s.exporter
  let s := s.placeClaim e.lane en.lfn
  let s := s.setExporter { e with frame := some { lfn := en.lfn, slot := en.slot, sent := 0, failed := false } }
  let s := s.emit (.portRecord (headerRecord en.lfn en.timecode en.phase (s.lane e.lane).s))
  s.handExportRead e.lane en.lfn en.slot 0

/-- A Gap record is sent (R172). -/
def State.sendGap (s : State) : State :=
  let e := s.exporter
  (s.emit (.portRecord (gapRecord e.next))).setExporter { e with gaps := e.gaps + 1, gapSent := true }

/-- The walk over at most `fuel` LFNs from next LFN. -/
def State.walk : Nat → State → State
  | 0, s => s
  | fuel + 1, s =>
    match (s.lane s.exporter.lane).goodAt s.exporter.next with
    | some en => s.beginFrame en
    | none =>
      let s := s.sendGap
      if s.exporter.next = s.exporter.last then s.endExport .complete
      else (s.setExporter { s.exporter with next := s.exporter.next + 1 }).walk fuel

/-- The walk from next LFN to the last LFN. -/
def State.walkOn (s : State) : State := s.walk (s.exporter.last + 1 - s.exporter.next)

/-! ### A block completion at the Export Channel (R173, R175) -/

def State.exportBlockDone (s : State) (good : Bool) : State :=
  let e := s.exporter
  match e.frame with
  | none => s
  | some f0 =>
    let f := { f0 with sent := f0.sent + 1, failed := f0.failed || !good }
    let s := s.setExporter { e with frame := some f }
    if e.abort then (s.endFrame f true).endExport .aborted
    else if f.sent < (s.lane e.lane).s then s.handExportRead e.lane f.lfn f.slot f.sent
    else
      let s := s.endFrame f f.failed
      if f.lfn = e.last then s.endExport .complete
      else (s.setExporter { s.exporter with next := f.lfn + 1 }).walkOn

/-! ### Stalls (R174) -/

/-- The export is held by the sink: RUNNING, XRDY deasserted, its block read handed and not granted. -/
def State.exportHeld (s : State) : Bool :=
  s.exporter.state == .running && !s.xrdy && s.xfer.exportRead.isSome && !s.exportServed

/-- The stall counter after a tick that counts. -/
def Exporter.counted (e : Exporter) : Nat := min 255 (e.stall + 1)

/-- The tick's count reaches the stall limit. -/
def Exporter.reachesLimit (e : Exporter) : Bool := decide (0 < e.limit) && decide (e.limit ≤ e.counted)

/-- The end at the stall limit: the block read is withdrawn; with abort pending the result is ABORTED (R174, R175). -/
def State.stallEnd (s : State) : State :=
  let r : ExportResult := if s.exporter.abort then .aborted else .stalled
  let s := s.setExportRead none
  match s.exporter.frame with
  | none => s.endExport r
  | some f => (s.endFrame f true).endExport r

/-- The export's action at a tick (R174). -/
def State.exporterTick (s : State) : State :=
  if s.exportHeld then
    let e := s.exporter
    let s := s.setExporter { e with stall := e.counted }
    if e.reachesLimit then s.stallEnd else s
  else s

/-- EXPORT_STALL (R174): the tick action of the export, when it reaches the stall limit (log 10). -/
def execExportStall (s : State) : Host.Outcome State Fault Refusal :=
  .next (s.whenRunning fun s => if s.exportHeld && s.exporter.reachesLimit then s.exporterTick else s)

/-! ### XRDY (R162, R174) -/

/-- XRDY_ASSERTED: the stall counter clears, and the waiting block read may be granted (R162, R174). -/
def execXrdyAsserted (s : State) : Host.Outcome State Fault Refusal :=
  let s := { s with xrdy := true }
  .next (s.whenRunning fun s => (s.setExporter { s.exporter with stall := 0 }).grant)

/-- XRDY_DEASSERTED: the export block read stops being waiting (R162). -/
def execXrdyDeasserted (s : State) : Host.Outcome State Fault Refusal :=
  .next { s with xrdy := false }

/-! ### The export commands (R170, R171, R175, R177, R178) -/

/-- The export lock is set on a clip, with lock admission when it carries neither flag (R170 check 8, R171 step 1). -/
def State.lockForExport (s : State) (n : Nat) : Option State :=
  let c := s.clip n
  if c.locked then some (s.setClip n { c with exportLock := true })
  else match c.range with
    | none => none
    | some r => (s.admitLock c.lane r).map fun s => s.setClip n { c with exportLock := true }

/-- The effects of an accepted EXPORT START after the lock is set (R171). -/
def State.startExport (s : State) (n fromOffset toOffset tag : Nat) : State :=
  let s := s.takeClip n
  let c := s.clip n
  let e : Exporter :=
    { s.exporter with state := .running, clip := n, lane := c.lane, fromOffset, toOffset, tag, first := c.inLfn + fromOffset,
                      last := c.inLfn + toOffset, next := c.inLfn + fromOffset, abort := false, sent := 0, gaps := 0,
                      gapSent := false, damaged := 0, stall := 0 }
  ((s.setExporter e).emit (.portRecord (startRecord e))).walkOn

/-- The reply ACCEPTED with first and last LFN and the lane's held count after the command (R171; log 24). -/
def State.exportStartRequest (s : State) (n fromOffset toOffset tag level : Nat) : Answer :=
  let c := s.clip n
  if s.exporter.state = .running then s.refuse .busy
  else if c.state = .free then s.refuse .clipFree
  else if level > c.vl then s.refuse .rights
  else if c.state = .absent then s.refuse .clipAbsent
  else if c.state = .opened then s.refuse .clipOpen
  else if ¬(fromOffset ≤ toOffset ∧ toOffset ≤ c.out.getD c.inLfn - c.inLfn) then s.refuse .range
  else match s.lockForExport n with
    | none => s.refuse .lockBudget
    | some s' =>
      let t := s'.startExport n fromOffset toOffset tag
      { state := t, status := .accepted,
        body := lfnBytes t.exporter.first ++ lfnBytes t.exporter.last ++ leBytes 2 (t.lane c.lane).held }

/-- EXPORT START (R170, R171). -/
def execExportStart (h : Header) (clip fromOffset toOffset tag : Nat) (s : State) : Host.Outcome State Fault Refusal :=
  .next (s.takeCommand .exportStart h fun level s =>
    if 1 ≤ clip ∧ clip ≤ 1023 ∧ fromOffset ≤ maxLfn ∧ toOffset ≤ maxLfn ∧ tag ≤ maxLfn then
      s.exportStartRequest clip fromOffset toOffset tag level
    else s.refuse .badField)

/-- EXPORT ABORT (R175). -/
def execExportAbort (h : Header) (s : State) : Host.Outcome State Fault Refusal :=
  .next (s.takeCommand .exportAbort h fun _ s =>
    if s.exporter.state = .idle then s.refuse .wrongState
    else (s.setExporter { s.exporter with abort := true }).accept [])

/-- EXPORT CONFIG (R177). -/
def execExportConfig (h : Header) (limit : Nat) (s : State) : Host.Outcome State Fault Refusal :=
  .next (s.takeCommand .exportConfig h fun _ s =>
    if limit ≤ 255 then (s.setExporter { s.exporter with limit }).accept [] else s.refuse .badField)

/-- Whether the block read is waiting (0), in service (1) or not handed (2) (R178; log 24). -/
def State.exportReadState (s : State) : Nat :=
  if s.xfer.exportRead.isNone then 2 else if s.exportServed then 1 else 0

def ExportFrame.bytes (f : ExportFrame) : List Byte :=
  lfnBytes f.lfn ++ leBytes 2 f.slot ++ leBytes 1 f.sent ++ flagBytes f.failed

/-- The body of EXPORT STATUS, in the order of R169 (R178); the level of XRDY is 1 asserted, 0 deasserted (log 24). -/
def State.exportStatusBytes (s : State) : List Byte :=
  let e := s.exporter
  leBytes 1 e.state.code ++ leBytes 2 e.clip ++ leBytes 1 e.lane.val ++ leBytes 4 e.fromOffset ++ leBytes 4 e.toOffset ++
    lfnBytes e.first ++ lfnBytes e.last ++ leBytes 4 e.tag ++ lfnBytes e.next ++
    optBytes s.fresh 0 8 (e.frame.map ExportFrame.bytes) ++ flagBytes e.abort ++ leBytes 4 e.sent.toNat ++
    leBytes 4 e.gaps.toNat ++ leBytes 4 e.damaged.toNat ++ leBytes 1 e.stall ++ leBytes 1 e.limit ++
    leBytes 1 (lastResultCode e.lastResult) ++ flagBytes s.xrdy ++ leBytes 1 s.exportReadState

/-- EXPORT STATUS (R178). -/
def execExportStatus (h : Header) (s : State) : Host.Outcome State Fault Refusal :=
  .next (s.takeCommand .exportStatus h fun _ s => s.accept s.exportStatusBytes)

end Sys2Proof.Machine
end

