-- ==== Sys2Proof/Machine/JogLever.lean ====
section
/-!
DEFINITION. The jog counters and the lever converter, and how a channel takes what they deliver (spec/05; spec/06, R125, R126).
-/

namespace Sys2Proof.Machine

/-! ### Edges (R88 to R90) -/

/-- The place of a phase state in the forward order (0,0), (1,0), (1,1), (0,1). -/
def phaseCode (a b : Bool) : Nat :=
  match a, b with
  | false, false => 0
  | true, false => 1
  | true, true => 2
  | false, true => 3

/-- A jog counter takes new levels on A and B: +1, −1, or the glitch indicator (R88 to R90). -/
def Jog.edge (x : Jog) (a b : Bool) : Jog :=
  match (phaseCode a b + 4 - phaseCode x.a x.b) % 4 with
  | 0 => x
  | 1 => { x with a, b, count := x.count + 1 }
  | 3 => { x with a, b, count := x.count - 1 }
  | _ => { x with a, b, glitch := true }

/-- JOG_EDGE (R88). -/
def execJogEdge (j : Fin 4) (a b : Bool) (s : State) : Host.Outcome State Fault Refusal :=
  .next (s.whenRunning fun s => s.setJog j ((s.jog j).edge a b))

/-! ### Detents (R91) -/

/-- The whole detents in the count, truncated toward zero. -/
def Jog.detents (x : Jog) : Int := x.count.toInt.tdiv x.counts

/-- The jog's action at a tick: its detents leave the count, and a bound jog delivers them (R91). -/
def Jog.ticked (x : Jog) : Jog :=
  let d := x.detents
  let x' := { x with count := BitVec.ofInt 16 (x.count.toInt - d * x.counts) }
  if d = 0 then x'
  else match x.binding with
    | none => x'
    | some c => { x' with motions := x.motions ++ [{ channel := c, detents := d, step := x.step, takeover := x.takeover }] }

def State.jogTick (s : State) (j : Fin 4) : State := s.setJog j (s.jog j).ticked

/-! ### Jog Motion at its channel (R125) -/

/-- The jog accumulator stays within ±65,536. -/
def holdAcc (n : Int) : Int := max (-65536) (min 65536 n)

/-- A channel takes a Jog Motion. -/
def Channel.takeJog (x : Channel) (m : JogMotion) : Channel :=
  let frames := m.detents * m.step
  match x.state with
  | .jog => { x with jogAcc := holdAcc (x.jogAcc + frames) }
  | .idle => x
  | .playing | .paused | .cued | .shuttle | .live =>
    if m.takeover then
      { x with state := .jog, current := 0, target := 0, jogAcc := holdAcc frames, source := x.source.withoutDelay }
    else x

/-- The oldest Jog Motion on its way from a jog reaches its channel (R125; log 9). -/
def State.deliverJog (s : State) (j : Fin 4) : State :=
  let x := s.jog j
  match x.motions with
  | [] => s
  | m :: rest =>
    let s := s.setJog j { x with motions := rest }
    s.setChannel m.channel ((s.channel m.channel).takeJog m)

/-- JOG_MOTION (R125). -/
def execJogMotion (j : Fin 4) (s : State) : Host.Outcome State Fault Refusal :=
  .next (s.whenRunning fun s => s.deliverJog j)

/-! ### Jog commands (R92, R93) -/

/-- The configuration that JOG CONFIG carries, in range (R92). -/
def jogConfig? (f : JogFields) (x : Jog) : Option Jog := do
  let binding ← channelBinding? f.bindKind f.channel
  let takeover ← flag? f.takeover
  if f.counts ∈ [1, 2, 4] ∧ 1 ≤ f.step ∧ f.step ≤ 16 then
    some { x with binding, counts := f.counts, step := f.step, takeover, count := 0 }
  else none

def State.jogConfigRequest (s : State) (f : JogFields) : Answer :=
  match fin? 4 f.jog with
  | none => s.refuse .badField
  | some j => match jogConfig? f (s.jog j) with
    | none => s.refuse .badField
    | some x => (s.setJog j x).accept []

/-- JOG CONFIG (R92). -/
def execJogConfig (h : Header) (fields : JogFields) (s : State) : Host.Outcome State Fault Refusal :=
  .next (s.takeCommand .jogConfig h fun _ s => s.jogConfigRequest fields)

/-- The body of JOG STATUS (R93); the phase state's code is its place in the list of 5.1. -/
def Jog.statusBytes (x : Jog) : List Byte :=
  bindingBytes x.binding ++ leBytes 1 x.counts ++ leBytes 1 x.step ++ flagBytes x.takeover ++ leInt 2 x.count.toInt ++
    leBytes 1 (phaseCode x.a x.b) ++ flagBytes x.glitch

/-- JOG STATUS (R93): the glitch indicator is returned, then cleared. -/
def execJogStatus (h : Header) (jog : Nat) (s : State) : Host.Outcome State Fault Refusal :=
  .next (s.takeCommand .jogStatus h fun _ s =>
    match fin? 4 jog with
    | none => s.refuse .badField
    | some j => (s.setJog j { s.jog j with glitch := false }).accept (s.jog j).statusBytes)

/-! ### The lever converter (R95 to R98) -/

/-- Target speed and in-dead-band flag of a lever value (R98). -/
def Lever.convert (x : Lever) (v : Nat) : Int × Bool :=
  if max v x.centre - min v x.centre ≤ x.halfWidth then (0, true)
  else
    let i := v / 64
    let r : Int := (v % 64 : Nat)
    ((x.curve.getD i 0 * (64 - r) + x.curve.getD (i + 1) 0 * r).tdiv 64, false)

/-- The next conversion starts, or the scan ends (R95, R96). -/
def State.nextConversion (s : State) : State :=
  match s.scanList with
  | [] => { s with underWay := none }
  | v :: rest => { s with underWay := some v, scanList := rest }

/-- The levers skipped when a tick restarts the scan (R97). -/
def State.skipLevers (s : State) : State :=
  (s.underWay.toList ++ s.scanList).foldl
    (fun s v => s.setLever v { s.lever v with skipped := (s.lever v).skipped + 1 }) s

/-- The converter's action at a tick: a scan under way is ended with its skips, and a new scan starts (R95, R97). -/
def State.leverTick (s : State) : State :=
  let s := s.skipLevers
  ({ s with scanList := allLevers.filter fun v => (s.lever v).binding.isSome }).nextConversion

/-- The lever with its result recorded and its Lever Motion on its way (R96). -/
def Lever.converted (x : Lever) (v : Nat) : Lever :=
  let t := x.convert v
  let x' := { x with last := some { value := v, target := t.1, inBand := t.2 } }
  match x.binding with
  | none => x'
  | some c => { x' with motions := x.motions ++ [{ channel := c, target := t.1, inBand := t.2, takeover := x.takeover }] }

/-- A conversion completes (R96). Without one under way, or above 1,023, no result arises (log 7). -/
def State.leverResult (s : State) (value : Nat) : State :=
  match s.underWay with
  | none => s
  | some v => if value ≤ 1023 then (s.setLever v ((s.lever v).converted value)).nextConversion else s

/-- LEVER_RESULT (R96). -/
def execLeverResult (value : Nat) (s : State) : Host.Outcome State Fault Refusal :=
  .next (s.whenRunning fun s => s.leverResult value)

/-! ### Lever Motion at its channel (R126) -/

/-- A channel takes a Lever Motion; the speed kept on entering SHUTTLE is that of PLAYING or of LIVE, else 0. -/
def Channel.takeLever (x : Channel) (m : LeverMotion) : Channel :=
  match x.state with
  | .shuttle => { x with target := if m.inBand then 0 else m.target }
  | .idle => x
  | .playing | .paused | .cued | .jog | .live =>
    if m.takeover && !m.inBand then
      { x with state := .shuttle, target := m.target, current := x.keptSpeed, jogAcc := 0, source := x.source.withoutDelay }
    else x

/-- The oldest Lever Motion on its way from a lever reaches its channel (R126; log 9). -/
def State.deliverLever (s : State) (v : Fin 4) : State :=
  let x := s.lever v
  match x.motions with
  | [] => s
  | m :: rest =>
    let s := s.setLever v { x with motions := rest }
    s.setChannel m.channel ((s.channel m.channel).takeLever m)

/-- LEVER_MOTION (R126). -/
def execLeverMotion (v : Fin 4) (s : State) : Host.Outcome State Fault Refusal :=
  .next (s.whenRunning fun s => s.deliverLever v)

/-! ### Lever commands (R99 to R101) -/

/-- The configuration that LEVER CONFIG carries, in range (R99). -/
def leverConfig? (f : LeverFields) (x : Lever) : Option Lever := do
  let binding ← channelBinding? f.bindKind f.channel
  let takeover ← flag? f.takeover
  if f.centre ≤ 1023 ∧ f.halfWidth ≤ 255 then
    some { x with binding, centre := f.centre, halfWidth := f.halfWidth, takeover }
  else none

def State.leverConfigRequest (s : State) (f : LeverFields) : Answer :=
  match fin? 4 f.lever with
  | none => s.refuse .badField
  | some v => match leverConfig? f (s.lever v) with
    | none => s.refuse .badField
    | some x => (s.setLever v x).accept []

/-- LEVER CONFIG (R99). -/
def execLeverConfig (h : Header) (fields : LeverFields) (s : State) : Host.Outcome State Fault Refusal :=
  .next (s.takeCommand .leverConfig h fun _ s => s.leverConfigRequest fields)

/-- 17 speed points, each within ±8,192 (R100). -/
def curveValid (points : List Int) : Bool :=
  points.length == 17 && points.all fun p => decide (-8192 ≤ p) && decide (p ≤ 8192)

/-- CURVE LOAD (R100). -/
def execCurveLoad (h : Header) (lever : Nat) (points : List Int) (s : State) : Host.Outcome State Fault Refusal :=
  .next (s.takeCommand .curveLoad h fun _ s =>
    match fin? 4 lever with
    | none => s.refuse .badField
    | some v =>
      if curveValid points then (s.setLever v { s.lever v with curve := points }).accept [] else s.refuse .badField)

def LeverResult.bytes (r : LeverResult) : List Byte := leBytes 2 r.value ++ leInt 2 r.target ++ flagBytes r.inBand

/-- The body of LEVER STATUS (R101). -/
def State.leverStatusBytes (s : State) (v : Fin 4) : List Byte :=
  let x := s.lever v
  bindingBytes x.binding ++ leBytes 2 x.centre ++ leBytes 1 x.halfWidth ++ flagBytes x.takeover ++
    x.curve.flatMap (leInt 2) ++ optBytes s.fresh 0 5 (x.last.map LeverResult.bytes) ++ leBytes 2 x.skipped.toNat ++
    flagBytes (s.underWay == some v) ++ flagBytes (s.scanList.contains v)

/-- LEVER STATUS (R101). -/
def execLeverStatus (h : Header) (lever : Nat) (s : State) : Host.Outcome State Fault Refusal :=
  .next (s.takeCommand .leverStatus h fun _ s =>
    match fin? 4 lever with
    | none => s.refuse .badField
    | some v => s.accept (s.leverStatusBytes v))

end Sys2Proof.Machine
end

