-- ==== Sys2Proof/Machine/Lanes.lean ====
section
/-!
DEFINITION. The ingest lanes: their configuration and states, the arrival of a frame and its damage, the lane's tick, and the
reading of the index (spec/02, R17 to R42).
-/

namespace Sys2Proof.Machine

/-! ### LANE CONFIG (R17, R18) -/

/-- The fields that an enabled lane takes, checked (R17 check 1). -/
def laneFieldsInRange (f : LaneFields) : Bool :=
  decide (f.p ∈ [1, 2, 3, 4, 6, 8]) && decide (1 ≤ f.s) && decide (f.s ≤ 128) && f.k % 256 == 0 && decide (256 ≤ f.k) &&
    decide (f.k ≤ 65536) && decide (f.base ≤ 262143) && decide (f.h ≤ f.k - 16)

/-- A channel's current or saved source lies on the lane, a fetch is in flight on one of its entries, or the export runs on a
clip of it (R17 check 3). -/
def State.laneInUse (s : State) (l : Fin 8) : Bool :=
  (allChannels.any fun c =>
    let x := s.channel c
    s.sourceLane x.source == some l || (x.saved.any fun k => s.sourceLane k.source == some l) ||
      x.fetch.any fun f => f.lane == l) ||
    (s.exporter.state == .running && s.exporter.lane == l)

/-- Some clip of the lane is locked (R17 check 4). -/
def State.laneLocked (s : State) (l : Fin 8) : Bool := s.clips.any fun e => e.2.lane == l && e.2.locked

/-- The other lanes that are not OFF. -/
def State.otherLanes (s : State) (l : Fin 8) : List Lane :=
  ((allLanes.filter fun m => m != l).map s.lane).filter fun x => x.state != .off

/-- R17 check 5. -/
def State.regionFits (s : State) (l : Fin 8) (f : LaneFields) : Bool :=
  decide (f.base + f.k * f.s ≤ 262144) &&
    (s.otherLanes l).all fun x => decide (f.base + f.k * f.s ≤ x.base) || decide (x.base + x.k * x.s ≤ f.base)

/-- R17 check 6. -/
def State.indexFits (s : State) (l : Fin 8) (f : LaneFields) : Bool :=
  decide (f.k + ((s.otherLanes l).map Lane.k).sum ≤ 131072)

/-- The lane after an accepted LANE CONFIG (R18). Signal state, stop cause and the port's frames stay (log 42). -/
def Lane.configured (x : Lane) (f : LaneFields) (enable : Bool) : Lane :=
  { x with state := if enable then .stopped else .off, p := if enable then f.p else 0, s := if enable then f.s else 0,
           k := if enable then f.k else 0, base := if enable then f.base else 0, h := if enable then f.h else 0,
           entries := [], freeSlots := if enable then List.range f.k else [], held := 0, periodBase := 0, arrivals := 0,
           newestAssigned := none, accepted := 0, overs := 0, overruns := 0, damaged := 0, evicted := 0 }

def State.laneConfigRequest (s : State) (f : LaneFields) : Answer :=
  match fin? 8 f.lane, flag? f.enable with
  | some l, some enable =>
    let x := s.lane l
    if enable && !laneFieldsInRange f then s.refuse .badField
    else if x.state ≠ .off ∧ x.state ≠ .stopped then s.refuse .busy
    else if s.laneInUse l then s.refuse .busy
    else if s.laneLocked l then s.refuse .lockedFrames
    else if enable && !s.regionFits l f then s.refuse .overlap
    else if enable && !s.indexFits l f then s.refuse .noRoom
    else ((s.setLane l (x.configured f enable)).laneConfigured l).accept []
  | some _, none => s.refuse .badField
  | none, some _ => s.refuse .badField
  | none, none => s.refuse .badField

/-- LANE CONFIG (R17, R18). -/
def execLaneConfig (h : Header) (fields : LaneFields) (s : State) : Host.Outcome State Fault Refusal :=
  .next (s.takeCommand .laneConfig h fun _ s => s.laneConfigRequest fields)

/-! ### REC START and REC STOP (R19, R20) -/

/-- The lanes that a mask names. -/
def maskLanes (m : BitVec 8) : List (Fin 8) := allLanes.filter fun l => m.getLsbD l.val

/-- A lane takes REC START (R19). -/
def Lane.mayStart (x : Lane) : Bool :=
  (x.state == .stopped || x.state == .stopping) && decide (x.nextLfn + x.p - 1 ≤ maxLfn)

def Lane.started (x : Lane) : Lane := { x with state := .recording, periodBase := x.nextLfn, arrivals := 0 }

/-- REC START at one named lane, with the numbers of the lanes not acted on so far. -/
def recStartOne (a : State × List Nat) (l : Fin 8) : State × List Nat :=
  let x := a.1.lane l
  if x.mayStart then (a.1.setLane l x.started, a.2) else (a.1, a.2 ++ [l.val])

/-- REC START (R19). -/
def execRecStart (h : Header) (mask : BitVec 8) (s : State) : Host.Outcome State Fault Refusal :=
  .next (s.takeCommand .recStart h fun _ s =>
    let a := (maskLanes mask).foldl recStartOne (s, [])
    a.1.accept (maskByte (maskOf a.2)))

/-- REC STOP at one named lane. -/
def recStopOne (a : State × List Nat) (l : Fin 8) : State × List Nat :=
  if (a.1.lane l).state = .recording then (a.1.stopLane l .recStop, a.2) else (a.1, a.2 ++ [l.val])

/-- REC STOP (R20). -/
def execRecStop (h : Header) (mask : BitVec 8) (s : State) : Host.Outcome State Fault Refusal :=
  .next (s.takeCommand .recStop h fun _ s =>
    let a := (maskLanes mask).foldl recStopOne (s, [])
    a.1.accept (maskByte (maskOf a.2)))

/-! ### Reading the index (R40, R41) -/

/-- An entry as INDEX READ returns it. -/
def Entry.bytes (e : Entry) : List Byte :=
  lfnBytes e.lfn ++ leBytes 2 e.slot ++ leBytes 1 e.status.code ++ leBytes 4 e.rpn.toNat ++ e.timecode.bytes ++
    leBytes 1 e.phase ++ leBytes 1 e.readCount

/-- Floor, newest GOOD and newest assigned, each with its present flag. -/
def Lane.lfnFields (z : Nat) (x : Lane) : List Byte :=
  optBytes z 0 4 (x.floor.map lfnBytes) ++ optBytes z 1 4 (x.newestGood.map lfnBytes) ++
    optBytes z 2 4 (x.newestAssigned.map lfnBytes)

/-- The body of INDEX READ (R40): the list of entries goes with its count byte (log 24). -/
def Lane.indexBytes (z : Nat) (x : Lane) (start : Nat) : List Byte :=
  let es := (x.entries.filter fun e => start ≤ e.lfn).take 12
  leBytes 1 es.length ++ es.flatMap Entry.bytes ++ x.lfnFields z ++ leBytes 2 x.held ++ leBytes 4 x.freeSlots.length ++
    leBytes 1 x.state.code

/-- INDEX READ (R40). -/
def execIndexRead (h : Header) (lane startLfn : Nat) (s : State) : Host.Outcome State Fault Refusal :=
  .next (s.takeCommand .indexRead h fun _ s =>
    match fin? 8 lane with
    | none => s.refuse .badField
    | some l => if startLfn ≤ maxLfn then s.accept ((s.lane l).indexBytes s.fresh startLfn) else s.refuse .badField)

/-- The body of LANE STATUS (R41). -/
def Lane.statusBytes (z : Nat) (x : Lane) : List Byte :=
  leBytes 1 x.state.code ++ flagBytes x.signal ++ leBytes 1 x.p ++ leBytes 1 x.s ++ leBytes 4 x.k ++ leBytes 4 x.base ++
    leBytes 2 x.h ++ lfnBytes x.periodBase ++ leBytes 1 x.arrivals ++ lfnBytes x.nextLfn ++ x.lfnFields z ++
    leBytes 4 x.entries.length ++ leBytes 4 x.freeSlots.length ++ leBytes 2 x.held ++ leBytes 1 x.writing ++
    leBytes 4 x.accepted.toNat ++ leBytes 4 x.overs.toNat ++ leBytes 4 x.overruns.toNat ++ leBytes 4 x.damaged.toNat ++
    leBytes 4 x.evicted.toNat

/-- LANE STATUS (R41). -/
def execLaneStatus (h : Header) (lane : Nat) (s : State) : Host.Outcome State Fault Refusal :=
  .next (s.takeCommand .laneStatus h fun _ s =>
    match fin? 8 lane with
    | none => s.refuse .badField
    | some l => s.accept ((s.lane l).statusBytes s.fresh))

/-! ### The frames at an ingest port (R156 to R158) -/

/-- The taken frame under delivery. -/
def PortFrame.taken : PortFrame → Option TakenFrame
  | .idle => none
  | .dropping => none
  | .taking lfn blocks => some { lfn, blocks }

/-- The port goes on to its next frame; a taken frame that it has not ended keeps waiting for its frame end (R158; log 25). -/
def Lane.nextFrame (x : Lane) (p : PortFrame) : Lane := { x with port := p, unended := x.unended ++ x.port.taken.toList }

/-- The taken frame that a frame end is for: the one it names, else the one under delivery. -/
def Lane.takenFrame (x : Lane) : Option Nat → Option TakenFrame
  | none => x.port.taken
  | some n => (x.unended ++ x.port.taken.toList).find? fun f => f.lfn == n

/-- The frame is ended at the port. -/
def Lane.frameEnded (x : Lane) : Option Nat → Lane
  | none => { x with port := .idle }
  | some n => { x with port := if x.port.taken.any fun f => f.lfn == n then .idle else x.port
                       unended := x.unended.filter fun f => f.lfn != n }

/-! ### A frame's arrival (R24, R25, R39) -/

/-- The port is told DISCARD. -/
def State.discardArrival (s : State) (l : Fin 8) : State :=
  (s.modifyLane l fun x => x.nextFrame .dropping).emit (.discard l)

/-- The entry of an arrival, appended in WRITING at the lowest free slot (R27). -/
def Lane.appendEntry (x : Lane) (lfn phase : Nat) (rpn : Count32) (tc : Timecode) : Lane :=
  match x.freeSlots with
  | [] => x
  | j :: rest =>
    { x with entries := x.entries ++ [{ lfn, slot := j, status := .writing, rpn, timecode := tc, phase, readCount := 0 }],
             freeSlots := rest, accepted := x.accepted + 1 }

/-- The held decision for a new entry, with the closes at the ceiling (R36). `before` is newest assigned before the arrival. -/
def State.holdArrival (s : State) (l : Fin 8) (before : Nat) (lfn : Nat) : State :=
  let x := s.lane l
  match s.lockedAt l lfn with
  | [] => s
  | n :: t =>
    if x.held < x.h then s.setLane l { x with held := x.held + 1 }
    else (n :: t).foldl (fun s n => s.closeAtCeiling l before lfn n) s

/-- Steps 4 to 8 of R39 for an arrival that takes an entry; without a slot to obtain, the frame is discarded (log 30). -/
def State.takeArrival (s : State) (l : Fin 8) (before lfn phase : Nat) : State :=
  let s := s.makeRoom l
  match (s.lane l).freeSlots with
  | [] => (s.closePlanned l lfn).discardArrival l
  | j :: _ =>
    let s := s.modifyLane l fun x => x.appendEntry lfn phase s.refu.rpn s.refu.timecode
    let s := (s.holdArrival l before lfn).closePlanned l lfn
    ((s.handWrite l lfn j).modifyLane l fun x => x.nextFrame (.taking lfn 0)).emit (.take l lfn)

/-- A refusal for a full write queue: the LFN becomes a gap (R24 step 3, R39). -/
def State.overrunArrival (s : State) (l : Fin 8) (lfn : Nat) : State :=
  let s := (s.modifyLane l fun x => { x with overruns := x.overruns + 1 }).post .cadence 1 l.val (lfnBytes lfn)
  (s.closePlanned l lfn).discardArrival l

/-- A Frame Arrival at a RECORDING lane (R24, R39). -/
def State.arrive (s : State) (l : Fin 8) : State :=
  let x := s.lane l
  if x.arrivals = x.p then
    ((s.setLane l { x with overs := x.overs + 1 }).post .cadence 0 l.val (lfnBytes x.periodBase ++ leBytes 1 x.p)).discardArrival l
  else
    let lfn := x.nextLfn
    let s := s.setLane l { x with arrivals := x.arrivals + 1, newestAssigned := some lfn }
    if 2 ≤ x.writing then s.overrunArrival l lfn
    else s.takeArrival l (x.newestAssigned.getD 0) lfn x.arrivals

def State.frameArrives (s : State) (l : Fin 8) : State :=
  if (s.lane l).state = .recording then s.arrive l else s.discardArrival l

/-- FRAME_ARRIVAL (R24, R25, R39). -/
def execFrameArrival (l : Fin 8) (s : State) : Host.Outcome State Fault Refusal :=
  .next (s.whenRunning fun s => s.frameArrives l)

/-! ### Ingest damage (R31) and the signal (R22) -/

/-- Ingest damage of a frame that was told TAKE (R31). It removes a WRITING entry (R33). -/
def State.damageFrame (s : State) (l : Fin 8) (lfn : Nat) : State :=
  match (s.lane l).entries.find? fun e => e.lfn == lfn && e.status == .writing with
  | none => s
  | some e =>
    let held := s.isHeld l lfn
    let s := s.modifyLane l fun x =>
      { x.removeEntry e with held := if held then x.held - 1 else x.held, damaged := x.damaged + 1 }
    (((s.cancelWrite l lfn).post .cadence 2 l.val (lfnBytes lfn ++ leBytes 2 e.slot))).settleStopping l

/-- The port ends a frame damaged; one that it was dropping ends without a report (R157). -/
def State.endDamaged (s : State) (l : Fin 8) (frame : Option Nat) : State :=
  let t := s.modifyLane l fun x => x.frameEnded frame
  match (s.lane l).takenFrame frame with
  | none => t
  | some f => t.damageFrame l f.lfn

/-- The port reports its signal: a loss ends the frame it delivers first (R22, R157; log 26). -/
def State.signalReport (s : State) (l : Fin 8) (present : Bool) : State :=
  if (s.lane l).signal = present then s
  else
    let s := if present then s else s.endDamaged l none
    let s := s.modifyLane l fun x => { x with signal := present }
    if (s.lane l).state = .off then s
    else s.post .lane (if present then 1 else 0) l.val (leBytes 1 (s.lane l).state.code)

/-- SIGNAL_CHANGE (R22). -/
def execSignalChange (l : Fin 8) (present : Bool) (s : State) : Host.Outcome State Fault Refusal :=
  .next (s.whenRunning fun s => s.signalReport l present)

/-! ### The lane's tick (R23) -/

/-- A RECORDING lane begins a new period, or stops on itself when its LFNs run out (R23). Either way each OPEN clip of the lane whose
planned out now lies below the period base closes (R23, R37, R55; log 22). -/
def State.periodTick (s : State) (l : Fin 8) : State :=
  let x := s.lane l
  if x.periodBase + 2 * x.p - 1 ≤ maxLfn then
    (s.setLane l { x with periodBase := x.periodBase + x.p, arrivals := 0 }).closeBelow l (x.periodBase + x.p)
  else ((s.closeBelow l x.periodBase).stopLane l .exhaustion).post .lane 3 l.val (lfnBytes x.periodBase)

/-- The lane's tick: a lane in STOPPING, STOPPED or OFF does nothing (R23; log 22). -/
def State.laneTick (s : State) (l : Fin 8) : State :=
  if (s.lane l).state = .recording then s.periodTick l else s

end Sys2Proof.Machine
end

