-- ==== Sys2Proof/Machine/Clips.lean ====
section
/-!
DEFINITION. The clip commands: marking, locks, rights, labels, deletion and reading (spec/03, R51 to R70).
-/

namespace Sys2Proof.Machine

/-! ### What marking does to a record (R56 to R60) -/

/-- A record as a mark leaves it, and whether its points swapped. -/
structure Marked where
  clip    : Clip
  swapped : Bool
  deriving DecidableEq, Repr

/-- A new OPEN clip (R56). -/
def newClip (l : Fin 8) (lfn vl el : Nat) (rpn : Count32) : Clip :=
  { Clip.free with state := .opened, lane := l, inLfn := lfn, vl, el, creationRpn := rpn }

/-- CLIP MARK IN on an unlocked record that is not FREE (R57, R58, R59). -/
def Clip.markIn (c : Clip) (n : Nat) : Marked :=
  match c.state with
  | .closed =>
    let o := c.out.getD c.inLfn
    if n ≤ o then { clip := { c with inLfn := n }, swapped := false }
    else { clip := { c with inLfn := o, out := some n }, swapped := true }
  | .absent => { clip := { c with state := .opened, inLfn := n, out := none, planned := none }, swapped := false }
  | .opened => { clip := { c with inLfn := n }, swapped := false }
  | .free => { clip := { c with inLfn := n }, swapped := false }

/-- A record closed at an out point at or below newest assigned; the points swap when they cross (R57, R58, R80). -/
def Clip.closeAt (c : Clip) (n : Nat) : Marked :=
  if c.inLfn ≤ n then { clip := { c with state := .closed, out := some n, planned := none }, swapped := false }
  else { clip := { c with state := .closed, inLfn := n, out := some c.inLfn, planned := none }, swapped := true }

/-- CLIP MARK OUT on an unlocked record in OPEN or CLOSED (R57, R58). -/
def Clip.markOut (c : Clip) (n : Nat) (isPlanned : Bool) : Marked :=
  if isPlanned then { clip := { c with state := .opened, out := none, planned := some n }, swapped := false }
  else c.closeAt n

/-- CLIP SPAN's points: swapped when they cross, CLOSED when the out is at or below newest assigned, OPEN otherwise (R60). -/
def Clip.span (c : Clip) (a b : Nat) (x : Lane) : Marked :=
  let lo := min a b
  let hi := max a b
  if x.isPlanned hi then
    { clip := { c with state := .opened, inLfn := lo, out := none, planned := some hi }, swapped := b < a }
  else { clip := { c with state := .closed, inLfn := lo, out := some hi, planned := none }, swapped := b < a }

/-- The levels of a created or changed clip, for a requester at a level (R50). -/
def levelsAllowed (level vl el : Nat) : Bool := decide (level ≤ el) && decide (el ≤ vl) && decide (vl ≤ 3)

/-- The reply of CLIP MARK and CLIP SPAN: clip, state, in, out or planned out, swapped (R56, 11.9). -/
def State.markReply (s : State) (n : Nat) (swapped : Bool) : Answer :=
  let c := s.clip n
  s.accept (leBytes 2 n ++ leBytes 1 c.state.code ++ lfnBytes c.inLfn ++
    optBytes s.fresh 0 4 ((c.out <|> c.planned).map lfnBytes) ++ flagBytes swapped)

/-- A record takes new points, its timecodes taken anew (R46), and the reply goes. -/
def State.putMarked (s : State) (n : Nat) (m : Marked) : Answer :=
  (s.setClip n (s.retimed m.clip)).markReply n m.swapped

/-! ### CLIP MARK (R54 to R59) -/

/-- Where the LFN of a point comes from (R54). -/
inductive PointSource where
  | explicit (lfn : Nat)
  | channel (c : Fin 4)
  | newest
  deriving DecidableEq, Repr

/-- The source of CLIP MARK, in range: explicit 0, channel 1, newest GOOD 2. -/
def pointSource? (source value : Nat) : Option PointSource :=
  match source with
  | 0 => if value ≤ maxLfn then some (.explicit value) else none
  | 1 => (fin? 4 value).map .channel
  | 2 => some .newest
  | _ => none

/-- The lane of the point: the lane field, but for a channel's on-air frame the lane it was taken from; no lane without an on-air
frame (R54). -/
def State.pointLane (s : State) (src : PointSource) (field : Option (Fin 8)) : Option (Fin 8) :=
  match src with
  | .explicit _ => field
  | .newest => field
  | .channel c => (s.channel c).onAir.map FrameRef.lane

/-- The LFN marked, on its lane. -/
def State.pointLfn (s : State) (src : PointSource) (l : Fin 8) : Option Nat :=
  match src with
  | .explicit n => some n
  | .channel c => (s.channel c).onAir.map FrameRef.lfn
  | .newest => (s.lane l).newestGood

/-- The point of a command on its lane, or why it is refused (R54, R55). `clipLane` is the lane of an existing clip. -/
def State.resolvePoint (s : State) (src : PointSource) (field clipLane : Option (Fin 8)) (out : Bool) :
    Except Status (Fin 8 × Nat) :=
  match s.pointLane src field with
  | none => .error .noFrames
  | some l =>
    if clipLane.any fun k => k != l then .error .badField
    else match s.pointLfn src l with
      | none => .error .noFrames
      | some n =>
        if (s.lane l).entries.isEmpty then .error .noFrames
        else if (if out then (s.lane l).outValid n else (s.lane l).inValid n) then .ok (l, n)
        else .error .range

/-- A FREE record for a command: the one named, or the lowest for clip 0 (R56). -/
def State.recordFor (s : State) (n : Nat) : Option Nat := if n = 0 then s.lowestFree else some n

/-- CLIP MARK IN on clip 0 or a FREE clip (R56). -/
def State.createByMark (s : State) (n : Nat) (src : PointSource) (field : Option (Fin 8)) (vl el level : Nat) : Answer :=
  if !levelsAllowed level vl el then s.refuse .badField
  else match s.resolvePoint src field none false with
    | .error st => s.refuse st
    | .ok (l, lfn) => match s.recordFor n with
      | none => s.refuse .tableFull
      | some k => s.putMarked k { clip := newClip l lfn vl el s.rpn, swapped := false }

/-- CLIP MARK on an existing clip (R57 to R59). -/
def State.markExisting (s : State) (n : Nat) (src : PointSource) (field : Option (Fin 8)) (out : Bool) (level : Nat) : Answer :=
  let c := s.clip n
  if level > c.el then s.refuse .rights
  else if c.locked then s.refuse .clipLocked
  else if out && c.state == .absent then s.refuse .clipAbsent
  else match s.resolvePoint src field (some c.lane) out with
    | .error st => s.refuse st
    | .ok (l, lfn) => s.putMarked n (if out then c.markOut lfn ((s.lane l).isPlanned lfn) else c.markIn lfn)

/-- The lane field: it is ignored when the source is a channel (R54). -/
def markLane? (src : PointSource) (lane : Nat) : Option (Option (Fin 8)) :=
  match src with
  | .channel _ => some none
  | .explicit _ => (fin? 8 lane).map some
  | .newest => (fin? 8 lane).map some

def State.clipMarkRequest (s : State) (f : MarkFields) (level : Nat) : Answer :=
  match pointSource? f.source f.value with
  | none => s.refuse .badField
  | some src => match markLane? src f.lane with
    | none => s.refuse .badField
    | some field =>
      if 1023 < f.clip ∨ 1 < f.point ∨ (f.clip = 0 ∧ f.point = 1) then s.refuse .badField
      else if f.clip = 0 then s.createByMark 0 src field f.vl f.el level
      else if (s.clip f.clip).state = .free then
        if f.point = 1 then s.refuse .clipFree else s.createByMark f.clip src field f.vl f.el level
      else s.markExisting f.clip src field (f.point == 1) level

/-- CLIP MARK (R54 to R59). -/
def execClipMark (h : Header) (fields : MarkFields) (s : State) : Host.Outcome State Fault Refusal :=
  .next (s.takeCommand .clipMark h fun level s => s.clipMarkRequest fields level)

/-! ### CLIP SPAN (R60) -/

/-- The point checks of CLIP SPAN on a lane: NO_FRAMES, then RANGE (R55, R60). -/
def Lane.spanCheck (x : Lane) (a b : Nat) : Option Status :=
  if x.entries.isEmpty then some .noFrames
  else if x.inValid a && x.outValid b then none
  else some .range

def State.createBySpan (s : State) (n : Nat) (l : Fin 8) (f : SpanFields) (level : Nat) : Answer :=
  if !levelsAllowed level f.vl f.el then s.refuse .badField
  else match (s.lane l).spanCheck f.inLfn f.outLfn with
    | some st => s.refuse st
    | none => match s.recordFor n with
      | none => s.refuse .tableFull
      | some k => s.putMarked k ((newClip l f.inLfn f.vl f.el s.rpn).span f.inLfn f.outLfn (s.lane l))

def State.spanExisting (s : State) (n : Nat) (l : Fin 8) (f : SpanFields) (level : Nat) : Answer :=
  let c := s.clip n
  if level > c.el then s.refuse .rights
  else if c.locked then s.refuse .clipLocked
  else if c.lane ≠ l then s.refuse .badField
  else match (s.lane l).spanCheck f.inLfn f.outLfn with
    | some st => s.refuse st
    | none => s.putMarked n (c.span f.inLfn f.outLfn (s.lane l))

/-- CLIP SPAN (R60). -/
def execClipSpan (h : Header) (fields : SpanFields) (s : State) : Host.Outcome State Fault Refusal :=
  .next (s.takeCommand .clipSpan h fun level s =>
    match fin? 8 fields.lane with
    | none => s.refuse .badField
    | some l =>
      if 1023 < fields.clip ∨ maxLfn < fields.inLfn ∨ maxLfn < fields.outLfn then s.refuse .badField
      else if fields.clip = 0 ∨ (s.clip fields.clip).state = .free then s.createBySpan fields.clip l fields level
      else s.spanExisting fields.clip l fields level)

/-! ### The checks that most clip commands share (R53) -/

/-- A clip of 1 to 1,023 that is not FREE (stages 1 and 2). -/
def State.withClip (s : State) (n : Nat) (run : Clip → Answer) : Answer :=
  if n = 0 ∨ 1023 < n then s.refuse .badField
  else if (s.clip n).state = .free then s.refuse .clipFree
  else run (s.clip n)

/-- The same, with the edit check (stage 3). -/
def State.withEdit (s : State) (n level : Nat) (run : Clip → Answer) : Answer :=
  s.withClip n fun c => if level > c.el then s.refuse .rights else run c

/-! ### Locks (R63, R64) -/

/-- OK with the held count of the clip's lane. -/
def State.heldReply (s : State) (l : Fin 8) : Answer := s.accept (leBytes 2 (s.lane l).held)

/-- The operator lock is asked for, with lock admission when the clip has neither flag (R62, R63). -/
def State.lockRequest (s : State) (n : Nat) (c : Clip) : Answer :=
  if c.state = .absent then s.refuse .clipAbsent
  else if c.opLock then s.heldReply c.lane
  else if c.exportLock then (s.setClip n { c with opLock := true }).heldReply c.lane
  else match c.range with
    | none => s.refuse .lockBudget
    | some r => match s.admitLock c.lane r with
      | none => s.refuse .lockBudget
      | some s' => (s'.setClip n { c with opLock := true }).heldReply c.lane

/-- CLIP LOCK (R63). -/
def execClipLock (h : Header) (clip : Nat) (s : State) : Host.Outcome State Fault Refusal :=
  .next (s.takeCommand .clipLock h fun level s => s.withEdit clip level fun c => s.lockRequest clip c)

def State.unlockRequest (s : State) (n : Nat) (c : Clip) : Answer :=
  if c.opLock then (s.relax n { c with opLock := false }).accept (flagBytes false ++ flagBytes c.exportLock)
  else s.accept (flagBytes false ++ flagBytes c.exportLock)

/-- CLIP UNLOCK (R64). -/
def execClipUnlock (h : Header) (clip : Nat) (s : State) : Host.Outcome State Fault Refusal :=
  .next (s.takeCommand .clipUnlock h fun level s => s.withEdit clip level fun c => s.unlockRequest clip c)

/-! ### Deletion, rights and labels (R51, R67, R68) -/

/-- Every line whose working clip it was clears it (R67, R77). -/
def State.dropWorking (s : State) (n : Nat) : State :=
  { s with marks := s.marks.map fun m => if m.workingClip = n then { m with workingClip := 0 } else m }

def State.deleteRequest (s : State) (n : Nat) (c : Clip) : Answer :=
  if c.locked then s.refuse .clipLocked
  else if c.useCount ≠ 0 then s.refuse .clipInUse
  else ((s.setClip n Clip.free).dropWorking n).accept []

/-- CLIP DELETE (R67). -/
def execClipDelete (h : Header) (clip : Nat) (s : State) : Host.Outcome State Fault Refusal :=
  .next (s.takeCommand .clipDelete h fun level s => s.withEdit clip level fun c => s.deleteRequest clip c)

/-- CLIP RIGHTS (R51). -/
def execClipRights (h : Header) (clip vl el : Nat) (s : State) : Host.Outcome State Fault Refusal :=
  .next (s.takeCommand .clipRights h fun level s =>
    if 3 < vl ∨ 3 < el then s.refuse .badField
    else s.withEdit clip level fun c =>
      if levelsAllowed level vl el then (s.setClip clip { c with vl, el }).accept (leBytes 1 vl ++ leBytes 1 el)
      else s.refuse .badField)

/-- A label of 0 to 16 characters of 20H to 7EH (R68). -/
def labelValid (length : Nat) (text : List Byte) : Bool :=
  text.length == length && decide (length ≤ 16) && text.all fun b => 0x20 ≤ b.toNat && b.toNat ≤ 0x7E

/-- CLIP LABEL (R68). -/
def execClipLabel (h : Header) (clip length : Nat) (text : List Byte) (s : State) : Host.Outcome State Fault Refusal :=
  .next (s.takeCommand .clipLabel h fun level s =>
    if labelValid length text then s.withEdit clip level fun c => (s.setClip clip { c with label := text }).accept []
    else s.refuse .badField)

/-! ### Reading (R52, R69, R70) -/

/-- The body of CLIP READ (R69): the fields of 3.1, then the upper end of the range and its unbounded flag (log 24). -/
def Clip.bytes (z : Nat) (c : Clip) : List Byte :=
  let upper := c.range.bind LfnRange.hi
  leBytes 1 c.state.code ++ leBytes 1 c.lane.val ++ lfnBytes c.inLfn ++ optBytes z 0 4 (c.out.map lfnBytes) ++
    optBytes z 1 4 (c.planned.map lfnBytes) ++ flagBytes c.opLock ++ flagBytes c.exportLock ++ leBytes 1 c.vl ++ leBytes 1 c.el ++
    leBytes 1 c.label.length ++ c.label ++ optBytes z 2 4 (c.inTc.map Timecode.bytes) ++
    optBytes z 3 4 (c.outTc.map Timecode.bytes) ++ leBytes 1 c.useCount ++ leBytes 4 c.creationRpn.toNat ++
    ownBytes z 4 4 (upper.map lfnBytes) ++ flagBytes upper.isNone

/-- CLIP READ (R69). -/
def execClipRead (h : Header) (clip : Nat) (s : State) : Host.Outcome State Fault Refusal :=
  .next (s.takeCommand .clipRead h fun level s =>
    s.withClip clip fun c => if level > c.vl then s.refuse .rights else s.accept (c.bytes s.fresh))

/-- The lowest clip above `n` that is not FREE, with its state (R70). -/
def State.nextClip (s : State) (n : Nat) : Nat × ClipState :=
  match s.clips.find? fun e => decide (n < e.1) with
  | some e => (e.1, e.2.state)
  | none => (0, .free)

/-- CLIP NEXT (R70). -/
def execClipNext (h : Header) (clip : Nat) (s : State) : Host.Outcome State Fault Refusal :=
  .next (s.takeCommand .clipNext h fun _ s =>
    if 1023 < clip then s.refuse .badField
    else s.accept (leBytes 2 (s.nextClip clip).1 ++ leBytes 1 (s.nextClip clip).2.code))

/-- The body of RIGHTS PROBE (R52): a FREE record has VL and EL 3. -/
def Clip.probeBytes (c : Clip) (level : Nat) : List Byte :=
  let present := c.state != .free
  flagBytes present ++ leBytes 1 c.state.code ++ leBytes 1 c.vl ++ leBytes 1 c.el ++
    flagBytes (present && decide (level ≤ c.vl)) ++ flagBytes (present && decide (level ≤ c.el))

/-- RIGHTS PROBE (R52). -/
def execRightsProbe (h : Header) (clip : Nat) (s : State) : Host.Outcome State Fault Refusal :=
  .next (s.takeCommand .rightsProbe h fun level s =>
    if clip = 0 ∨ 1023 < clip then s.refuse .badField else s.accept ((s.clip clip).probeBytes level))

end Sys2Proof.Machine
end

