-- ==== Sys2Proof/Machine/Marks.lean ====
section
/-!
DEFINITION. The mark lines: their configuration, edges and hold-off, the mark actions and the channel actions (spec/04).
-/

namespace Sys2Proof.Machine

/-! ### MARK notices (R86, R87) -/

/-- Why a mark action is ignored (R87). -/
inductive MarkReason where
  | noSource | noFrames | noIn | wrongLane | rights | levels | range | tableFull | refused
  deriving DecidableEq, Repr

def MarkReason.code : MarkReason → Nat
  | .noSource => 0 | .noFrames => 1 | .noIn => 2 | .wrongLane => 3 | .rights => 4 | .levels => 5 | .range => 6
  | .tableFull => 7 | .refused => 8

/-- MARK/IGNORED (R87). `w` is the group's working clip when the action began. -/
def State.markIgnored (s : State) (m : Fin 8) (w : Nat) (reason : MarkReason) (detail : List Byte) : State :=
  s.post .mark 1 m.val (leBytes 1 (s.mark m).action.code ++ leBytes 1 reason.code ++ detail ++ leBytes 2 w)

/-- The lock outcome of an action: no lock concerned, locked, or the budget refused it (R86). -/
inductive LockOutcome where
  | noLock | locked | budget
  deriving DecidableEq, Repr

def LockOutcome.code (o : LockOutcome) (swapped : Bool) : Nat :=
  (match o with
    | .noLock => 0
    | .locked => 2
    | .budget => 4) + (if swapped then 1 else 0)

/-- MARK/TAKEN (R86). The point: 0 IN, 1 OUT, 2 SNAP. -/
def State.markTaken (s : State) (m : Fin 8) (clip point lfn : Nat) (o : LockOutcome) (swapped : Bool) : State :=
  s.post .mark 0 m.val (leBytes 2 clip ++ leBytes 1 point ++ lfnBytes lfn ++ leBytes 1 (o.code swapped))

/-! ### Acting level and capture (R75, R76) -/

/-- The level a line acts with (R75). -/
def State.actingLevel (s : State) (x : MarkLine) : Nat :=
  match x.binding with
  | .lane _ => x.actingLevel
  | .channel c => if (s.channel c).owner.isSome then (s.channel c).level else 3

/-- The capture lane and the captured LFN (R76). -/
def State.capture (s : State) (x : MarkLine) : Except MarkReason (Fin 8 × Nat) :=
  match x.binding with
  | .channel c => match (s.channel c).onAir with
    | none => .error .noSource
    | some f => if (s.lane f.lane).entries.isEmpty then .error .noFrames else .ok (f.lane, f.lfn)
  | .lane l => match (s.lane l).newestGood with
    | none => .error .noFrames
    | some n => .ok (l, n)

/-! ### The working clip (R77) -/

/-- Every line of a group takes a working clip. -/
def State.setWorking (s : State) (b : LineBinding) (w : Nat) : State :=
  { s with marks := s.marks.map fun m => if m.binding = b then { m with workingClip := w } else m }

/-! ### Locks at a mark line (R81, R83) -/

/-- The operator lock is asked for a record that carries none: locked, or the budget refuses it. -/
def State.askLock (s : State) (n : Nat) : State × LockOutcome :=
  let c := s.clip n
  match c.range.bind fun r => s.admitLock c.lane r with
  | none => (s, .budget)
  | some s' => (s'.setClip n { c with opLock := true }, .locked)

/-- New points on a working clip: a locked one is released over its old range and asked for over its new one (R81). -/
def State.repoint (s : State) (n : Nat) (c : Clip) : State × LockOutcome :=
  let old := s.clip n
  if old.opLock then
    let s := s.relax n { old with opLock := false }
    (s.setClip n { s.retimed c with opLock := false }).askLock n
  else (s.setClip n (s.retimed c), .noLock)

/-- A clip created by a line, locked when lock-on-create asks for it (R83). -/
def State.createByLine (s : State) (n : Nat) (c : Clip) (lockOnCreate : Bool) : State × LockOutcome :=
  let s := s.setClip n (s.retimed c)
  if lockOnCreate then s.askLock n else (s, .noLock)

/-! ### The mark actions (R78 to R82) -/

/-- The working clip when it is OPEN, with its record. -/
def State.openWorking (s : State) (x : MarkLine) : Option (Nat × Clip) :=
  if x.workingClip ≠ 0 ∧ (s.clip x.workingClip).state = .opened then some (x.workingClip, s.clip x.workingClip) else none

/-- MARK_IN that creates a clip (R79). -/
def State.markInCreates (s : State) (m : Fin 8) (l : Fin 8) (lfn : Nat) : State :=
  let x := s.mark m
  let no (r : MarkReason) := s.markIgnored m x.workingClip r (lfnBytes lfn)
  if x.el < s.actingLevel x then no .levels
  else if !(s.lane l).inValid lfn then no .range
  else match s.lowestFree with
    | none => no .tableFull
    | some n =>
      let a := s.createByLine n (newClip l lfn x.vl x.el s.rpn) x.lockOnCreate
      (a.1.setWorking x.binding n).markTaken m n 0 lfn a.2 false

/-- MARK_IN that replaces the in of the working clip (R79, R81). -/
def State.markInReplaces (s : State) (m : Fin 8) (l : Fin 8) (n : Nat) (c : Clip) (lfn : Nat) : State :=
  let x := s.mark m
  let no (r : MarkReason) := s.markIgnored m x.workingClip r (lfnBytes lfn)
  if c.el < s.actingLevel x then no .rights
  else if !(s.lane l).inValid lfn then no .range
  else
    let a := s.repoint n { c with inLfn := lfn }
    a.1.markTaken m n 0 lfn a.2 false

/-- MARK_IN (R79). -/
def State.markInAction (s : State) (m : Fin 8) (l : Fin 8) (lfn : Nat) : State :=
  match s.openWorking (s.mark m) with
  | some (n, c) => if c.lane = l then s.markInReplaces m l n c lfn else s.markInCreates m l lfn
  | none => s.markInCreates m l lfn

/-- MARK_OUT (R80). -/
def State.markOutAction (s : State) (m : Fin 8) (l : Fin 8) (lfn : Nat) : State :=
  let x := s.mark m
  let no (s : State) (r : MarkReason) := s.markIgnored m x.workingClip r (lfnBytes lfn)
  match s.openWorking x with
  | none => no (s.setWorking x.binding 0) .noIn
  | some (n, c) =>
    if c.lane ≠ l then no s .wrongLane
    else if c.el < s.actingLevel x then no s .rights
    else if !(s.lane l).outValid lfn then no s .range
    else
      let k := c.closeAt lfn
      let a := s.repoint n k.clip
      (a.1.setWorking x.binding 0).markTaken m n 1 lfn a.2 k.swapped

/-- MARK_SNAP (R82). -/
def State.markSnapAction (s : State) (m : Fin 8) (l : Fin 8) (lfn : Nat) : State :=
  let x := s.mark m
  let lane := s.lane l
  let a := max (lane.floor.getD 0) (lfn - x.preRoll)
  let b := min maxLfn (lfn + x.postRoll)
  let no (r : MarkReason) := s.markIgnored m x.workingClip r (lfnBytes lfn)
  if x.el < s.actingLevel x then no .levels
  else if !lane.outValid b then no .range
  else match s.lowestFree with
    | none => no .tableFull
    | some n =>
      let r := s.createByLine n ((newClip l a x.vl x.el s.rpn).span a b lane).clip x.lockOnCreate
      r.1.markTaken m n 2 lfn r.2 false

/-- A mark action begins with its capture; a failed capture ends it (R76; log 33). -/
def State.markAction (s : State) (m : Fin 8) (run : Fin 8 → Nat → State) : State :=
  let x := s.mark m
  match s.capture x with
  | .error r => s.markIgnored m x.workingClip r (leBytes 4 0)
  | .ok (l, n) => run l n

/-! ### The channel actions (R85) -/

/-- A request to the line's channel: a refusal is posted, a success posts nothing. -/
def State.channelAction (s : State) (m : Fin 8) (request : Fin 4 → Answer) : State :=
  let x := s.mark m
  match x.binding with
  | .lane _ => s
  | .channel c =>
    let a := request c
    if a.status.success then a.state
    else a.state.markIgnored m x.workingClip .refused (leBytes 4 a.status.code)

/-! ### Edges and hold-off (R73, R74) -/

/-- The action of a taken edge. -/
def State.lineAction (s : State) (m : Fin 8) : State :=
  let x := s.mark m
  match x.action with
  | .none => s
  | .markIn => s.markAction m (s.markInAction m)
  | .markOut => s.markAction m (s.markOutAction m)
  | .markSnap => s.markAction m (s.markSnapAction m)
  | .continuePlay => s.channelAction m s.continueRequest
  | .snapLive => s.channelAction m fun c => s.snapLaneRequest c x.snapLane x.snapDelay
  | .resume => s.channelAction m fun c => s.resumeRequest c (s.actingLevel x)

/-- The edge is the line's active one. -/
def Edge.isTo (e : Edge) (level : Bool) : Bool :=
  match e with
  | .rising => level
  | .falling => !level

/-- The input of a line takes a level (R73). -/
def State.lineInput (s : State) (m : Fin 8) (level : Bool) : State :=
  let x := s.mark m
  if x.level = level then s
  else
    let s := s.setMark m { x with level }
    if x.edge.isTo level ∧ x.action ≠ .none ∧ x.counter = 0 then
      (s.setMark m { x with level, counter := x.holdOff }).lineAction m
    else s

/-- MARK_EDGE (R73). -/
def execMarkEdge (m : Fin 8) (level : Bool) (s : State) : Host.Outcome State Fault Refusal :=
  .next (s.whenRunning fun s => s.lineInput m level)

/-- The line's action at a tick (R74). -/
def State.lineTick (s : State) (m : Fin 8) : State :=
  let x := s.mark m
  s.setMark m { x with counter := x.counter - 1 }

/-- HOLD_OFF_END (R74): the line's tick action when it brings the counter to 0 (log 10). -/
def execHoldOffEnd (m : Fin 8) (s : State) : Host.Outcome State Fault Refusal :=
  .next (s.whenRunning fun s => if (s.mark m).counter = 1 then s.lineTick m else s)

/-! ### LINE CONFIG (R71) -/

/-- The action is delivered to a channel. -/
def LineAction.onChannel (a : LineAction) : Bool :=
  match a with
  | .continuePlay | .snapLive | .resume => true
  | .none | .markIn | .markOut | .markSnap => false

def LineBinding.isLane (b : LineBinding) : Bool :=
  match b with
  | .lane _ => true
  | .channel _ => false

/-- The configuration that LINE CONFIG carries, in range (R71); its state fields are taken from `x`. -/
def lineConfig? (f : LineFields) (x : MarkLine) : Option MarkLine := do
  let action ← lineAction? f.action
  let binding ← lineBinding? f.bindKind f.bindChannel f.bindLane
  let edge ← edge? f.edge
  let lockOnCreate ← flag? f.lockOnCreate
  let snapLane ← fin? 8 f.snapLane
  if f.holdOff ≤ 15 ∧ f.preRoll ≤ 65535 ∧ f.postRoll ≤ 65535 ∧ f.vl ≤ 3 ∧ f.el ≤ f.vl ∧ f.actingLevel ≤ 3 ∧
      f.snapDelay ≤ 65535 ∧ ¬(action.onChannel ∧ binding.isLane) then
    some { x with action, binding, edge, holdOff := f.holdOff, preRoll := f.preRoll, postRoll := f.postRoll, vl := f.vl,
                  el := f.el, lockOnCreate, actingLevel := f.actingLevel, snapLane, snapDelay := f.snapDelay }
  else none

/-- The working clip held by the other lines of a binding, else none (R77). -/
def State.groupWorking (s : State) (m : Fin 8) (b : LineBinding) : Nat :=
  match allLines.find? fun k => k != m && (s.mark k).binding == b with
  | some k => (s.mark k).workingClip
  | none => 0

def State.lineConfigRequest (s : State) (f : LineFields) : Answer :=
  match fin? 8 f.line with
  | none => s.refuse .badField
  | some m => match lineConfig? f (s.mark m) with
    | none => s.refuse .badField
    | some x =>
      let w := s.groupWorking m x.binding
      (s.setMark m { x with counter := 0, workingClip := w }).accept (leBytes 2 w)

/-- LINE CONFIG (R71, R77). -/
def execLineConfig (h : Header) (fields : LineFields) (s : State) : Host.Outcome State Fault Refusal :=
  .next (s.takeCommand .lineConfig h fun _ s => s.lineConfigRequest fields)

end Sys2Proof.Machine
end

