-- ==== Sys2Proof/Machine/Reference.lean ====
section
/-!
DEFINITION. The Reference Unit: reference pulses, the window timer, the Output Tick and what every block does at it, timecode,
and the unit's two commands (spec/01).
-/

namespace Sys2Proof.Machine

/-! ### Timecode (R11) -/

/-- The timecode one frame on, at a frame rate. -/
def Timecode.step (t : Timecode) (f : Nat) : Timecode :=
  if t.ff + 1 < f then { t with ff := t.ff + 1 }
  else if t.ss + 1 < 60 then { t with ff := 0, ss := t.ss + 1 }
  else if t.mm + 1 < 60 then { t with ff := 0, ss := 0, mm := t.mm + 1 }
  else if t.hh + 1 < 24 then { hh := t.hh + 1, mm := 0, ss := 0, ff := 0 }
  else { hh := 0, mm := 0, ss := 0, ff := 0 }

/-- A waiting time value as a tick loads it. -/
def Timecode.loaded (t : Timecode) (f : Nat) : Timecode := if f ≤ t.ff then { t with ff := f - 1 } else t

/-- The timecode after a tick. -/
def Refu.nextTimecode (r : Refu) (f : Nat) : Timecode :=
  match r.waiting with
  | some t => t.loaded f
  | none => r.timecode.step f

/-! ### The Output Tick at the Reference Unit (R2, R3) -/

/-- µs from a tick to the expiry it sets (R3). -/
def RefConfig.expiryIn (c : RefConfig) : RefState → Nat
  | .locked => c.n + c.w
  | .holdover => c.n
  | .freeRun => c.n

/-- Steps 1 to 5 of R2, for a tick that leaves the unit in `state` with a holdover count. -/
def Refu.ticked (r : Refu) (state : RefState) (holdover : Nat) : Refu :=
  let c := r.pending.getD r.config
  { state, config := c, pending := none, interval := 0, expiry := c.expiryIn state, holdover, rpn := r.rpn + 1,
    timecode := r.nextTimecode c.f, waiting := none }

/-! ### The blocks at a tick -/

/-- The actions that every tick takes, once each. -/
def tickActions : List TickAction :=
  allLanes.map .lane ++ allLines.map .markLine ++ allChannels.map .jog ++ [.levers] ++ allChannels.map .channel ++ [.exporter] ++
    allCues.map .cueLine

/-- The order in which the blocks act at a tick: as given, each once, then those not given (log 8). -/
def tickSchedule (order : List TickAction) : List TickAction :=
  let given := order.eraseDups
  given ++ tickActions.filter fun a => !given.contains a

def State.tickAction (s : State) (a : TickAction) : State :=
  match a with
  | .lane l => s.laneTick l
  | .markLine m => s.lineTick m
  | .jog j => s.jogTick j
  | .jogMotion j => s.deliverJog j
  | .levers => s.leverTick
  | .channel c => s.channelTick c
  | .exporter => s.exporterTick
  | .cueLine k => s.cueTick k

/-- Every block's own action at a tick. -/
def State.blocksTick (s : State) (order : List TickAction) : State := (tickSchedule order).foldl State.tickAction s

/-- REFERENCE notices (R9). -/
def State.postReference (s : State) (code : Nat) (data : List Byte) : State := s.post .reference code 0 data

/-! ### Reference pulses (R1, R4 to R6, R8) -/

/-- `elapsed` µs have passed since the Reference Unit last measured (R1; log 6). -/
def Refu.elapse (r : Refu) (elapsed : Nat) : Refu := { r with interval := r.interval + elapsed }

def State.elapse (s : State) (elapsed : Nat) : State := s.setRefu (s.refu.elapse elapsed)

/-- A pulse that comes now is early: its interval is less than N − W (R1). -/
def Refu.early (r : Refu) : Bool := decide (r.interval + r.config.w < r.config.n)

/-- An early pulse posts GLITCH, and in FREE_RUN restarts the window timer (R4, R5, R6). -/
def State.earlyPulse (s : State) : State :=
  let r := s.refu
  let restart := r.state == .freeRun
  (s.setRefu { r with expiry := if restart then r.interval + r.config.n + r.config.w else r.expiry }).postReference 3
    (leBytes 4 r.interval ++ leBytes 1 r.state.code ++ flagBytes restart)

/-- An on-time pulse ticks and leaves the unit LOCKED (R4, R5). -/
def State.onTimePulse (s : State) : State :=
  let r := s.refu
  let s := s.setRefu (r.ticked .locked 0)
  match r.state with
  | .locked => s
  | .holdover => s.postReference 0 (leBytes 4 r.interval ++ leBytes 1 r.state.code)
  | .freeRun => s.postReference 0 (leBytes 4 r.interval ++ leBytes 1 r.state.code)

/-- A pulse is measured against the interval; one that comes with the expiry already taken is early in the new period (R1, R8). -/
def State.referencePulse (s : State) (order : List TickAction) : State :=
  if s.refu.early then s.earlyPulse else s.onTimePulse.blocksTick order

/-- REFERENCE_PULSE (R1, R4 to R6, R8), `elapsed` µs after what the unit measured last (log 6). -/
def execReferencePulse (elapsed : Nat) (order : List TickAction) (s : State) : Host.Outcome State Fault Refusal :=
  .next (s.whenRunning fun s => (s.elapse elapsed).referencePulse order)

/-! ### Expiry of the window timer (R7, R8) -/

/-- The window timer's one expiry is due: a tick between has not set another (R3, R8). -/
def Refu.due (r : Refu) : Bool := decide (r.expiry ≤ r.interval)

/-- The Reference Unit at an expiry, with its notice. -/
def State.timerExpires (s : State) : State :=
  let r := s.refu
  match r.state with
  | .locked => (s.setRefu (r.ticked .holdover 1)).postReference 1 (leBytes 4 r.expiry)
  | .holdover =>
    if r.holdover < 249 then s.setRefu (r.ticked .holdover (r.holdover + 1))
    else (s.setRefu (r.ticked .freeRun 0)).postReference 2 []
  | .freeRun => s.setRefu (r.ticked .freeRun 0)

/-- An expiry that is due makes its tick; an old one, which a tick or a restart has replaced, does not take place (R3, R6, R8). -/
def State.windowTimer (s : State) (order : List TickAction) : State :=
  if s.refu.due then s.timerExpires.blocksTick order else s

/-- WINDOW_TIMER_EXPIRY (R7, R8). -/
def execWindowTimerExpiry (x : Expiry) (s : State) : Host.Outcome State Fault Refusal :=
  .next (s.whenRunning fun s => (s.elapse x.elapsed).windowTimer x.order)

/-- HOLDOVER_LIMIT (R7): the expiry of the 250th internal tick of a holdover (log 10); at any other, time alone passes. -/
def execHoldoverLimit (x : Expiry) (s : State) : Host.Outcome State Fault Refusal :=
  .next (s.whenRunning fun s =>
    if s.refu.state = .holdover ∧ 249 ≤ s.refu.holdover then (s.elapse x.elapsed).windowTimer x.order else s.elapse x.elapsed)

/-! ### REF CONFIG and TIME SET (R12, R13) -/

/-- R13's checks. -/
def refConfigValid (n w f : Nat) : Bool :=
  decide (10000 ≤ n) && decide (n ≤ 50000) && decide (10 ≤ w) && decide (w ≤ 2000) && decide (4 * w < n) &&
    decide (f ∈ [24, 25, 30, 50, 60])

/-- REF CONFIG (R13). -/
def execRefConfig (h : Header) (n w f : Nat) (s : State) : Host.Outcome State Fault Refusal :=
  .next (s.takeCommand .refConfig h fun _ s =>
    if refConfigValid n w f then (s.setRefu { s.refu with pending := some { n, w, f } }).accept [] else s.refuse .badField)

/-- TIME SET (R12): ff is checked against the F of the next tick. -/
def execTimeSet (h : Header) (hh mm ss ff : Nat) (s : State) : Host.Outcome State Fault Refusal :=
  .next (s.takeCommand .timeSet h fun _ s =>
    if hh ≤ 23 ∧ mm ≤ 59 ∧ ss ≤ 59 ∧ ff < (s.refu.pending.getD s.refu.config).f then
      (s.setRefu { s.refu with waiting := some { hh, mm, ss, ff } }).accept []
    else s.refuse .badField)

end Sys2Proof.Machine
end

