-- ==== Sys2Proof/Machine/Resets.lean ====
section
/-!
DEFINITION. The two resets: the RESET pin and its release, and UNIT RESET (spec/01, R15; spec/11, R202, R203; and each chapter's
table of values after reset).
-/

namespace Sys2Proof.Machine

/-! ### Power-on reset (R15) -/

/-- POWER_ON_RESET (R15): every block takes its power-on values and is held there. What the frame store then holds is a new
unknown (log 18); XRDY is the sink's level, and what has left the part has left it. -/
def execPowerOnReset (s : State) : Host.Outcome State Fault Refusal :=
  .next
    { State.powerOn with xrdy := s.xrdy, emitted := s.emitted, fresh := s.fresh, pending := s.pending,
                         storeEpoch := s.storeEpoch + 1 }

/-- What the release of RESET samples and starts (R15, R73, R88, R203). -/
def State.released (s : State) (x : Straps) : State :=
  { s with
    resetHeld := false
    refu := { s.refu with interval := 0, expiry := s.refu.config.n }
    link := { s.link with unitAddress := x.unitAddress, linkRate := x.linkRate }
    marks := s.marks.mapFinIdx fun i m _ => { m with level := x.markLevels.getLsbD i }
    jogs := s.jogs.mapFinIdx fun i j _ => { j with a := x.jogA.getLsbD i, b := x.jogB.getLsbD i } }

/-- RESET_RELEASE (R15). Without RESET held it does not arise (log 7). -/
def execResetRelease (x : Straps) (s : State) : Host.Outcome State Fault Refusal :=
  .next (if s.resetHeld then s.released x else s)

/-! ### Unit reset (R202 and the chapters' reset tables) -/

/-- R43, R167: the signal state is kept, a frame under delivery is dropped as it comes, and no taken frame is left to end. -/
def Lane.unitReset (x : Lane) : Lane :=
  { Lane.powerOn with
    signal := x.signal
    port := match x.port with
      | .idle => .idle
      | .taking _ _ => .dropping
      | .dropping => .dropping }

/-- R72. -/
def MarkLine.unitReset (m : MarkLine) : MarkLine := { m with workingClip := 0, counter := 0 }

/-- R94; Jog Motions on their way to their channel are dropped (log 9). -/
def Jog.unitReset (j : Jog) : Jog := { j with count := 0, glitch := false, motions := [] }

/-- R102; Lever Motions on their way to their channel are dropped (log 9). -/
def Lever.unitReset (v : Lever) : Lever := { v with last := none, skipped := 0, motions := [] }

/-- R167, R168: the block in service is finished by the store for nobody. -/
def Xfer.unitReset (x : Xfer) : Xfer :=
  { Xfer.reset with service := x.service.map fun v => { v with use := v.use.orphaned } }

/-- R182. -/
def CueLine.unitReset (q : CueLine) : CueLine := { q with active := false, pulse := 0, armed := true }

/-- R202, R203. -/
def Link.unitReset (k : Link) : Link := { k with notices := [], overflow := false }

/-- The unit reset of every block; the ports are told to drop what they hold (R167; log 38, log 45). -/
def State.unitReset (s : State) : State :=
  { s with
    lanes := s.lanes.map Lane.unitReset
    clips := []
    marks := s.marks.map MarkLine.unitReset
    jogs := s.jogs.map Jog.unitReset
    levers := s.levers.map Lever.unitReset
    scanList := []
    underWay := none
    channels := Vector.replicate 4 Channel.reset
    outPorts := s.outPorts.map fun p => { p with staging := none }
    banks := State.emptyBanks
    xfer := s.xfer.unitReset
    exporter := Exporter.reset
    cues := s.cues.map CueLine.unitReset
    link := s.link.unitReset
    emitted := s.emitted ++ allLanes.map fun l => .dropBlocks l none }

/-- UNIT RESET (R202). Its reply's indicators are those after the reset, so the reply is queued with the reset done (log 38). -/
def execUnitReset (h : Header) (s : State) : Host.Outcome State Fault Refusal :=
  .next (s.takeCommand .unitReset h fun _ s => s.unitReset.accept [])

end Sys2Proof.Machine
end

