-- ==== Sys2Proof/Machine/Frames.lean ====
section
/-!
DEFINITION. Link frames: the CRC, the frame of a command and of a reply, the decoding of a command body, the checks of a completed
frame, the receiver, and the end of a reply (spec/11, R189 to R193, R196, R204, R205).
-/

namespace Sys2Proof.Machine

/-! ### The CRC (R191) -/

/-- One bit of the division by x^16 + x^12 + x^5 + 1, the bits taken most significant first. -/
def crcBit (c : BitVec 16) : BitVec 16 := if c.getLsbD 15 then (c <<< 1) ^^^ 0x1021 else c <<< 1

def crcByte (c : BitVec 16) (b : Byte) : BitVec 16 :=
  crcBit (crcBit (crcBit (crcBit (crcBit (crcBit (crcBit (crcBit (c ^^^ (b.zeroExtend 16 <<< 8)))))))))

def crc (bs : List Byte) : BitVec 16 := bs.foldl crcByte 0xFFFF

/-- The CRC as sent: low byte first. -/
def crcBytes (bs : List Byte) : List Byte := leBytes 2 (crc bs).toNat

/-! ### Fields of a body (R205) -/

def byteAt (b : List Byte) (i : Nat) : Byte := b.getD i 0
def nat8 (b : List Byte) (i : Nat) : Nat := (byteAt b i).toNat
def nat16 (b : List Byte) (i : Nat) : Nat := leNat ((b.drop i).take 2)
def nat32 (b : List Byte) (i : Nat) : Nat := leNat ((b.drop i).take 4)
def int8 (b : List Byte) (i : Nat) : Int := leSigned ((b.drop i).take 1)
def int16 (b : List Byte) (i : Nat) : Int := leSigned ((b.drop i).take 2)

/-- The number of a segment record: signed for SKIP alone (R205). -/
def recordNumber (r : List Byte) : Int := if nat8 r 14 = 3 then int8 r 15 else nat8 r 15

/-- One segment record of 16 bytes (R133, R205). -/
def segmentAt (r : List Byte) : SegmentFields :=
  { clip := nat16 r 0, hasStart := nat8 r 2, start := nat32 r 3, hasEnd := nat8 r 7, endOffset := nat32 r 8,
    speed := int16 r 12, action := nat8 r 14, number := recordNumber r }

def playAtBody (b : List Byte) (i : Nat) : PlayFields :=
  { speedKind := nat8 b i, speed := int16 b (i + 1), ramp := nat16 b (i + 3), round := nat8 b (i + 5) }

/-- The length the kind's fields take: for BANK WRITE with the count as received, for CLIP LABEL with the length as received
(R205; log 32). -/
def Kind.bodyLength (k : Kind) (b : List Byte) : Nat :=
  match k with
  | .poll | .unitStatus | .unitReset | .exportAbort | .exportStatus => 0
  | .recStart | .recStop | .laneStatus | .jogStatus | .leverStatus | .channelTake | .channelRelease | .pause | .continuePlay
  | .resume | .saveDiscard | .channelStatus | .exportConfig | .cueLineFire | .cueLineStatus => 1
  | .stationSet | .clipLock | .clipUnlock | .clipDelete | .clipRead | .clipNext | .rightsProbe | .flagsClear | .flagEnables => 2
  | .stepFrames | .bankRead | .runOrder | .segue => 3
  | .timeSet | .clipRights | .live => 4
  | .refConfig | .indexRead => 5
  | .jogConfig | .speed => 6
  | .leverConfig | .cueClip | .cueLane | .play | .syncPlay => 7
  | .noticeLevels | .clipMark | .snap => 11
  | .clipSpan => 13
  | .laneConfig | .exportStart | .cueLineConfig => 14
  | .lineConfig => 18
  | .curveLoad => 35
  | .clipLabel => 3 + nat8 b 2
  | .bankWrite => 3 + 16 * nat8 b 2

/-- The command that a body of its kind's length spells (11.9, R205). -/
def decodeBody (k : Kind) (h : Header) (b : List Byte) : Instr :=
  match k with
  | .poll => .poll h
  | .unitStatus => .unitStatus h
  | .unitReset => .unitReset h
  | .stationSet => .stationSet h (nat8 b 0) (nat8 b 1)
  | .noticeLevels => .noticeLevels h (b.map BitVec.toNat)
  | .refConfig => .refConfig h (nat16 b 0) (nat16 b 2) (nat8 b 4)
  | .timeSet => .timeSet h (nat8 b 0) (nat8 b 1) (nat8 b 2) (nat8 b 3)
  | .laneConfig =>
    .laneConfig h { lane := nat8 b 0, enable := nat8 b 1, p := nat8 b 2, s := nat8 b 3, k := nat32 b 4, base := nat32 b 8,
                    h := nat16 b 12 }
  | .recStart => .recStart h (byteAt b 0)
  | .recStop => .recStop h (byteAt b 0)
  | .indexRead => .indexRead h (nat8 b 0) (nat32 b 1)
  | .laneStatus => .laneStatus h (nat8 b 0)
  | .clipMark =>
    .clipMark h { clip := nat16 b 0, lane := nat8 b 2, point := nat8 b 3, source := nat8 b 4, value := nat32 b 5,
                  vl := nat8 b 9, el := nat8 b 10 }
  | .clipSpan =>
    .clipSpan h { clip := nat16 b 0, lane := nat8 b 2, inLfn := nat32 b 3, outLfn := nat32 b 7, vl := nat8 b 11,
                  el := nat8 b 12 }
  | .clipLock => .clipLock h (nat16 b 0)
  | .clipUnlock => .clipUnlock h (nat16 b 0)
  | .clipDelete => .clipDelete h (nat16 b 0)
  | .clipRights => .clipRights h (nat16 b 0) (nat8 b 2) (nat8 b 3)
  | .clipLabel => .clipLabel h (nat16 b 0) (nat8 b 2) (b.drop 3)
  | .clipRead => .clipRead h (nat16 b 0)
  | .clipNext => .clipNext h (nat16 b 0)
  | .rightsProbe => .rightsProbe h (nat16 b 0)
  | .lineConfig =>
    .lineConfig h { line := nat8 b 0, action := nat8 b 1, bindKind := nat8 b 2, bindChannel := nat8 b 3, bindLane := nat8 b 4,
                    edge := nat8 b 5, holdOff := nat8 b 6, preRoll := nat16 b 7, postRoll := nat16 b 9, vl := nat8 b 11,
                    el := nat8 b 12, lockOnCreate := nat8 b 13, actingLevel := nat8 b 14, snapLane := nat8 b 15,
                    snapDelay := nat16 b 16 }
  | .jogConfig =>
    .jogConfig h { jog := nat8 b 0, bindKind := nat8 b 1, channel := nat8 b 2, counts := nat8 b 3, step := nat8 b 4,
                   takeover := nat8 b 5 }
  | .jogStatus => .jogStatus h (nat8 b 0)
  | .leverConfig =>
    .leverConfig h { lever := nat8 b 0, bindKind := nat8 b 1, channel := nat8 b 2, centre := nat16 b 3, halfWidth := nat8 b 5,
                     takeover := nat8 b 6 }
  | .curveLoad => .curveLoad h (nat8 b 0) ((List.range 17).map fun i => int16 b (1 + 2 * i))
  | .leverStatus => .leverStatus h (nat8 b 0)
  | .channelTake => .channelTake h (nat8 b 0)
  | .channelRelease => .channelRelease h (nat8 b 0)
  | .cueClip => .cueClip h (nat8 b 0) (nat16 b 1) (nat32 b 3)
  | .cueLane => .cueLane h (nat8 b 0) (nat8 b 1) (nat8 b 2) (nat32 b 3)
  | .live => .live h (nat8 b 0) (nat8 b 1) (nat16 b 2)
  | .play => .play h (nat8 b 0) (playAtBody b 1)
  | .pause => .pause h (nat8 b 0)
  | .speed => .speed h (nat8 b 0) (nat8 b 1) (int16 b 2) (nat16 b 4)
  | .stepFrames => .stepFrames h (nat8 b 0) (int16 b 1)
  | .continuePlay => .continuePlay h (nat8 b 0)
  | .snap =>
    .snap h { channel := nat8 b 0, kind := nat8 b 1, lane := nat8 b 2, delay := nat16 b 3, clip := nat16 b 5,
              offset := nat32 b 7 }
  | .resume => .resume h (nat8 b 0)
  | .saveDiscard => .saveDiscard h (nat8 b 0)
  | .syncPlay => .syncPlay h (byteAt b 0) (playAtBody b 1)
  | .channelStatus => .channelStatus h (nat8 b 0)
  | .flagsClear => .flagsClear h (nat8 b 0) (byteAt b 1)
  | .flagEnables => .flagEnables h (nat8 b 0) (byteAt b 1)
  | .bankWrite =>
    .bankWrite h (nat8 b 0) (nat8 b 1) (nat8 b 2) ((List.range (nat8 b 2)).map fun i => segmentAt ((b.drop (3 + 16 * i)).take 16))
  | .bankRead => .bankRead h (nat8 b 0) (nat8 b 1) (nat8 b 2)
  | .runOrder => .runOrder h (nat8 b 0) (nat8 b 1) (nat8 b 2)
  | .segue => .segue h (nat8 b 0) (nat8 b 1) (nat8 b 2)
  | .exportStart => .exportStart h (nat16 b 0) (nat32 b 2) (nat32 b 6) (nat32 b 10)
  | .exportAbort => .exportAbort h
  | .exportConfig => .exportConfig h (nat8 b 0)
  | .exportStatus => .exportStatus h
  | .cueLineConfig =>
    .cueLineConfig h { line := nat8 b 0, mode := nat8 b 1, channel := nat8 b 2, compareLfn := nat32 b 3, direction := nat8 b 7,
                       rearm := nat8 b 8, action := nat8 b 9, n := nat8 b 10, idleLevel := nat8 b 11, bank := nat8 b 12,
                       entry := nat8 b 13 }
  | .cueLineFire => .cueLineFire h (nat8 b 0)
  | .cueLineStatus => .cueLineStatus h (nat8 b 0)

/-! ### A completed frame (R191 to R193, R204) -/

def broadcastAddress : Byte := 0x0F

/-- The station and claimed level of character 1, bits 6 and 7 ignored (R204). -/
def headerOf (chars : List Byte) : Header :=
  { broadcast := byteAt chars 0 == broadcastAddress
    station := Fin.ofNat 16 (nat8 chars 1)
    claimed := Fin.ofNat 4 (nat8 chars 1 / 16)
    tag := byteAt chars 2 }

/-- The frame is one the receiver completes, for this unit or for all (R190, R191). -/
def wholeFrame (f : LinkFrame) (unit : Fin 8) : Bool :=
  (byteAt f.chars 0 == BitVec.ofNat 8 unit.val || byteAt f.chars 0 == broadcastAddress) &&
    (if f.lengthFault then f.chars.length == 5 && decide (240 < nat8 f.chars 4)
     else f.chars.length == 7 + nat8 f.chars 4 && decide (nat8 f.chars 4 ≤ 240))

/-- The received CRC differs from the CRC formed (R191). -/
def crcFault (chars : List Byte) : Bool :=
  (chars.drop (chars.length - 2)) != crcBytes (chars.take (chars.length - 2))

def kindOf (b : Byte) : Option Kind := Kind.all.find? fun k => k.code == b

/-- What becomes of a completed frame. -/
inductive Verdict where
  | discard
  | drop
  | refuse (status : Status)
  | take (i : Instr)

/-- The refusal or the command of a frame without length fault or CRC fault (R192 checks 4, 5 and 7, R193). -/
def bodyVerdict (chars : List Byte) : Verdict :=
  let body := (chars.drop 5).take (nat8 chars 4)
  match kindOf (byteAt chars 3) with
  | none => .refuse .badKind
  | some k => if body.length = k.bodyLength body then .take (decodeBody k (headerOf chars) body) else .refuse .badLength

/-- A refusal of a broadcast frame is no reply: the frame is dropped (R193). -/
def Verdict.asBroadcast : Verdict → Verdict
  | .refuse _ => .drop
  | .discard => .discard
  | .drop => .drop
  | .take i => .take i

/-- The kind of the frame may be taken with the header's address and level (R192 check 6, R193). -/
def State.kindVerdict (s : State) (h : Header) (kind : Byte) (v : Verdict) : Verdict :=
  match kindOf kind with
  | none => v
  | some k =>
    if h.broadcast then (if k.broadcast then v else .drop)
    else match v with
      | .take i => if k.levelZero && decide (0 < s.effective h) then .refuse .level else .take i
      | .refuse st => .refuse st
      | .discard => .discard
      | .drop => .drop

/-- The checks of a completed frame, in their order (R192, R193). -/
def State.judge (s : State) (f : LinkFrame) : Verdict :=
  let h := headerOf f.chars
  let v : Verdict :=
    if f.lengthFault then .refuse .badLength
    else if crcFault f.chars then .refuse .frameCheck
    else s.kindVerdict h (byteAt f.chars 3) (bodyVerdict f.chars)
  if h.broadcast then v.asBroadcast
  else if 4 ≤ s.link.replies.length then .discard
  else v

/-- What the frame is answered when it is not executed; a frame that is executed is left alone. -/
def State.turnAway (s : State) (f : LinkFrame) : State :=
  match s.judge f with
  | .discard => s.discardFrame
  | .drop => s
  | .refuse st => s.queueReply (byteAt f.chars 2) (byteAt f.chars 3) st []
  | .take _ => s

/-- FRAME_REFUSED (R192, R193). A frame that is executed, or that this unit would not complete, is not this event; the receiver
stays as it is (log 12). -/
def execFrameRefused (f : LinkFrame) (s : State) : Host.Outcome State Fault Refusal :=
  .next (s.whenRunning fun s => if wholeFrame f s.link.unitAddress then s.turnAway f else s)

/-! ### Executing the command of a frame (R192 check 7) -/

/-- The state a meaning goes on to. -/
def orSame (o : Host.Outcome State Fault Refusal) (s : State) : State :=
  match o with
  | .next t => t
  | .fault _ => s
  | .refused _ => s

/-- The meaning of a host command. The other events do not come in a frame. -/
def runCommand (i : Instr) (s : State) : State :=
  match i with
  | .poll h => orSame (execPoll h s) s
  | .unitStatus h => orSame (execUnitStatus h s) s
  | .unitReset h => orSame (execUnitReset h s) s
  | .stationSet h a b => orSame (execStationSet h a b s) s
  | .noticeLevels h l => orSame (execNoticeLevels h l s) s
  | .refConfig h n w f => orSame (execRefConfig h n w f s) s
  | .timeSet h a b c d => orSame (execTimeSet h a b c d s) s
  | .laneConfig h f => orSame (execLaneConfig h f s) s
  | .recStart h m => orSame (execRecStart h m s) s
  | .recStop h m => orSame (execRecStop h m s) s
  | .indexRead h l n => orSame (execIndexRead h l n s) s
  | .laneStatus h l => orSame (execLaneStatus h l s) s
  | .clipMark h f => orSame (execClipMark h f s) s
  | .clipSpan h f => orSame (execClipSpan h f s) s
  | .clipLock h n => orSame (execClipLock h n s) s
  | .clipUnlock h n => orSame (execClipUnlock h n s) s
  | .clipDelete h n => orSame (execClipDelete h n s) s
  | .clipRights h n v e => orSame (execClipRights h n v e s) s
  | .clipLabel h n k t => orSame (execClipLabel h n k t s) s
  | .clipRead h n => orSame (execClipRead h n s) s
  | .clipNext h n => orSame (execClipNext h n s) s
  | .rightsProbe h n => orSame (execRightsProbe h n s) s
  | .lineConfig h f => orSame (execLineConfig h f s) s
  | .jogConfig h f => orSame (execJogConfig h f s) s
  | .jogStatus h j => orSame (execJogStatus h j s) s
  | .leverConfig h f => orSame (execLeverConfig h f s) s
  | .curveLoad h v p => orSame (execCurveLoad h v p s) s
  | .leverStatus h v => orSame (execLeverStatus h v s) s
  | .channelTake h c => orSame (execChannelTake h c s) s
  | .channelRelease h c => orSame (execChannelRelease h c s) s
  | .cueClip h c n o => orSame (execCueClip h c n o s) s
  | .cueLane h c l f n => orSame (execCueLane h c l f n s) s
  | .live h c l d => orSame (execLive h c l d s) s
  | .play h c f => orSame (execPlay h c f s) s
  | .pause h c => orSame (execPause h c s) s
  | .speed h c k v r => orSame (execSpeed h c k v r s) s
  | .stepFrames h c n => orSame (execStepFrames h c n s) s
  | .continuePlay h c => orSame (execContinuePlay h c s) s
  | .snap h f => orSame (execSnap h f s) s
  | .resume h c => orSame (execResume h c s) s
  | .saveDiscard h c => orSame (execSaveDiscard h c s) s
  | .syncPlay h m f => orSame (execSyncPlay h m f s) s
  | .channelStatus h c => orSame (execChannelStatus h c s) s
  | .flagsClear h c m => orSame (execFlagsClear h c m s) s
  | .flagEnables h c m => orSame (execFlagEnables h c m s) s
  | .bankWrite h b e n r => orSame (execBankWrite h b e n r s) s
  | .bankRead h b e n => orSame (execBankRead h b e n s) s
  | .runOrder h c b e => orSame (execRunOrder h c b e s) s
  | .segue h c k n => orSame (execSegue h c k n s) s
  | .exportStart h n a b t => orSame (execExportStart h n a b t s) s
  | .exportAbort h => orSame (execExportAbort h s) s
  | .exportConfig h n => orSame (execExportConfig h n s) s
  | .exportStatus h => orSame (execExportStatus h s) s
  | .cueLineConfig h f => orSame (execCueLineConfig h f s) s
  | .cueLineFire h k => orSame (execCueLineFire h k s) s
  | .cueLineStatus h k => orSame (execCueLineStatus h k s) s
  | .powerOnReset => s
  | .resetRelease _ => s
  | .referencePulse _ _ => s
  | .windowTimerExpiry _ => s
  | .holdoverLimit _ => s
  | .holdOffEnd _ => s
  | .jogMotion _ => s
  | .leverResult _ => s
  | .leverMotion _ => s
  | .pulseEnd _ => s
  | .exportStall => s
  | .signalChange _ _ => s
  | .frameArrival _ => s
  | .ingestBlockDelivered _ _ => s
  | .frameEnd _ _ => s
  | .blockCompletion _ => s
  | .xrdyAsserted => s
  | .xrdyDeasserted => s
  | .markEdge _ _ => s
  | .jogEdge _ _ _ => s
  | .linkCharacter _ _ => s
  | .frameRefused _ => s
  | .replySent => s

/-- A completed frame is taken (R192, R193). -/
def State.takeFrame (s : State) (f : LinkFrame) : State :=
  match s.judge f with
  | .take i => runCommand i s
  | .discard => s.turnAway f
  | .drop => s.turnAway f
  | .refuse _ => s.turnAway f

/-! ### The receiver (R190, R191) -/

def State.setReceiver (s : State) (r : Receiver) : State := s.setLink { s.link with receiver := r }

/-- The frame completes, and the receiver returns to HUNT. -/
def State.frameComplete (s : State) (chars : List Byte) (lengthFault : Bool) : State :=
  (s.setReceiver .hunt).takeFrame { chars, lengthFault }

/-- A frame under reception takes a character: it completes at a body length above 240, or with its last character (R191). -/
def State.extendFrame (s : State) (chars : List Byte) (data : Byte) : State :=
  let cs := chars ++ [data]
  if cs.length = 5 ∧ 240 < data.toNat then s.frameComplete cs true
  else if 5 ≤ cs.length ∧ cs.length = 7 + nat8 cs 4 then s.frameComplete cs false
  else s.setReceiver (.receiving cs)

/-- A character arrival is judged by the receiver's state and the marker bit (R190). -/
def State.receive (s : State) (marked : Bool) (data : Byte) : State :=
  if marked then
    if data = BitVec.ofNat 8 s.link.unitAddress.val ∨ data = broadcastAddress then s.setReceiver (.receiving [data])
    else s.setReceiver .skip
  else match s.link.receiver with
    | .hunt => s
    | .skip => s
    | .receiving chars => s.extendFrame chars data

/-- LINK_CHARACTER (R190, R191). -/
def execLinkCharacter (marked : Bool) (data : Byte) (s : State) : Host.Outcome State Fault Refusal :=
  .next (s.whenRunning fun s => s.receive marked data)

/-! ### The end of a reply (R196, R204) -/

/-- The characters of a reply frame (R204). -/
def Reply.chars (r : Reply) (unit : Fin 8) (indicator : Byte) : List Byte :=
  let body := leBytes 1 (0x10 + unit.val) ++ [r.tag, r.kind] ++ leBytes 1 r.status.code ++ [indicator] ++
    leBytes 1 r.body.length ++ r.body
  body ++ crcBytes body

/-- The reply that has been sent leaves the queue, and the next one starts (R196). -/
def State.finishReply (s : State) : State :=
  match s.link.replies with
  | [] => s
  | r :: rest =>
    (s.setLink ({ s.link with replies := rest }).startReply).emit
      (.reply (r.chars s.link.unitAddress (r.indicator.getD s.link.indicator)))

/-- REPLY_SENT (R196). -/
def execReplySent (s : State) : Host.Outcome State Fault Refusal :=
  .next (s.whenRunning fun s => s.finishReply)

end Sys2Proof.Machine
end

