-- ==== Sys2Proof/Machine/Transfers.lean ====
section
/-!
DEFINITION. The Transfer Engine's events: a block delivered by an ingest port, the end of a frame, and the store's block
completion (spec/08, R156 to R162, R164, R166, R167).
-/

namespace Sys2Proof.Machine

/-! ### Ingest blocks (R156, R157) -/

/-- The frame write of an LFN changed by `f`. -/
def State.modifyWrite (s : State) (l : Fin 8) (lfn : Nat) (f : FrameWrite → FrameWrite) : State :=
  s.setIngest l ((s.ingest l).map fun w => if w.lfn = lfn then f w else w)

/-- A block of a taken frame becomes waiting; one beyond the S-th is dropped (R156, R157). -/
def State.blockDelivered (s : State) (l : Fin 8) (d : BlockData) : State :=
  match (s.lane l).port with
  | .idle => s
  | .dropping => s
  | .taking lfn n =>
    let size := (s.lane l).s
    let s := s.modifyLane l fun x => { x with port := .taking lfn (n + 1) }
    if n < size then (s.modifyWrite l lfn fun w => { w with waiting := w.waiting ++ [d] }).grant else s

/-- INGEST_BLOCK_DELIVERED (R156). -/
def execIngestBlockDelivered (l : Fin 8) (data : BlockData) (s : State) : Host.Outcome State Fault Refusal :=
  .next (s.whenRunning fun s => s.blockDelivered l data)

/-! ### Frame completion and frame end (R157, R158) -/

def FrameWrite.complete (w : FrameWrite) : Bool := w.ended && w.done == w.size

/-- A complete write leaves the queue, and the lane takes its write completion (R158, R30). -/
def State.finishWrite (s : State) (l : Fin 8) (lfn : Nat) : State :=
  match (s.ingest l).find? fun w => w.lfn == lfn with
  | none => s
  | some w =>
    if w.complete then (s.setIngest l ((s.ingest l).filter fun y => y.lfn != lfn)).writeCompleted l lfn else s

/-- A good frame end of the taken frame `lfn` is recorded by its frame write (R157, R158). -/
def State.endGood (s : State) (l : Fin 8) (frame : Option Nat) (lfn : Nat) : State :=
  ((s.modifyLane l fun x => x.frameEnded frame).modifyWrite l lfn fun w => { w with ended := true }).finishWrite l lfn

/-- The port ends a frame: damaged when its stream reports a fault or it brought other than S blocks (R157). The frame of a lane's older
write may end after the port has gone on to the newer one (R30, R158; log 25). -/
def State.frameEnds (s : State) (l : Fin 8) (x : FrameEnd) : State :=
  match (s.lane l).takenFrame x.frame with
  | none => s.endDamaged l x.frame
  | some f =>
    if x.streamFault || f.blocks != (s.lane l).s then s.endDamaged l x.frame else s.endGood l x.frame f.lfn

/-- FRAME_END (R157, R158). -/
def execFrameEnd (l : Fin 8) (x : FrameEnd) (s : State) : Host.Outcome State Fault Refusal :=
  .next (s.whenRunning fun s => s.frameEnds l x)

/-! ### The end of a fetch (R123, R161, R166) -/

/-- STORE/READ_ERROR (R166). -/
def State.postReadError (s : State) (l : Fin 8) (block lfn k requester : Nat) : State :=
  s.post .store 0 l.val (leBytes 4 block ++ lfnBytes lfn ++ leBytes 1 k ++ leBytes 1 requester)

/-- The fetch leaves the queue, and the channel takes its completion: the claim goes, and the frame waits for the next tick
(R123, R161). -/
def State.fetchCompleted (s : State) (c : Fin 4) (f : FrameRef) : State :=
  let s := (s.setFetch c none).removeClaim f.lane f.lfn
  s.setChannel c { s.channel c with fetch := none, next := some f }

/-- The fetch ends unusable: the staging body is void, the claim goes, and STORE is set (R123, R161). -/
def State.fetchFailed (s : State) (c : Fin 4) (f : FrameRef) : State :=
  let s := s.setOutPort c { s.outPort c with staging := none }
  let s := (s.setFetch c none).removeClaim f.lane f.lfn
  (s.setChannel c { s.channel c with fetch := none }).setFlag c .store

/-- A good block is streamed to its place in the staging body (R160). -/
def State.streamBlock (s : State) (c : Fin 4) (d : BlockData) : State :=
  s.setOutPort c { s.outPort c with staging := some (((s.outPort c).staging.getD []) ++ [d]) }

/-- A block of a channel's fetch completes (R160, R161, R166). -/
def State.fetchBlockDone (s : State) (c : Fin 4) (block index : Nat) (good : Bool) : State :=
  match s.fetchOf c with
  | none => s
  | some f =>
    if good then
      let s := s.streamBlock c (s.readBlock block)
      if f.done + 1 = f.size then s.fetchCompleted c f.frame else s.setFetch c (some { f with done := f.done + 1 })
    else (s.postReadError f.frame.lane block f.frame.lfn index c.val).fetchFailed c f.frame

/-! ### Block completion (R164) -/

/-- A block of a frame write is in the store and counted (R158, R164). -/
def State.writeBlockDone (s : State) (l : Fin 8) (lfn block : Nat) (d : BlockData) : State :=
  ((s.writeBlock block d).modifyWrite l lfn fun w => { w with done := w.done + 1 }).finishWrite l lfn

/-- The export's block completes: it is sent, as zeros when it failed, and the Export Channel takes the completion (R162, R166). -/
def State.exportReadDone (s : State) (block : Nat) (good : Bool) : State :=
  match s.xfer.exportRead with
  | none => s
  | some r =>
    let s := s.setExportRead none
    let s := s.emit (.portBlock (if good then s.readBlock block else 0))
    let s := if good then s else s.postReadError r.lane block r.lfn r.index 4
    s.exportBlockDone good

/-- Steps 1 and 2 of R164 for the block in service. -/
def State.finishBlock (s : State) (v : InService) (good : Bool) : State :=
  match v.use with
  | .write l lfn d => s.writeBlockDone l lfn v.block d
  | .fetch c k => s.fetchBlockDone c v.block k good
  | .exportRead => s.exportReadDone v.block good
  | .orphanWrite d => s.writeBlock v.block d
  | .orphanRead => s

/-- BLOCK_COMPLETION (R164). Without a block in service it does not arise (log 7); a block number outside the store faults
(log 29). -/
def execBlockCompletion (good : Bool) (s : State) : Host.Outcome State Fault Refusal :=
  match s.xfer.service with
  | none => .next s
  | some v =>
    if s.resetHeld then .next s
    else if 262144 ≤ v.block then .fault .noSuchBlock
    else .next (((s.finishBlock v good).setService none).grant)

end Sys2Proof.Machine
end

