-- ==== Sys2Proof/Machine/Dispatch.lean ====
section
/-!
DEFINITION. The one match over the commands: each arm is one call of the command's meaning.
-/

namespace Sys2Proof.Machine

def exec (i : Instr) (s : State) : Host.Outcome State Fault Refusal :=
  match i with
  | .powerOnReset => Sys2Proof.Machine.execPowerOnReset s
  | .resetRelease straps => Sys2Proof.Machine.execResetRelease straps s
  | .referencePulse elapsed order => Sys2Proof.Machine.execReferencePulse elapsed order s
  | .windowTimerExpiry expiry => Sys2Proof.Machine.execWindowTimerExpiry expiry s
  | .holdoverLimit expiry => Sys2Proof.Machine.execHoldoverLimit expiry s
  | .holdOffEnd line => Sys2Proof.Machine.execHoldOffEnd line s
  | .jogMotion jog => Sys2Proof.Machine.execJogMotion jog s
  | .leverResult value => Sys2Proof.Machine.execLeverResult value s
  | .leverMotion lever => Sys2Proof.Machine.execLeverMotion lever s
  | .pulseEnd line => Sys2Proof.Machine.execPulseEnd line s
  | .exportStall => Sys2Proof.Machine.execExportStall s
  | .signalChange lane present => Sys2Proof.Machine.execSignalChange lane present s
  | .frameArrival lane => Sys2Proof.Machine.execFrameArrival lane s
  | .ingestBlockDelivered lane data => Sys2Proof.Machine.execIngestBlockDelivered lane data s
  | .frameEnd lane ended => Sys2Proof.Machine.execFrameEnd lane ended s
  | .blockCompletion good => Sys2Proof.Machine.execBlockCompletion good s
  | .xrdyAsserted => Sys2Proof.Machine.execXrdyAsserted s
  | .xrdyDeasserted => Sys2Proof.Machine.execXrdyDeasserted s
  | .markEdge line level => Sys2Proof.Machine.execMarkEdge line level s
  | .jogEdge jog a b => Sys2Proof.Machine.execJogEdge jog a b s
  | .linkCharacter marked data => Sys2Proof.Machine.execLinkCharacter marked data s
  | .frameRefused frame => Sys2Proof.Machine.execFrameRefused frame s
  | .replySent => Sys2Proof.Machine.execReplySent s
  | .poll h => Sys2Proof.Machine.execPoll h s
  | .unitStatus h => Sys2Proof.Machine.execUnitStatus h s
  | .unitReset h => Sys2Proof.Machine.execUnitReset h s
  | .stationSet h station ceiling => Sys2Proof.Machine.execStationSet h station ceiling s
  | .noticeLevels h levels => Sys2Proof.Machine.execNoticeLevels h levels s
  | .refConfig h n w f => Sys2Proof.Machine.execRefConfig h n w f s
  | .timeSet h hh mm sec ff => Sys2Proof.Machine.execTimeSet h hh mm sec ff s
  | .laneConfig h fields => Sys2Proof.Machine.execLaneConfig h fields s
  | .recStart h mask => Sys2Proof.Machine.execRecStart h mask s
  | .recStop h mask => Sys2Proof.Machine.execRecStop h mask s
  | .indexRead h lane startLfn => Sys2Proof.Machine.execIndexRead h lane startLfn s
  | .laneStatus h lane => Sys2Proof.Machine.execLaneStatus h lane s
  | .clipMark h fields => Sys2Proof.Machine.execClipMark h fields s
  | .clipSpan h fields => Sys2Proof.Machine.execClipSpan h fields s
  | .clipLock h clip => Sys2Proof.Machine.execClipLock h clip s
  | .clipUnlock h clip => Sys2Proof.Machine.execClipUnlock h clip s
  | .clipDelete h clip => Sys2Proof.Machine.execClipDelete h clip s
  | .clipRights h clip vl el => Sys2Proof.Machine.execClipRights h clip vl el s
  | .clipLabel h clip length text => Sys2Proof.Machine.execClipLabel h clip length text s
  | .clipRead h clip => Sys2Proof.Machine.execClipRead h clip s
  | .clipNext h clip => Sys2Proof.Machine.execClipNext h clip s
  | .rightsProbe h clip => Sys2Proof.Machine.execRightsProbe h clip s
  | .lineConfig h fields => Sys2Proof.Machine.execLineConfig h fields s
  | .jogConfig h fields => Sys2Proof.Machine.execJogConfig h fields s
  | .jogStatus h jog => Sys2Proof.Machine.execJogStatus h jog s
  | .leverConfig h fields => Sys2Proof.Machine.execLeverConfig h fields s
  | .curveLoad h lever points => Sys2Proof.Machine.execCurveLoad h lever points s
  | .leverStatus h lever => Sys2Proof.Machine.execLeverStatus h lever s
  | .channelTake h channel => Sys2Proof.Machine.execChannelTake h channel s
  | .channelRelease h channel => Sys2Proof.Machine.execChannelRelease h channel s
  | .cueClip h channel clip offset => Sys2Proof.Machine.execCueClip h channel clip offset s
  | .cueLane h channel lane newest lfn => Sys2Proof.Machine.execCueLane h channel lane newest lfn s
  | .live h channel lane delay => Sys2Proof.Machine.execLive h channel lane delay s
  | .play h channel fields => Sys2Proof.Machine.execPlay h channel fields s
  | .pause h channel => Sys2Proof.Machine.execPause h channel s
  | .speed h channel kind value ramp => Sys2Proof.Machine.execSpeed h channel kind value ramp s
  | .stepFrames h channel count => Sys2Proof.Machine.execStepFrames h channel count s
  | .continuePlay h channel => Sys2Proof.Machine.execContinuePlay h channel s
  | .snap h fields => Sys2Proof.Machine.execSnap h fields s
  | .resume h channel => Sys2Proof.Machine.execResume h channel s
  | .saveDiscard h channel => Sys2Proof.Machine.execSaveDiscard h channel s
  | .syncPlay h mask fields => Sys2Proof.Machine.execSyncPlay h mask fields s
  | .channelStatus h channel => Sys2Proof.Machine.execChannelStatus h channel s
  | .flagsClear h channel mask => Sys2Proof.Machine.execFlagsClear h channel mask s
  | .flagEnables h channel mask => Sys2Proof.Machine.execFlagEnables h channel mask s
  | .bankWrite h bank first count records => Sys2Proof.Machine.execBankWrite h bank first count records s
  | .bankRead h bank first count => Sys2Proof.Machine.execBankRead h bank first count s
  | .runOrder h channel bank entry => Sys2Proof.Machine.execRunOrder h channel bank entry s
  | .segue h channel kind number => Sys2Proof.Machine.execSegue h channel kind number s
  | .exportStart h clip fromOffset toOffset tag => Sys2Proof.Machine.execExportStart h clip fromOffset toOffset tag s
  | .exportAbort h => Sys2Proof.Machine.execExportAbort h s
  | .exportConfig h limit => Sys2Proof.Machine.execExportConfig h limit s
  | .exportStatus h => Sys2Proof.Machine.execExportStatus h s
  | .cueLineConfig h fields => Sys2Proof.Machine.execCueLineConfig h fields s
  | .cueLineFire h line => Sys2Proof.Machine.execCueLineFire h line s
  | .cueLineStatus h line => Sys2Proof.Machine.execCueLineStatus h line s

end Sys2Proof.Machine
end

