-- ==== Sys2Proof/Machine/Step.lean ====
section
/-!
DEFINITION. One step of the part: the event at the front of the queue is taken; with no event waiting, the part idles (log 1).
-/

namespace Sys2Proof.Machine

/-- The event at the front of the queue is taken, with the queue's rest left to wait. -/
def step (s : State) : Host.Outcome State Fault Refusal :=
  match s.pending with
  | [] => .next s
  | c :: rest => exec c { s with pending := rest }

/-- The state with the command that a word spells at the front of its queue; unchanged where the word spells none. -/
def State.withFetchWord (s : State) (nbits w : Nat) : State :=
  match decodeTableWord nbits w with
  | some c => { s with pending := c :: s.pending }
  | none => s

end Sys2Proof.Machine
end

