-- ==== Sys2Proof/Safety.lean ====
section
/-!
DEFINITION. What the statements about this machine are made of: what a quiet event leaves alone, the invariants, and when a command
frame is taken.
-/

namespace Sys2Proof.Machine

/-! ### What most events leave alone -/

/-- The notice queue is sound (R197): no more than 64 notices, none of a class at level 15. -/
def Link.noticesSound (k : Link) : Prop :=
  k.notices.length ≤ 64 ∧ ∀ n ∈ k.notices, k.levels[n.cls.number] ≠ 15

/-- Nothing but notices were posted: the rest of the Link Interface is as it was, and a sound queue stays sound. -/
structure Link.OnlyPosts (k k' : Link) : Prop where
  unitAddress : k'.unitAddress = k.unitAddress
  linkRate    : k'.linkRate = k.linkRate
  receiver    : k'.receiver = k.receiver
  replies     : k'.replies = k.replies
  overrun     : k'.overrun = k.overrun
  stations    : k'.stations = k.stations
  levels      : k'.levels = k.levels
  sound       : k.noticesSound → k'.noticesSound

/-- The event leaves alone the RESET pin, the Reference Unit, the frame store, XRDY, the queue of events, and the Link Interface
but for notices it posts. -/
structure State.Quiet (s t : State) : Prop where
  resetHeld  : t.resetHeld = s.resetHeld
  refu       : t.refu = s.refu
  store      : t.store = s.store
  storeEpoch : t.storeEpoch = s.storeEpoch
  xrdy       : t.xrdy = s.xrdy
  pending    : t.pending = s.pending
  link       : s.link.OnlyPosts t.link

/-! ### The notices of one event (R42, R197) -/

/-- Notices posted one after the other, each with its class, code, subject and data. -/
def State.posts (s : State) (ns : List (NoticeClass × Nat × Nat × List Byte)) : State :=
  ns.foldl (fun t n => t.post n.1 n.2.1 n.2.2.1 n.2.2.2) s

/-- One CLIP notice for each clip that gives data, by ascending number (log 31). -/
def State.clipNotices (s : State) (code : Nat) (data : Clip → Option (List Byte)) : List (NoticeClass × Nat × Nat × List Byte) :=
  s.clips.filterMap fun e => (data e.2).map fun d => (.clip, code, e.1, d)

/-- The data of LANE/STOPPED: newest assigned, in bytes that are free while it is absent (log 16), its present flag, and the cause. -/
def Lane.stoppedData (x : Lane) (own : List Byte) (cause : Nat) : List Byte :=
  own ++ leBytes 1 (if x.newestAssigned = none then 0 else 1) ++ leBytes 1 cause

/-- Four bytes, those of newest assigned where the lane has one (log 16). -/
def Lane.newestBytes (x : Lane) (own : List Byte) : Prop :=
  own.length = 4 ∧ ∀ a, x.newestAssigned = some a → own = lfnBytes a

/-! ### Frames at an ingest port (R156 to R158) -/

/-- The taken frames whose end is still to come once the port goes on to another frame (log 25). -/
def Lane.passed (x : Lane) : List TakenFrame :=
  match x.port with
  | .taking lfn blocks => x.unended ++ [{ lfn, blocks }]
  | .dropping => x.unended
  | .idle => x.unended

/-- A frame end is that of the taken frame `lfn`, of which the port has brought `n` blocks: the frame under delivery, or an older one
that it names. After it the lane has `port` and `unended` (R157, R158; log 25). -/
def Lane.ends (x : Lane) (frame : Option Nat) (lfn n : Nat) (port : PortFrame) (unended : List TakenFrame) : Prop :=
  ((frame = none ∨ frame = some lfn ∧ ∀ f ∈ x.unended, f.lfn ≠ lfn) ∧ x.port = .taking lfn n ∧ port = .idle ∧
    unended = x.unended) ∨
  (frame = some lfn ∧ (∀ k, x.port ≠ .taking lfn k) ∧ port = x.port ∧ ∃ older newer,
    x.unended = older ++ { lfn, blocks := n } :: newer ∧ (∀ f ∈ older ++ newer, f.lfn ≠ lfn) ∧ unended = older ++ newer)

/-! ### Points of clips (R54, R57 to R60) -/

/-- CLIP MARK names the frame `lfn` of lane `l`: by an explicit LFN, by a channel's on-air frame, or by the lane's newest GOOD (R54). -/
def State.names (s : State) (f : MarkFields) (l : Fin 8) (lfn : Nat) : Prop :=
  (f.source = 0 ∧ f.lane = l.val ∧ f.value = lfn ∧ lfn ≤ maxLfn) ∨
  (f.source = 1 ∧ ∃ c : Fin 4, ∃ r : FrameRef, f.value = c.val ∧ (s.channel c).onAir = some r ∧ r.lane = l ∧ r.lfn = lfn) ∨
  (f.source = 2 ∧ f.lane = l.val ∧ (s.lane l).newestGood = some lfn)

/-- An in point lies from the floor, the oldest entry's LFN, to newest assigned (R55). -/
def Lane.admitsIn (x : Lane) (lfn : Nat) : Prop :=
  ∃ e rest a, x.entries = e :: rest ∧ x.newestAssigned = some a ∧ e.lfn ≤ lfn ∧ lfn ≤ a

/-- An out point is at least the floor (R55). -/
def Lane.admitsOut (x : Lane) (lfn : Nat) : Prop := ∃ e rest, x.entries = e :: rest ∧ e.lfn ≤ lfn

/-- The rows of R57, R58 and R59 for CLIP MARK (point 0 IN, 1 OUT) with a valid point: the record's state and points after it, and
whether the points swapped. -/
def Clip.marked (c : Clip) (newest point lfn : Nat) (c' : Clip) (swapped : Bool) : Prop :=
  (point = 0 ∧ c.state = .opened ∧ c' = { c with inLfn := lfn } ∧ swapped = false) ∨
  (point = 0 ∧ c.state = .closed ∧ (∃ o, c.out = some o ∧ lfn ≤ o) ∧ c' = { c with inLfn := lfn } ∧ swapped = false) ∨
  (point = 0 ∧ c.state = .closed ∧ (∃ o, c.out = some o ∧ o < lfn ∧ c' = { c with inLfn := o, out := some lfn }) ∧
    swapped = true) ∨
  (point = 0 ∧ c.state = .absent ∧ c' = { c with state := .opened, inLfn := lfn, out := none, planned := none } ∧
    swapped = false) ∨
  (point = 1 ∧ (c.state = .opened ∨ c.state = .closed) ∧ newest < lfn ∧
    c' = { c with state := .opened, out := none, planned := some lfn } ∧ swapped = false) ∨
  (point = 1 ∧ (c.state = .opened ∨ c.state = .closed) ∧ lfn ≤ newest ∧ c.inLfn ≤ lfn ∧
    c' = { c with state := .closed, out := some lfn, planned := none } ∧ swapped = false) ∨
  (point = 1 ∧ (c.state = .opened ∨ c.state = .closed) ∧ lfn ≤ newest ∧ lfn < c.inLfn ∧
    c' = { c with state := .closed, inLfn := lfn, out := some c.inLfn, planned := none } ∧ swapped = true)

/-! ### What every step keeps -/

/-- A lane and its partition are sound (R20, R23, R26, R34): entries in rising order of LFN, all assigned; each of the K slots free or
named by one entry; no more than P arrivals in a period and two pending writes; the held count within H, and H within K − 16. -/
structure Lane.sound (x : Lane) : Prop where
  rising    : x.entries.Pairwise fun a b => a.lfn < b.lfn
  assigned  : ∀ e ∈ x.entries, e.lfn < x.periodBase + x.arrivals ∧ e.lfn ≤ maxLfn
  slots     : (x.entries.map Entry.slot ++ x.freeSlots).Perm (List.range x.k)
  inOrder   : x.freeSlots.Pairwise (· < ·)
  arrivals  : x.arrivals ≤ x.p
  writes    : x.writing ≤ 2
  recording : x.state = .recording → x.periodBase + x.p ≤ maxLfn + 1
  off       : x.state = .off → x.k = 0
  held      : x.held ≤ x.h
  ceiling   : x.h ≤ x.k - 16

/-- The Clip Table is sound (R44, R50, R62, R68): the listed records are in order, numbered from 1 to 1,023 and not FREE, with
EL ≤ VL ≤ 3 and at most 16 label characters; none is both locked and ABSENT. The mark lines hold such levels too (R71). -/
structure State.clipsSound (s : State) : Prop where
  inOrder : Sparse.Sorted s.clips
  numbers : ∀ e ∈ s.clips, 1 ≤ e.1 ∧ e.1 ≤ 1023 ∧ e.2.state ≠ .free
  levels  : ∀ e ∈ s.clips, e.2.el ≤ e.2.vl ∧ e.2.vl ≤ 3
  labels  : ∀ e ∈ s.clips, e.2.label.length ≤ 16
  locks   : ∀ e ∈ s.clips, e.2.locked = true → e.2.state ≠ .absent
  lines   : ∀ m, (s.mark m).el ≤ (s.mark m).vl ∧ (s.mark m).vl ≤ 3

/-- How many channels have clip `n` as their current source, plus how many as their saved source, plus 1 while the export runs on
it (R66). -/
def State.roles (s : State) (n : Nat) : Nat :=
  (allChannels.filter fun c => (s.channel c).source == .clip n).length +
    (allChannels.filter fun c => (s.channel c).saved.any fun k => k.source == .clip n).length +
    (if s.exporter.state = .running ∧ s.exporter.clip = n then 1 else 0)

/-- The uses of clips are sound (R66, R67, R77): every clip's use count is what holds it, a clip in no record is held by nothing, a
line's working clip has a record, and the lines of one binding share their working clip. Only a running export has a frame. -/
structure State.usesSound (s : State) : Prop where
  counts  : ∀ n, (s.clip n).useCount = s.roles n
  working : ∀ m, (s.mark m).workingClip = 0 ∨ (s.clip (s.mark m).workingClip).state ≠ .free
  groups  : ∀ m k, (s.mark m).binding = (s.mark k).binding → (s.mark m).workingClip = (s.mark k).workingClip
  frames  : s.exporter.frame ≠ none → s.exporter.state = .running

/-- The held entries of a lane: those whose LFN lies in the range of at least one locked clip of the lane (R33). -/
def State.heldEntries (s : State) (l : Fin 8) : List Entry :=
  (s.lane l).entries.filter fun e => s.clips.any fun c => c.2.locked && c.2.lane == l && c.2.covers e.lfn

/-- The protection of frames is sound (R24, R33, R55, R170, R171): every lane's held count is the number of its held entries. With it go
what it rests on: newest assigned is at or above every entry and below the next LFN, a lane with an OPEN or CLOSED clip has assigned an
LFN, an export lock stands on a CLOSED clip, and a running export's clip has it. -/
structure State.protectionSound (s : State) : Prop where
  held      : ∀ l, (s.lane l).held = (s.heldEntries l).length
  newest    : ∀ l, ∀ e ∈ (s.lane l).entries, ∃ a, (s.lane l).newestAssigned = some a ∧ e.lfn ≤ a
  next      : ∀ l a, (s.lane l).newestAssigned = some a → a < (s.lane l).nextLfn
  marked    : ∀ e ∈ s.clips, e.2.state = .opened ∨ e.2.state = .closed → (s.lane e.2.lane).newestAssigned ≠ none
  exported  : ∀ e ∈ s.clips, e.2.exportLock = true → e.2.state = .closed
  exporting : s.exporter.state = .running → (s.clip s.exporter.clip).exportLock = true

/-- The read claims on a lane's entry at an LFN: the playout fetches in flight on it, and the export's frame in progress (R32). -/
def State.claims (s : State) (l : Fin 8) (n : Nat) : Nat :=
  (allChannels.filter fun c => (s.channel c).fetch.any fun r => r.lane == l && r.lfn == n).length +
    (if s.exporter.lane = l ∧ (s.exporter.frame.any fun f => f.lfn == n) = true then 1 else 0)

/-- The read claims are sound (R32, R160): every entry's read count is the number of claims on it, what is claimed is a GOOD entry of its
lane, and a channel's fetch in flight is the one that the Transfer Engine has of it. -/
structure State.claimsSound (s : State) : Prop where
  counts  : ∀ l, ∀ e ∈ (s.lane l).entries, e.readCount = s.claims l e.lfn
  fetches : ∀ c r, (s.channel c).fetch = some r →
    ∃ e ∈ (s.lane r.lane).entries, e.lfn = r.lfn ∧ e.slot = r.slot ∧ e.status = .good
  frame   : ∀ f, s.exporter.frame = some f →
    ∃ e ∈ (s.lane s.exporter.lane).entries, e.lfn = f.lfn ∧ e.slot = f.slot ∧ e.status = .good
  queued  : ∀ c, (s.fetchOf c).map Fetch.frame = (s.channel c).fetch

/-- The Link Interface is sound (R195 to R197, R200): the notice queue is, levels go to 15 and ceilings to 3, no more than four replies
are queued, and a station with ceiling 0 remains. -/
structure Link.sound (k : Link) : Prop where
  notices  : k.noticesSound
  levels   : ∀ i : Fin 11, k.levels[i] ≤ 15
  replies  : k.replies.length ≤ 4
  ceilings : ∀ i : Fin 16, k.stations[i] ≤ 3
  master   : ∃ i : Fin 16, k.stations[i] = 0

/-- N, W and F lie in the ranges of R13. -/
def RefConfig.valid (c : RefConfig) : Prop :=
  10000 ≤ c.n ∧ c.n ≤ 50000 ∧ 10 ≤ c.w ∧ c.w ≤ 2000 ∧ 4 * c.w < c.n ∧ c.f ∈ [24, 25, 30, 50, 60]

/-- The Reference Unit is sound (R3, R6, R7, R11 to R13): the configurations, the timecode and the time value waiting lie in range, the
holdover count runs from 1 to 249 in HOLDOVER and is 0 in the other states, and the window timer expires N or more after the tick. -/
structure Refu.sound (r : Refu) : Prop where
  config   : r.config.valid
  pending  : ∀ c, r.pending = some c → c.valid
  holdover : if r.state = .holdover then 1 ≤ r.holdover ∧ r.holdover ≤ 249 else r.holdover = 0
  timecode : r.timecode.hh < 24 ∧ r.timecode.mm < 60 ∧ r.timecode.ss < 60 ∧ r.timecode.ff < r.config.f
  waiting  : ∀ t, r.waiting = some t → t.hh < 24 ∧ t.mm < 60 ∧ t.ss < 60
  timer    : r.config.n ≤ r.expiry

/-! ### When a command frame is taken (R192) -/

/-- A unit-addressed command frame of kind `k` is taken and executed: RESET is released, the reply queue has room, and a level-0
kind comes at level 0. -/
def State.Ready (s : State) (h : Header) (k : Kind) : Prop :=
  s.resetHeld = false ∧ h.broadcast = false ∧ s.link.replies.length < 4 ∧ (k.levelZero = true → s.effective h = 0)

/-- A broadcast frame of kind `k` is executed. -/
def State.ReadyAll (s : State) (h : Header) (k : Kind) : Prop :=
  s.resetHeld = false ∧ h.broadcast = true ∧ k.broadcast = true

/-- The kind and header of a host command; the other events come in no command frame. -/
def commandOf (i : Instr) : Option (Kind × Header) :=
  match i with
  | .poll h => some (.poll, h)
  | .unitStatus h => some (.unitStatus, h)
  | .unitReset h => some (.unitReset, h)
  | .stationSet h _ _ => some (.stationSet, h)
  | .noticeLevels h _ => some (.noticeLevels, h)
  | .refConfig h _ _ _ => some (.refConfig, h)
  | .timeSet h _ _ _ _ => some (.timeSet, h)
  | .laneConfig h _ => some (.laneConfig, h)
  | .recStart h _ => some (.recStart, h)
  | .recStop h _ => some (.recStop, h)
  | .indexRead h _ _ => some (.indexRead, h)
  | .laneStatus h _ => some (.laneStatus, h)
  | .clipMark h _ => some (.clipMark, h)
  | .clipSpan h _ => some (.clipSpan, h)
  | .clipLock h _ => some (.clipLock, h)
  | .clipUnlock h _ => some (.clipUnlock, h)
  | .clipDelete h _ => some (.clipDelete, h)
  | .clipRights h _ _ _ => some (.clipRights, h)
  | .clipLabel h _ _ _ => some (.clipLabel, h)
  | .clipRead h _ => some (.clipRead, h)
  | .clipNext h _ => some (.clipNext, h)
  | .rightsProbe h _ => some (.rightsProbe, h)
  | .lineConfig h _ => some (.lineConfig, h)
  | .jogConfig h _ => some (.jogConfig, h)
  | .jogStatus h _ => some (.jogStatus, h)
  | .leverConfig h _ => some (.leverConfig, h)
  | .curveLoad h _ _ => some (.curveLoad, h)
  | .leverStatus h _ => some (.leverStatus, h)
  | .channelTake h _ => some (.channelTake, h)
  | .channelRelease h _ => some (.channelRelease, h)
  | .cueClip h _ _ _ => some (.cueClip, h)
  | .cueLane h _ _ _ _ => some (.cueLane, h)
  | .live h _ _ _ => some (.live, h)
  | .play h _ _ => some (.play, h)
  | .pause h _ => some (.pause, h)
  | .speed h _ _ _ _ => some (.speed, h)
  | .stepFrames h _ _ => some (.stepFrames, h)
  | .continuePlay h _ => some (.continuePlay, h)
  | .snap h _ => some (.snap, h)
  | .resume h _ => some (.resume, h)
  | .saveDiscard h _ => some (.saveDiscard, h)
  | .syncPlay h _ _ => some (.syncPlay, h)
  | .channelStatus h _ => some (.channelStatus, h)
  | .flagsClear h _ _ => some (.flagsClear, h)
  | .flagEnables h _ _ => some (.flagEnables, h)
  | .bankWrite h _ _ _ _ => some (.bankWrite, h)
  | .bankRead h _ _ _ => some (.bankRead, h)
  | .runOrder h _ _ _ => some (.runOrder, h)
  | .segue h _ _ _ => some (.segue, h)
  | .exportStart h _ _ _ _ => some (.exportStart, h)
  | .exportAbort h => some (.exportAbort, h)
  | .exportConfig h _ => some (.exportConfig, h)
  | .exportStatus h => some (.exportStatus, h)
  | .cueLineConfig h _ => some (.cueLineConfig, h)
  | .cueLineFire h _ => some (.cueLineFire, h)
  | .cueLineStatus h _ => some (.cueLineStatus, h)
  | .powerOnReset => none
  | .resetRelease _ => none
  | .referencePulse _ _ => none
  | .windowTimerExpiry _ => none
  | .holdoverLimit _ => none
  | .holdOffEnd _ => none
  | .jogMotion _ => none
  | .leverResult _ => none
  | .leverMotion _ => none
  | .pulseEnd _ => none
  | .exportStall => none
  | .signalChange _ _ => none
  | .frameArrival _ => none
  | .ingestBlockDelivered _ _ => none
  | .frameEnd _ _ => none
  | .blockCompletion _ => none
  | .xrdyAsserted => none
  | .xrdyDeasserted => none
  | .markEdge _ _ => none
  | .jogEdge _ _ _ => none
  | .linkCharacter _ _ => none
  | .frameRefused _ => none
  | .replySent => none

/-- The answer to a taken command of kind `k`: its tag and kind with a status and a body (R192, R204). -/
def State.answers (s : State) (h : Header) (k : Kind) (st : Status) (body : List Byte) : State :=
  s.queueReply h.tag k.code st body

end Sys2Proof.Machine
end

