-- ==== Sys2Proof/Certificates/Slice0/Obligations.lean ====
section
/-!
DEFINITION. The statements for the provers, chapter by chapter. A command frame "is taken" under `State.Ready` (to this unit) or
`State.ReadyAll` (broadcast); `State.answers` queues its reply.
-/

open Sys2Proof Sys2Proof.Machine

/-! ### The queue of events, and the taking of commands -/

/-- An event at the front of the queue is taken with the queue's rest left waiting; with none waiting the part idles (log 1). -/
def Obligations.StepTakesTheFrontEvent : Prop :=
  ∀ s : State, (∀ c rest, s.pending = c :: rest → step s = exec c { s with pending := rest }) ∧
    (s.pending = [] → step s = .next s)

/-- No event changes the queue of waiting events (log 1). R1, R15, R203: with RESET held, every event but the release, a further
reset and the sink's XRDY is ignored (log 3). -/
def Obligations.EventsKeepTheQueueAndWaitForRelease : Prop :=
  (∀ (c : Instr) (s t : State), exec c s = .next t → t.pending = s.pending) ∧
  (∀ (c : Instr) (s : State), s.resetHeld = true → c ≠ .powerOnReset → (∀ x, c ≠ .resetRelease x) → c ≠ .xrdyAsserted →
     c ≠ .xrdyDeasserted → exec c s = .next s)

/-- R192 checks 1 and 6, R193, R194: a broadcast frame of a kind not taken from the broadcast address has no effect; a frame to
this unit is discarded at four queued replies, with the overrun marker set, and a level-0 kind above level 0 is answered
LEVEL. R192: a taken command queues exactly one reply, with the tag and kind of the command; a refusal has an empty body and
changes nothing else. A broadcast command queues none (R193). -/
def Obligations.HostCommandsAreCheckedThenAnswered : Prop :=
  (∀ (c : Instr) (k : Kind) (h : Header) (s : State), commandOf c = some (k, h) → s.resetHeld = false →
     (h.broadcast = true → k ∉ [.timeSet, .recStart, .recStop, .syncPlay] → exec c s = .next s) ∧
     (h.broadcast = false → 4 ≤ s.link.replies.length →
       exec c s = .next { s with link := { s.link with overrun := true } }) ∧
     (h.broadcast = false → s.link.replies.length < 4 →
       k ∈ [.refConfig, .laneConfig, .lineConfig, .jogConfig, .leverConfig, .curveLoad, .cueLineConfig, .exportConfig,
         .stationSet, .noticeLevels, .unitReset] →
       0 < max h.claimed.val s.link.stations[h.station] → exec c s = .next (s.answers h k .level []))) ∧
  (∀ (c : Instr) (k : Kind) (h : Header) (s : State), commandOf c = some (k, h) →
     (s.Ready h k → ∃ (t : State) (st : Status) (body : List Byte), exec c s = .next (t.answers h k st body) ∧ t.link.replies = s.link.replies ∧
       (st.success = false → t = s ∧ body = [])) ∧
     (s.ReadyAll h k → ∃ t : State, exec c s = .next t ∧ t.link.replies = s.link.replies))

/-! ### Link Interface (spec/11) -/

/-- R196: a reply joins the queue; into an empty queue it is started at once, with the indicators formed, the overrun marker
cleared, and the overflow marker cleared by an OK POLL reply (log 27). R196, R204: when the reply being sent has gone, it
leaves the queue and the next one is started. -/
def Obligations.RepliesAreQueuedAndSentInOrder : Prop :=
  (∀ (s : State) (h : Header) (k : Kind) (st : Status) (body : List Byte),
     let r : Reply := { tag := h.tag, kind := k.code, status := st, body, indicator := none }
     let bits : Byte :=
       (if s.link.notices = [] then 0 else 1) + (if s.link.overflow then 2 else 0) + (if s.link.overrun then 4 else 0)
     (s.link.replies ≠ [] → s.answers h k st body =
       { s with link := { s.link with replies := s.link.replies ++ [r] }, fresh := s.fresh + 1 }) ∧
     (s.link.replies = [] → s.answers h k st body =
       { s with
         link :=
           { s.link with replies := [{ r with indicator := some bits }], overrun := false,
                         overflow := if k = .poll ∧ st = .ok then false else s.link.overflow },
         fresh := s.fresh + 1 })) ∧
  (∀ (s : State) (r : Reply) (rest : List Reply) (i : Byte), s.resetHeld = false → s.link.replies = r :: rest →
     r.indicator = some i →
     let sent : List Byte := [BitVec.ofNat 8 (0x10 + s.link.unitAddress.val), r.tag, r.kind, BitVec.ofNat 8 r.status.code, i,
       BitVec.ofNat 8 r.body.length] ++ r.body
     exec .replySent s =
       .next { s with link := { s.link with replies := rest }.startReply, emitted := s.emitted ++ [.reply (sent ++ crcBytes sent)] })

/-- R197, R198: a posted notice of a silenced class is discarded; below 64 notices it joins as the newest; at 64 or more the newest of
those at the numerically greatest level, the arriving one among them, is lost and the overflow marker is set. -/
def Obligations.PostedNoticesJoinTheQueue : Prop :=
  ∀ (s : State) (cls : NoticeClass) (code subject : Nat) (data : List Byte),
    let n : Notice := { cls, code, subject, rpn := s.refu.rpn, data }
    let level := fun x : Notice => s.link.levels[x.cls.number]
    (level n = 15 → s.post cls code subject data = { s with fresh := s.fresh + 1 }) ∧
    (level n ≠ 15 → s.link.notices.length < 64 → s.post cls code subject data =
      { s with link := { s.link with notices := s.link.notices ++ [n] }, fresh := s.fresh + 1 }) ∧
    (level n ≠ 15 → 64 ≤ s.link.notices.length → ∃ older lost newer, s.link.notices ++ [n] = older ++ lost :: newer ∧
      (∀ x ∈ s.link.notices ++ [n], level x ≤ level lost) ∧ (∀ x ∈ newer, level x < level lost) ∧
      s.post cls code subject data =
        { s with link := { s.link with notices := older ++ newer, overflow := true }, fresh := s.fresh + 1 })

/-- R199: POLL removes up to 8 notices, lowest level first and oldest first within a level, and returns them in that order with their
count; the others stay in their order. ATTN is asserted exactly while the queue holds a notice. -/
def Obligations.PollReturnsTheMostUrgent : Prop :=
  ∀ (s : State) (h : Header), s.Ready h .poll → (∀ n ∈ s.link.notices, s.link.levels[n.cls.number] ≤ 15) →
    let level := fun x : Notice => s.link.levels[x.cls.number]
    ∃ taken left : List Notice, exec (.poll h) s =
        .next ({ s with link := { s.link with notices := left } }.answers h .poll .ok
          (BitVec.ofNat 8 taken.length :: taken.flatMap Notice.bytes)) ∧
      taken.length = min 8 s.link.notices.length ∧ (taken ++ left).Perm s.link.notices ∧ left.Sublist s.link.notices ∧
      taken.Pairwise (fun a b => level a ≤ level b) ∧ (∀ a ∈ taken, ∀ b ∈ left, level a ≤ level b) ∧
      (∀ v, taken.filter (fun n => level n == v) ++ left.filter (fun n => level n == v) =
        s.link.notices.filter fun n => level n == v) ∧
      ∀ u : State, u.attn = true ↔ u.link.notices ≠ []

/-- R195: STATION SET replaces a ceiling and answers with the 16 ceilings; a station above 15, a ceiling above 3, and a command
that would leave no station with ceiling 0 are refused with BAD_FIELD. R200: NOTICE LEVELS replaces all eleven levels, removes
the queued notices of silenced classes, and answers with the levels; a level above 15 is refused and nothing changes. -/
def Obligations.StationsAndNoticeLevelsAreReplaced : Prop :=
  (∀ (s : State) (h : Header) (station ceiling : Nat), s.Ready h .stationSet →
     (∀ st : Fin 16, st.val = station → ceiling ≤ 3 → (∃ o : Fin 16, (s.link.stations.set st ceiling)[o] = 0) →
       exec (.stationSet h station ceiling) s =
         .next ({ s with link := { s.link with stations := s.link.stations.set st ceiling } }.answers h .stationSet .ok
           ((s.link.stations.set st ceiling).toList.map (BitVec.ofNat 8)))) ∧
     ((15 < station ∨ 3 < ceiling ∨ ∃ st : Fin 16, st.val = station ∧ ∀ o : Fin 16, (s.link.stations.set st ceiling)[o] ≠ 0) →
       exec (.stationSet h station ceiling) s = .next (s.answers h .stationSet .badField []))) ∧
  (∀ (s : State) (h : Header) (v : Vector Nat 11), s.Ready h .noticeLevels →
     ((∀ i : Fin 11, v[i] ≤ 15) → exec (.noticeLevels h v.toList) s =
       .next ({ s with
           link := { s.link with levels := v, notices := s.link.notices.filter fun n => decide (v[n.cls.number] ≠ 15) } }.answers
         h .noticeLevels .ok (v.toList.map (BitVec.ofNat 8)))) ∧
     ((∃ i : Fin 11, 15 < v[i]) → exec (.noticeLevels h v.toList) s = .next (s.answers h .noticeLevels .badField [])))

/-- R202 and the reset tables (R43, R44, R72, R94, R102, R103, R133, R167, R168, R169, R182, R203): UNIT RESET empties lanes, clips,
channels, running orders, queues and the export; configuration, references, levels and stations, and the store are kept. Motions on
their way are dropped (log 9), and the empty record's unused bytes are 0 (log 16, log 37). -/
def Obligations.UnitResetGivesTheResetValues : Prop :=
  ∀ (s : State) (h : Header), s.Ready h .unitReset → ∃ t : State, exec (.unitReset h) s = .next (t.answers h .unitReset .ok []) ∧
    (∀ l, t.lane l = { Lane.powerOn with
      signal := (s.lane l).signal, port := if (s.lane l).port = .idle then .idle else .dropping }) ∧
    (∀ n, t.clip n = Clip.free) ∧ (∀ m, t.mark m = { s.mark m with workingClip := 0, counter := 0 }) ∧
    (∀ j, t.jog j = { s.jog j with count := 0, glitch := false, motions := [] }) ∧
    (∀ v, t.lever v = { s.lever v with last := none, skipped := 0, motions := [] }) ∧ t.scanList = [] ∧ t.underWay = none ∧
    (∀ c, t.channel c = Channel.reset) ∧ (∀ c, (t.outPort c).staging = none) ∧ (∀ b e, t.segment b e = Segment.empty) ∧
    (∀ l, t.ingest l = []) ∧ (∀ c, t.fetchOf c = none) ∧ t.xfer.exportRead = none ∧ t.xfer.lastLane = 7 ∧
    t.xfer.lastChannel = 3 ∧ t.xfer.service.map InService.block = s.xfer.service.map InService.block ∧
    t.exporter = Exporter.reset ∧ (∀ k, t.cue k = { s.cue k with active := false, pulse := 0, armed := true }) ∧
    t.link = { s.link with notices := [], overflow := false } ∧ t.refu = s.refu ∧ t.store = s.store ∧
    t.storeEpoch = s.storeEpoch ∧ t.xrdy = s.xrdy ∧ t.resetHeld = s.resetHeld ∧ t.pending = s.pending

/-- R190: what a character does by the receiver's state and its marker bit, while the frame under reception does not complete.
R190, R191, R192: the last character of a frame to this unit, whole and with its CRC, of a known kind and that kind's length,
runs the kind's command on the frame's fields, with the receiver back in HUNT; the command's own checks are those of R192 1,
6, 7. A frame that completes with a length fault, a CRC fault, an unknown kind or another length than its kind's is taken as
FRAME_REFUSED takes it. -/
def Obligations.ReceivedFramesRunTheirCommand : Prop :=
  (∀ (s : State) (d : Byte), s.resetHeld = false →
     let receiving := fun r : Receiver => { s with link := { s.link with receiver := r } }
     ((d.toNat = s.link.unitAddress.val ∨ d = 0x0F) → exec (.linkCharacter true d) s = .next (receiving (.receiving [d]))) ∧
     (d.toNat ≠ s.link.unitAddress.val → d ≠ 0x0F → exec (.linkCharacter true d) s = .next (receiving .skip)) ∧
     (s.link.receiver = .hunt ∨ s.link.receiver = .skip → exec (.linkCharacter false d) s = .next s) ∧
     ∀ chars, s.link.receiver = .receiving chars → ¬(chars.length = 4 ∧ 240 < d.toNat) →
       ¬(4 ≤ chars.length ∧ chars.length + 1 = 7 + ((chars ++ [d]).getD 4 0).toNat) →
       exec (.linkCharacter false d) s = .next (receiving (.receiving (chars ++ [d])))) ∧
  (∀ (s : State) (chars : List Byte) (d : Byte) (k : Kind), s.resetHeld = false → s.link.receiver = .receiving chars →
     let f := chars ++ [d]
     let body := (f.drop 5).take (f.getD 4 0).toNat
     5 ≤ f.length → f.length = 7 + (f.getD 4 0).toNat → f.drop (f.length - 2) = crcBytes (f.take (f.length - 2)) →
     k.code = f.getD 3 0 → body.length = k.bodyLength body →
       exec (.linkCharacter false d) s = exec (decodeBody k (headerOf f) body) { s with link := { s.link with receiver := .hunt } }) ∧
  (∀ (s : State) (chars : List Byte) (d : Byte) (fault : Bool), s.resetHeld = false → s.link.receiver = .receiving chars →
     let f : LinkFrame := { chars := chars ++ [d], lengthFault := fault }
     let kind := kindOf (f.chars.getD 3 0)
     let body := (f.chars.drop 5).take (f.chars.getD 4 0).toNat
     fault = decide (chars.length = 4 ∧ 240 < d.toNat) → wholeFrame f s.link.unitAddress = true →
     (fault = true ∨ crcFault f.chars = true ∨ kind = none ∨ ∃ k, kind = some k ∧ body.length ≠ k.bodyLength body) →
       exec (.linkCharacter false d) s = exec (.frameRefused f) { s with link := { s.link with receiver := .hunt } })

/-- R192 checks 1 to 6, R193: a frame that is not executed is dropped when broadcast; else it is discarded at four queued replies, and
answered by the first fault it has. -/
def Obligations.FaultyFramesAreAnswered : Prop :=
  ∀ (s : State) (f : LinkFrame), s.resetHeld = false → wholeFrame f s.link.unitAddress = true →
    let h := headerOf f.chars
    let kind := f.chars.getD 3 0
    let body := (f.chars.drop 5).take (f.chars.getD 4 0).toNat
    let answer := fun st : Status => Host.Outcome.next (ρ := Refusal) (φ := Fault) (s.queueReply h.tag kind st [])
    (f.lengthFault = true ∨ crcFault f.chars = true ∨ kindOf kind = none ∨
        (∃ k, kindOf kind = some k ∧ (h.broadcast = true ∧ k.broadcast = false ∨ body.length ≠ k.bodyLength body)) →
      (h.broadcast = true → exec (.frameRefused f) s = .next s) ∧
      (h.broadcast = false → 4 ≤ s.link.replies.length →
        exec (.frameRefused f) s = .next { s with link := { s.link with overrun := true } })) ∧
    (h.broadcast = false → s.link.replies.length < 4 →
      (f.lengthFault = true → exec (.frameRefused f) s = answer .badLength) ∧
      (f.lengthFault = false → crcFault f.chars = true → exec (.frameRefused f) s = answer .frameCheck) ∧
      (f.lengthFault = false → crcFault f.chars = false → kindOf kind = none → exec (.frameRefused f) s = answer .badKind) ∧
      ∀ k, f.lengthFault = false → crcFault f.chars = false → kindOf kind = some k →
        (body.length ≠ k.bodyLength body → exec (.frameRefused f) s = answer .badLength) ∧
        (body.length = k.bodyLength body → k.levelZero = true → 0 < s.effective h → exec (.frameRefused f) s = answer .level))

/-! ### Reference Unit (spec/01) -/

/-- R15 and the power-on columns of R43, R44, R72, R94, R102, R103, R133, R136, R168, R169, R182 and R203: what POWER_ON_RESET
gives every block. By the model's choice the straps, mark levels and jog inputs read 0 until the release samples them (log 4),
an absent offset's bytes and the number byte of the empty record are 0 (log 16, log 37), the pictures are black (log 21) and
the ingest ports have no frame (log 25). The frame store's contents, the level at XRDY and what has been sent are not reset
values (log 5, 18, 19). R15, R73, R88, R189, R203: the release of RESET samples the straps and the input levels and starts the
window timer, N after it; everything else stays. -/
def Obligations.ResetPinHoldsAndReleasesThePart : Prop :=
  (∀ s : State, ∃ t : State, exec .powerOnReset s = .next t ∧ t.resetHeld = true ∧
     t.refu = { state := .freeRun, config := { n := 20000, w := 200, f := 25 }, pending := none, interval := 0, expiry := 20000,
                holdover := 0, rpn := 0, timecode := { hh := 0, mm := 0, ss := 0, ff := 0 }, waiting := none } ∧
     (∀ l, t.lane l =
       { state := .off, p := 0, s := 0, k := 0, base := 0, h := 0, signal := false, entries := [], freeSlots := [], held := 0,
         periodBase := 0, arrivals := 0, newestAssigned := none, stopCause := .recStop, accepted := 0, overs := 0,
         overruns := 0, damaged := 0, evicted := 0, port := .idle, unended := [] }) ∧
     (∀ n, t.clip n =
       { state := .free, lane := 0, inLfn := 0, out := none, planned := none, opLock := false, exportLock := false, vl := 3,
         el := 3, label := [], inTc := none, outTc := none, useCount := 0, creationRpn := 0 }) ∧
     (∀ m, t.mark m =
       { action := .none, binding := .channel 0, edge := .falling, holdOff := 4, preRoll := 0, postRoll := 0, vl := 3, el := 3,
         lockOnCreate := false, actingLevel := 3, snapLane := 0, snapDelay := 0, workingClip := 0, counter := 0,
         level := false }) ∧
     (∀ j, t.jog j = { a := false, b := false, count := 0, glitch := false, binding := some j, counts := 4, step := 1,
                       takeover := true, motions := [] }) ∧
     (∀ v, t.lever v =
       { binding := some v, centre := 512, halfWidth := 16, takeover := true,
         curve := [-2048, -1792, -1536, -1280, -1024, -768, -512, -256, 0, 256, 512, 768, 1024, 1280, 1536, 1792, 2048],
         last := none, skipped := 0, motions := [] }) ∧ t.scanList = [] ∧ t.underWay = none ∧
     (∀ c, t.channel c =
       { state := .idle, owner := none, level := 3, source := .none, running := none, hold := false, request := none,
         position := 0, current := 0, target := 0, ramp := 8192, round := .nearest, jogAcc := 0, onAir := none, next := none,
         fetch := none, flags := 0, enables := 0, lastFault := none, saved := none }) ∧
     (∀ c, t.outPort c = { staging := none, picture := .black }) ∧
     (∀ b e, t.segment b e =
       { clip := 0, hasStart := false, start := 0, hasEnd := false, endOffset := 0, speed := 0, action := .stop, number := 0 }) ∧
     (∀ l, t.ingest l = []) ∧ (∀ c, t.fetchOf c = none) ∧ t.xfer.exportRead = none ∧ t.xfer.service = none ∧
     t.xfer.lastLane = 7 ∧ t.xfer.lastChannel = 3 ∧ t.store = [] ∧
     t.exporter = { state := .idle, clip := 0, lane := 0, fromOffset := 0, toOffset := 0, first := 0, last := 0, tag := 0,
                    next := 0, frame := none, abort := false, sent := 0, gaps := 0, gapSent := false, damaged := 0, stall := 0,
                    limit := 100, lastResult := none } ∧
     (∀ k, t.cue k = { mode := .off, channel := 0, compareLfn := 0, direction := .forward, rearm := .once, action := .pulse 1,
                       idleHigh := false, bank := 0, entry := 0, active := false, pulse := 0, armed := true }) ∧
     t.link = { unitAddress := 0, linkRate := 0, receiver := .hunt, replies := [], overrun := false, overflow := false,
                stations := #v[0, 3, 3, 3, 3, 3, 3, 3, 3, 3, 3, 3, 3, 3, 3, 3], levels := #v[1, 1, 3, 4, 4, 5, 5, 6, 6, 7, 15],
                notices := [] }) ∧
  (∀ (s : State) (x : Straps), s.resetHeld = true → ∃ t : State, exec (.resetRelease x) s = .next t ∧ t.resetHeld = false ∧
     t.refu = { s.refu with interval := 0, expiry := s.refu.config.n } ∧
     t.link = { s.link with unitAddress := x.unitAddress, linkRate := x.linkRate } ∧
     (∀ m, t.mark m = { s.mark m with level := x.markLevels.getLsbD m.val }) ∧
     (∀ j, t.jog j = { s.jog j with a := x.jogA.getLsbD j.val, b := x.jogB.getLsbD j.val }) ∧
     { t with resetHeld := s.resetHeld, refu := s.refu, link := s.link, marks := s.marks, jogs := s.jogs } = s)

/-- R1, R4, R5, R6, R9: a pulse less than N − W after the last tick makes no tick; it posts REFERENCE/GLITCH, and in FREE_RUN
moves the expiry to N + W after itself. The event carries the time since what was measured last, and the interval is what that
brings it to (log 6). R2, R3, R4, R5, R9, R10, R14: an on-time pulse makes a tick that leaves LOCKED: the pending
configuration takes force first, the RPN and the timecode go on, the expiry is N + W, REFERENCE/LOCKED is posted from the
other two states, and every block takes the tick. R8: a pulse and the expiry come at one instant. The pulse first ticks into
LOCKED, and the old expiry does not take place; the expiry first ticks, and the pulse, of interval 0, posts REFERENCE/GLITCH
without a tick, with an acquisition restart in FREE_RUN. Each order makes exactly one tick. -/
def Obligations.ReferencePulsesAreEarlyOrOnTime : Prop :=
  (∀ (s : State) (elapsed : Nat) (order : List TickAction), s.resetHeld = false →
     let r := s.refu
     let interval := r.interval + elapsed
     let restart : Bool := r.state == .freeRun
     interval + r.config.w < r.config.n →
     exec (.referencePulse elapsed order) s =
       .next (({ s with
           refu := { r with interval, expiry := if restart then interval + r.config.n + r.config.w else r.expiry } }).post
         .reference 3 0 (leBytes 4 interval ++ leBytes 1 r.state.code ++ flagBytes restart))) ∧
  (∀ (s : State) (elapsed : Nat) (order : List TickAction), s.resetHeld = false →
     let interval := s.refu.interval + elapsed
     s.refu.config.n ≤ interval + s.refu.config.w →
     let c := s.refu.pending.getD s.refu.config
     let ticked : State :=
       { s with
         refu := { state := .locked, config := c, pending := none, interval := 0, expiry := c.n + c.w, holdover := 0,
                   rpn := s.refu.rpn + 1, timecode := s.refu.nextTimecode c.f, waiting := none } }
     exec (.referencePulse elapsed order) s =
       .next (State.blocksTick (match s.refu.state with
         | .locked => ticked
         | .holdover => ticked.post .reference 0 0 (leBytes 4 interval ++ [1])
         | .freeRun => ticked.post .reference 0 0 (leBytes 4 interval ++ [0])) order)) ∧
  (∀ (s : State) (elapsed : Nat) (order order' : List TickAction), s.resetHeld = false → s.refu.sound →
     s.refu.interval + elapsed = s.refu.expiry →
     let late : Expiry := { elapsed := 0, order := order' }
     (∃ t : State, exec (.referencePulse elapsed order) s = .next t ∧ t.refu.state = .locked ∧ t.refu.rpn = s.refu.rpn + 1 ∧
       exec (.windowTimerExpiry late) t = .next t ∧ exec (.holdoverLimit late) t = .next t) ∧
     ∃ t : State, exec (.windowTimerExpiry { elapsed, order }) s = .next t ∧ t.refu.rpn = s.refu.rpn + 1 ∧ t.refu.interval = 0 ∧
       (s.refu.state = .locked → t.refu.state = .holdover) ∧
       let restart : Bool := t.refu.state == .freeRun
       exec (.referencePulse 0 order') t =
         .next (({ t with
             refu := { t.refu with expiry := if restart then t.refu.config.n + t.refu.config.w else t.refu.expiry } }).post
           .reference 3 0 ([0, 0, 0, 0] ++ leBytes 1 t.refu.state.code ++ flagBytes restart)))

/-- R2, R3, R7, R8, R9, R10, R14: an expiry of the window timer makes a tick in every state, with the state, count and notice of R7's
table; the 250th internal tick of a holdover goes to FREE_RUN. HOLDOVER_LIMIT is that case of the expiry (log 10). Before the time of the
timer's one expiry neither makes a tick: that expiry has been replaced, and only time passes (log 6). -/
def Obligations.ExpiriesTickByTheirState : Prop :=
  ∀ (s : State) (elapsed : Nat) (order : List TickAction), s.resetHeld = false →
    let c := s.refu.pending.getD s.refu.config
    let interval := s.refu.interval + elapsed
    let ticked := fun (state : RefState) (holdover : Nat) =>
      { s with
        refu := { state, config := c, pending := none, interval := 0, expiry := c.n, holdover, rpn := s.refu.rpn + 1,
                  timecode := s.refu.nextTimecode c.f, waiting := none } }
    let passed : State := { s with refu := { s.refu with interval } }
    (interval < s.refu.expiry →
      exec (.windowTimerExpiry { elapsed, order }) s = .next passed ∧ exec (.holdoverLimit { elapsed, order }) s = .next passed) ∧
    (s.refu.state ≠ .holdover ∨ s.refu.holdover < 249 → exec (.holdoverLimit { elapsed, order }) s = .next passed) ∧
    (s.refu.expiry ≤ interval →
      (s.refu.state = .locked → exec (.windowTimerExpiry { elapsed, order }) s =
        .next (((ticked .holdover 1).post .reference 1 0 (leBytes 4 s.refu.expiry)).blocksTick order)) ∧
      (s.refu.state = .holdover → s.refu.holdover < 249 → exec (.windowTimerExpiry { elapsed, order }) s =
        .next ((ticked .holdover (s.refu.holdover + 1)).blocksTick order)) ∧
      (s.refu.state = .holdover → 249 ≤ s.refu.holdover →
        exec (.windowTimerExpiry { elapsed, order }) s = .next (((ticked .freeRun 0).post .reference 2 0 []).blocksTick order) ∧
        exec (.holdoverLimit { elapsed, order }) s = .next (((ticked .freeRun 0).post .reference 2 0 []).blocksTick order)) ∧
      (s.refu.state = .freeRun → exec (.windowTimerExpiry { elapsed, order }) s =
        .next ((ticked .freeRun 0).blocksTick order)))

/-- R2: a tick reaches every block once, in the order the tick is given: the actions it lists by their first places in the list, then
those it does not list (log 8). No block's action changes the Reference Unit, the frame store, XRDY or the queue of events. -/
def Obligations.EveryBlockTakesATickOnce : Prop :=
  ∀ (s : State) (order : List TickAction), s.blocksTick order = (tickSchedule order).foldl State.tickAction s ∧
    (∀ a b, order.idxOf a < order.idxOf b → (tickSchedule order).idxOf a < (tickSchedule order).idxOf b) ∧
    (tickSchedule order).Nodup ∧ (∀ l, .lane l ∈ tickSchedule order) ∧ (∀ m, .markLine m ∈ tickSchedule order) ∧
    (∀ j, .jog j ∈ tickSchedule order) ∧ .levers ∈ tickSchedule order ∧ (∀ c, .channel c ∈ tickSchedule order) ∧
    .exporter ∈ tickSchedule order ∧ (∀ k, .cueLine k ∈ tickSchedule order) ∧
    (∀ j, .jogMotion j ∈ tickSchedule order → .jogMotion j ∈ order) ∧ s.Quiet (s.blocksTick order)

/-- R11: a tick loads the waiting time value, with its ff held below F, or steps the timecode with carries at F, 60, 60 and 24.
R12, R13: a valid REF CONFIG becomes the pending configuration and a valid TIME SET the waiting time value, ff against the F
of the next tick; nothing else changes. A value out of range is refused with BAD_FIELD and changes nothing. -/
def Obligations.TimeAndConfigurationMoveAtTheTick : Prop :=
  (∀ (r : Refu) (f : Nat), 0 < f → r.timecode.ss < 60 → r.timecode.mm < 60 → r.timecode.hh < 24 →
     (∀ t, r.waiting = some t → r.nextTimecode f = { t with ff := min t.ff (f - 1) }) ∧
     (r.waiting = none →
       let t := r.timecode
       let ffCarries := f ≤ t.ff + 1
       let ssCarries := ffCarries ∧ t.ss + 1 = 60
       let mmCarries := ssCarries ∧ t.mm + 1 = 60
       (r.nextTimecode f).ff = (if f ≤ t.ff + 1 then 0 else t.ff + 1) ∧
       (ffCarries → (r.nextTimecode f).ss = (t.ss + 1) % 60) ∧ (¬ffCarries → (r.nextTimecode f).ss = t.ss) ∧
       (ssCarries → (r.nextTimecode f).mm = (t.mm + 1) % 60) ∧ (¬ssCarries → (r.nextTimecode f).mm = t.mm) ∧
       (mmCarries → (r.nextTimecode f).hh = (t.hh + 1) % 24) ∧ (¬mmCarries → (r.nextTimecode f).hh = t.hh))) ∧
  (∀ (s : State) (h : Header) (n w f hh mm ss ff : Nat),
     let valid := 10000 ≤ n ∧ n ≤ 50000 ∧ 10 ≤ w ∧ w ≤ 2000 ∧ 4 * w < n ∧ (f = 24 ∨ f = 25 ∨ f = 30 ∨ f = 50 ∨ f = 60)
     let timed := hh ≤ 23 ∧ mm ≤ 59 ∧ ss ≤ 59 ∧ ff < (s.refu.pending.getD s.refu.config).f
     let waiting : State := { s with refu := { s.refu with waiting := some { hh, mm, ss, ff } } }
     (s.Ready h .refConfig →
       (valid → exec (.refConfig h n w f) s =
         .next ({ s with refu := { s.refu with pending := some { n, w, f } } }.answers h .refConfig .ok [])) ∧
       (¬valid → exec (.refConfig h n w f) s = .next (s.answers h .refConfig .badField []))) ∧
     (s.Ready h .timeSet → (timed → exec (.timeSet h hh mm ss ff) s = .next (waiting.answers h .timeSet .ok [])) ∧
       (¬timed → exec (.timeSet h hh mm ss ff) s = .next (s.answers h .timeSet .badField []))) ∧
     (s.ReadyAll h .timeSet → (timed → exec (.timeSet h hh mm ss ff) s = .next waiting) ∧
       (¬timed → exec (.timeSet h hh mm ss ff) s = .next s)))

/-! ### Ingest Lanes and the Frame Index (spec/02) -/

/-- R17, R18: LANE CONFIG with every check passed empties the lane, frees every slot and clears the counters; signal state, stop cause
and the port's frames stay (log 42). With enable on it puts the lane in STOPPED under the new fields, with enable off in OFF with its fields 0, whatever the command's other
fields are. The lane's OPEN and CLOSED clips become ABSENT, with CLIP/ABSENT for each (lane, LFN 0, cause 1), by ascending number
(log 31); no other lane and no other clip changes. The checks are made in their order: the first that fails gives the refusal, and nothing
changes. -/
def Obligations.LaneConfigStartsTheLaneAfresh : Prop :=
  ∀ (s : State) (h : Header) (l : Fin 8) (f : LaneFields), s.Ready h .laneConfig → Sparse.Sorted s.clips →
    let refused := fun st : Status => exec (.laneConfig h f) s = .next (s.answers h .laneConfig st [])
    let valid := f.p ∈ [1, 2, 3, 4, 6, 8] ∧ 1 ≤ f.s ∧ f.s ≤ 128 ∧ f.k % 256 = 0 ∧ 256 ≤ f.k ∧ f.k ≤ 65536 ∧ f.base ≤ 262143 ∧
      f.h ≤ f.k - 16
    let still := (s.lane l).state = .off ∨ (s.lane l).state = .stopped
    let onLane := fun src : Source =>
      src = .lane l ∨ (∃ d, src = .live l d) ∨ ∃ n, src = .clip n ∧ (s.clip n).lane = l
    let inUse := (∃ c, onLane (s.channel c).source ∨ (∃ k, (s.channel c).saved = some k ∧ onLane k.source) ∨
        ∃ r, (s.channel c).fetch = some r ∧ r.lane = l) ∨
      s.exporter.state = .running ∧ s.exporter.lane = l
    let locked := ∃ e ∈ s.clips, e.2.lane = l ∧ (e.2.opLock = true ∨ e.2.exportLock = true)
    let apart := f.base + f.k * f.s ≤ 262144 ∧ ∀ m, m ≠ l → (s.lane m).state ≠ .off →
      f.base + f.k * f.s ≤ (s.lane m).base ∨ (s.lane m).base + (s.lane m).k * (s.lane m).s ≤ f.base
    let places := f.k + (([0, 1, 2, 3, 4, 5, 6, 7] : List (Fin 8)).map fun m =>
      if m = l ∨ (s.lane m).state = .off then 0 else (s.lane m).k).sum
    let g := if f.enable = 1 then f else { f with p := 0, s := 0, k := 0, base := 0, h := 0 }
    (7 < f.lane → refused .badField) ∧
    (f.lane = l.val → f.enable = 1 → ¬valid → refused .badField) ∧
    (f.lane = l.val → (f.enable = 0 ∨ f.enable = 1 ∧ valid) →
      (¬still → refused .busy) ∧ (still → inUse → refused .busy) ∧ (still → ¬inUse → locked → refused .lockedFrames) ∧
      (still → ¬inUse → ¬locked → f.enable = 1 → ¬apart → refused .overlap) ∧
      (still → ¬inUse → ¬locked → f.enable = 1 → apart → 131072 < places → refused .noRoom) ∧
      (still → ¬inUse → ¬locked → (f.enable = 0 ∨ apart ∧ places ≤ 131072) →
        ∃ t : State, exec (.laneConfig h f) s = .next (t.answers h .laneConfig .ok []) ∧
          t.lane l = { s.lane l with
            state := if f.enable = 1 then .stopped else .off, p := g.p, s := g.s, k := g.k, base := g.base, h := g.h,
            entries := [], freeSlots := List.range g.k, held := 0, periodBase := 0, arrivals := 0, newestAssigned := none,
            accepted := 0, overs := 0, overruns := 0, damaged := 0, evicted := 0 } ∧
          (∀ m, m ≠ l → t.lane m = s.lane m) ∧
          (∀ n, t.clip n = if (s.clip n).lane = l ∧ ((s.clip n).state = .opened ∨ (s.clip n).state = .closed)
            then { s.clip n with state := .absent } else s.clip n) ∧
          { t with lanes := s.lanes, clips := s.clips } = s.posts (s.clipNotices 1 fun c =>
            if c.lane = l ∧ (c.state = .opened ∨ c.state = .closed) then some (leBytes 1 l.val ++ [0, 0, 0, 0, 1]) else none)))

/-- R19, R20, R21: REC START makes every named lane that may start RECORDING in a period of its own, and REC STOP takes every named
lane in RECORDING to STOPPING while writes are pending, else to STOPPED with LANE/STOPPED (newest assigned, cause 0), by ascending number
(log 31, log 16); the reply names the named lanes not acted on. -/
def Obligations.RecStartAndStopActOnTheNamedLanes : Prop :=
  ∀ (s : State) (h : Header) (mask : BitVec 8),
    let starts := fun l : Fin 8 => mask.getLsbD l.val = true ∧ ((s.lane l).state = .stopped ∨ (s.lane l).state = .stopping) ∧
      (s.lane l).periodBase + (s.lane l).arrivals + (s.lane l).p - 1 ≤ 4294967295
    let stops := fun l : Fin 8 => mask.getLsbD l.val = true ∧ (s.lane l).state = .recording
    let started := fun t : State =>
      (∀ l, (starts l → t.lane l = { s.lane l with
        state := .recording, periodBase := (s.lane l).periodBase + (s.lane l).arrivals, arrivals := 0 }) ∧
        (¬starts l → t.lane l = s.lane l)) ∧ { t with lanes := s.lanes } = s
    let stopped := fun t : State =>
      (∀ l, (stops l → t.lane l = { s.lane l with
        state := if (s.lane l).writing = 0 then .stopped else .stopping, stopCause := .recStop }) ∧
        (¬stops l → t.lane l = s.lane l)) ∧
      ∃ own : Fin 8 → List Byte, (∀ l, (s.lane l).newestBytes (own l)) ∧
        { t with lanes := s.lanes } = s.posts ((([0, 1, 2, 3, 4, 5, 6, 7] : List (Fin 8)).filter fun l =>
          mask.getLsbD l.val && (s.lane l).state == .recording && (s.lane l).writing == 0).map fun l =>
            (.lane, 2, l.val, (s.lane l).stoppedData (own l) 0))
    (s.Ready h .recStart → ∃ (t : State) (m : BitVec 8), exec (.recStart h mask) s = .next (t.answers h .recStart .ok [m]) ∧
      started t ∧ ∀ l : Fin 8, m.getLsbD l.val = true ↔ mask.getLsbD l.val = true ∧ ¬starts l) ∧
    (s.ReadyAll h .recStart → ∃ t : State, exec (.recStart h mask) s = .next t ∧ started t) ∧
    (s.Ready h .recStop → ∃ (t : State) (m : BitVec 8), exec (.recStop h mask) s = .next (t.answers h .recStop .ok [m]) ∧
      stopped t ∧ ∀ l : Fin 8, m.getLsbD l.val = true ↔ mask.getLsbD l.val = true ∧ ¬stops l) ∧
    (s.ReadyAll h .recStop → ∃ t : State, exec (.recStop h mask) s = .next t ∧ stopped t)

/-- R23, R37, R42: a tick begins a RECORDING lane's next period while its LFNs last; a lane whose LFNs run out stops itself, with
LANE/STOPPED (newest assigned, cause 1) where no write is pending, and LANE/LFN_EXHAUSTED (period base). Each OPEN clip of the lane whose
planned out is now below the period base closes there, at the exhausted tick too (log 22), with CLIP/CLOSED (lane, out), by ascending
number and before the notices of the stop (log 31). A lane in STOPPING, STOPPED or OFF does nothing, and closes no clip (log 22). -/
def Obligations.TicksBeginALanesNextPeriod : Prop :=
  ∀ (s : State) (l : Fin 8), Sparse.Sorted s.clips →
    let x := s.lane l
    let t := s.tickAction (.lane l)
    let closed := fun (base : Nat) (c : Clip) => match c.planned with
      | none => c
      | some q => if c.lane = l ∧ c.state = .opened ∧ q < base
        then { c with state := .closed, out := some q, planned := none, outTc := s.entryTimecode l q } else c
    let closes := fun base : Nat => s.clipNotices 0 fun c => c.planned.bind fun q =>
      if c.lane = l ∧ c.state = .opened ∧ q < base then some (leBytes 1 l.val ++ lfnBytes q) else none
    (x.state ≠ .recording → t = s) ∧
    (x.state = .recording → 1 ≤ x.p → x.periodBase + 2 * x.p - 1 ≤ 4294967295 →
      t.lane l = { x with periodBase := x.periodBase + x.p, arrivals := 0 } ∧
      (∀ n, t.clip n = closed (x.periodBase + x.p) (s.clip n)) ∧ (∀ m, m ≠ l → t.lane m = s.lane m) ∧
      { t with lanes := s.lanes, clips := s.clips } = s.posts (closes (x.periodBase + x.p))) ∧
    (x.state = .recording → 1 ≤ x.p → 4294967295 < x.periodBase + 2 * x.p - 1 →
      t.lane l = { x with state := if x.writing = 0 then .stopped else .stopping, stopCause := .exhaustion } ∧
      (∀ n, t.clip n = closed x.periodBase (s.clip n)) ∧ (∀ m, m ≠ l → t.lane m = s.lane m) ∧
      ∃ own, x.newestBytes own ∧ { t with lanes := s.lanes, clips := s.clips } = s.posts (closes x.periodBase ++
        (if x.writing = 0 then [(.lane, 2, l.val, x.stoppedData own 1)] else []) ++ [(.lane, 3, l.val, lfnBytes x.periodBase)]))

/-- R24 step 1, R25, R39: an arrival at a lane not RECORDING is told DISCARD and changes nothing else; so is one beyond the P-th
of a period, with OVER counted and CADENCE/OVER posted. The port goes on to the new frame, and a taken frame before it may
still end (log 25). R24, R27, R36, R37, R39: an arrival with a number takes it as newest assigned. With two writes pending it
is lost, OVERRUN counted, CADENCE/OVERRUN posted and the port told DISCARD. Else its entry is appended in WRITING at the
lowest free slot, after an eviction when none is free; locked clips that cover it hold it below the ceiling, and at the
ceiling close at the LFN assigned before it with CLIP/LOCK_LIMIT (lane, new out, LFN); the write is handed over, and the port
told TAKE. Either way each OPEN clip whose planned out is reached closes there, with CLIP/CLOSED (lane, out). The notices of
several clips come in ascending number (log 31). A lane that can free no slot discards the frame (log 30). -/
def Obligations.ArrivalsAreRecordedOrDiscarded : Prop :=
  (∀ (s : State) (l : Fin 8), s.resetHeld = false →
     let x := s.lane l
     let told := fun t : State => { t with emitted := t.emitted ++ [.discard l] }
     (x.state ≠ .recording → exec (.frameArrival l) s =
       .next (told (s.setLane l { x with port := .dropping, unended := x.passed }))) ∧
     (x.state = .recording → x.arrivals = x.p → exec (.frameArrival l) s =
       .next (told ((s.setLane l { x with overs := x.overs + 1, port := .dropping, unended := x.passed }).post .cadence 0 l.val
         (lfnBytes x.periodBase ++ leBytes 1 x.p))))) ∧
  (∀ (s : State) (l : Fin 8), s.resetHeld = false → (s.lane l).state = .recording → (s.lane l).arrivals ≠ (s.lane l).p →
     let x := s.lane l
     let lfn := x.periodBase + x.arrivals
     let before := x.newestAssigned.getD 0
     let told := fun (t : State) (port : PortFrame) (e : Emission) =>
       { t.setLane l { t.lane l with port, unended := x.passed } with emitted := t.emitted ++ [e] }
     let s1 := s.setLane l { x with arrivals := x.arrivals + 1, newestAssigned := some lfn }
     let s2 := s1.makeRoom l
     let y := s2.lane l
     let closed := fun (t : State) (c : Clip) (out : Nat) =>
       { c with state := .closed, out := some out, planned := none, outTc := t.entryTimecode l out }
     let reached := fun (t : State) (c : Clip) => match c.planned with
       | none => c
       | some q => if c.lane = l ∧ c.state = .opened ∧ q ≤ lfn then closed t c q else c
     let closes := fun (u : State) (stays : Clip → Bool) => u.clipNotices 0 fun c => c.planned.bind fun q =>
       if c.lane = l ∧ c.state = .opened ∧ q ≤ lfn ∧ stays c = true then some (leBytes 1 l.val ++ lfnBytes q) else none
     (2 ≤ x.writing →
       let lost := (s1.setLane l { s1.lane l with overruns := x.overruns + 1 }).post .cadence 1 l.val (lfnBytes lfn)
       let t := told (lost.closePlanned l lfn) .dropping (.discard l)
       exec (.frameArrival l) s = .next t ∧
       t.lane l = { x with arrivals := x.arrivals + 1, newestAssigned := some lfn, overruns := x.overruns + 1,
                           port := .dropping, unended := x.passed } ∧
       t.emitted = s.emitted ++ [.discard l] ∧ (Sparse.Sorted s.clips → ∀ n, t.clip n = reached t (s.clip n)) ∧
       (∀ m, m ≠ l → t.lane m = s.lane m) ∧ s.link.OnlyPosts t.link ∧
       { t with lanes := s.lanes, clips := s.clips, link := s.link, emitted := s.emitted, fresh := s.fresh } = s ∧
       (Sparse.Sorted s.clips → { t with lanes := s.lanes, clips := s.clips, emitted := s.emitted } =
         s.posts ((.cadence, 1, l.val, lfnBytes lfn) :: closes s fun _ => true))) ∧
     (x.writing < 2 → y.freeSlots = [] →
       exec (.frameArrival l) s = .next (told (s2.closePlanned l lfn) .dropping (.discard l)) ∧
       (Sparse.Sorted s.clips → { s2.closePlanned l lfn with clips := s2.clips } = s2.posts (closes s2 fun _ => true))) ∧
     (x.writing < 2 → ∀ j rest, y.freeSlots = j :: rest →
       let covering := s2.lockedAt l lfn
       let appended := s2.setLane l { y with
         entries := y.entries ++
           [{ lfn, slot := j, status := .writing, rpn := s.refu.rpn, timecode := s.refu.timecode, phase := x.arrivals,
              readCount := 0 }],
         freeSlots := rest, accepted := x.accepted + 1,
         held := if covering ≠ [] ∧ x.held < x.h then x.held + 1 else x.held }
       let ceiled := if x.h ≤ x.held then covering.foldl (fun u n => u.closeAtCeiling l before lfn n) appended else appended
       let done := ceiled.closePlanned l lfn
       let t := told (done.setIngest l (s.ingest l ++
         [{ lfn, slot := j, firstBlock := x.base + j * x.s, size := x.s, granted := 0, done := 0, waiting := [],
            ended := false }])) (.taking lfn 0) (.take l lfn)
       exec (.frameArrival l) s = .next t ∧
       t.lane l = { appended.lane l with port := .taking lfn 0, unended := x.passed } ∧
       (∀ n, n ∈ covering ↔ ∃ c, (n, c) ∈ s2.clips ∧ c.lane = l ∧ c.locked = true ∧ c.covers lfn = true) ∧
       t.emitted = s.emitted ++ [.take l lfn] ∧
       (Sparse.Sorted s.clips → ∀ n, t.clip n =
         if (s2.clip n).lane = l ∧ (s2.clip n).locked = true ∧ (s2.clip n).covers lfn = true ∧ x.h ≤ x.held
         then closed t (s2.clip n) before else reached t (s2.clip n)) ∧
       (∀ m, m ≠ l → t.lane m = s.lane m ∧ t.ingest m = s.ingest m) ∧ s.link.OnlyPosts t.link ∧
       { t with lanes := s.lanes, clips := s.clips, xfer := s.xfer, link := s.link, emitted := s.emitted,
                fresh := s.fresh } = s ∧
       (Sparse.Sorted s.clips →
         let ceils := fun c : Clip => decide (x.h ≤ x.held) && c.locked && c.covers lfn
         { t with lanes := s2.lanes, clips := s2.clips, xfer := s2.xfer, emitted := s2.emitted } = s2.posts (
           (s2.clipNotices 2 fun c =>
             if c.lane = l ∧ ceils c = true then some (leBytes 1 l.val ++ lfnBytes before ++ lfnBytes lfn) else none) ++
           closes s2 fun c => !ceils c))))

/-- R28, R29, R38: with a free slot nothing is evicted; else the oldest entry that is GOOD, unclaimed and in no locked clip's range
goes, EVICTED counts it, and each unlocked OPEN or CLOSED clip of the lane that covers it becomes ABSENT, with CLIP/ABSENT (lane, LFN,
cause 0), by ascending number (log 31). -/
def Obligations.EvictionTakesTheOldestUnprotected : Prop :=
  ∀ (s : State) (l : Fin 8), Sparse.Sorted s.clips → (s.lane l).sound →
    let x := s.lane l
    let protects := fun e : Entry => e.status = .writing ∨ e.readCount ≠ 0 ∨
      ∃ c ∈ s.clips, c.2.locked = true ∧ c.2.lane = l ∧ c.2.covers e.lfn = true
    (x.freeSlots ≠ [] → s.makeRoom l = s) ∧
    (x.freeSlots = [] → ∀ older e newer, x.entries = older ++ e :: newer → (∀ y ∈ older, protects y) → ¬protects e →
      (s.makeRoom l).lane l = { x with entries := older ++ newer, freeSlots := [e.slot], evicted := x.evicted + 1 } ∧
      (∀ n, (s.makeRoom l).clip n =
        if (s.clip n).lane = l ∧ (s.clip n).locked = false ∧ ((s.clip n).state = .opened ∨ (s.clip n).state = .closed) ∧
          (s.clip n).covers e.lfn = true then { s.clip n with state := .absent } else s.clip n) ∧
      (∀ m, m ≠ l → (s.makeRoom l).lane m = s.lane m) ∧
      { s.makeRoom l with lanes := s.lanes, clips := s.clips } = s.posts (s.clipNotices 1 fun c =>
        if c.lane = l ∧ c.locked = false ∧ (c.state = .opened ∨ c.state = .closed) ∧ c.covers e.lfn = true
        then some (leBytes 1 l.val ++ lfnBytes e.lfn ++ [0]) else none))

/-- R34, R35: admission of a range counts the entries in it that no locked clip covers; above H it is refused with nothing changed, else
the held count rises by them. A release lowers it by the entries that no locked clip covers any more. -/
def Obligations.TheHeldCountFollowsLocks : Prop :=
  ∀ (s : State) (l : Fin 8) (r : LfnRange),
    let x := s.lane l
    let n := (x.entries.filter fun e => decide (r.lo ≤ e.lfn ∧ ∀ hi, r.hi = some hi → e.lfn ≤ hi) &&
      !(s.clips.any fun c => c.2.locked && c.2.lane == l && c.2.covers e.lfn)).length
    (x.h < x.held + n → s.admitLock l r = none) ∧
    (x.held + n ≤ x.h → s.admitLock l r = some (s.setLane l { x with held := x.held + n })) ∧
    s.release l r = s.setLane l { x with held := x.held - n }

/-- R22, R31, R42: a change of a lane's signal sets its signal state and, unless the lane is OFF, posts LANE/SIGNAL_LOST or
LANE/SIGNAL_BACK with the lane state; a loss first ends the frame under delivery as damaged (log 26). A report of the present
state changes nothing. R31, R157, R159: damage of a taken frame, under delivery or ended after the port has gone on (log 25),
removes its entry, frees its slot, lowers the held count if the entry was held, counts DAMAGED, cancels the write, with the
port told to drop that frame's blocks by its LFN (log 45), and leaves newest assigned; CADENCE/DAMAGED (LFN, slot) is posted.
A STOPPING lane without further writes is STOPPED, with LANE/STOPPED (newest assigned, the stop's cause; log 16). -/
def Obligations.SignalAndDamageAreTakenByTheLane : Prop :=
  (∀ (s : State) (l : Fin 8), s.resetHeld = false →
     let reported := fun (t : State) (present : Bool) (code : Nat) =>
       let u := t.setLane l { t.lane l with signal := present }
       if (t.lane l).state = .off then u else u.post .lane code l.val (leBytes 1 (t.lane l).state.code)
     ((s.lane l).signal = false → exec (.signalChange l true) s = .next (reported s true 1)) ∧
     ((s.lane l).signal = true → exec (.signalChange l false) s = .next (reported (s.endDamaged l none) false 0)) ∧
     exec (.signalChange l (s.lane l).signal) s = .next s) ∧
  (∀ (s : State) (l : Fin 8) (frame : Option Nat) (lfn n : Nat) (port : PortFrame) (unended : List TakenFrame) (fault : Bool)
       (older newer : List Entry) (e : Entry), s.resetHeld = false → (s.lane l).sound →
     (s.lane l).ends frame lfn n port unended → (fault = true ∨ n ≠ (s.lane l).s) →
     (s.lane l).entries = older ++ e :: newer → e.lfn = lfn → e.status = .writing →
     let x := s.lane l
     let heldBefore := s.clips.any fun c => c.2.locked && c.2.lane == l && c.2.covers lfn
     let last : Bool := decide (∀ y ∈ older ++ newer, y.status ≠ .writing)
     ∃ t : State, exec (.frameEnd l { frame, streamFault := fault }) s = .next t ∧
       t.lane l = { x with
         entries := older ++ newer, freeSlots := insertSlot x.freeSlots e.slot,
         held := if heldBefore then x.held - 1 else x.held, damaged := x.damaged + 1, port, unended,
         state := if x.state = .stopping ∧ last then .stopped else x.state } ∧
       t.ingest l = (s.ingest l).filter (fun w => w.lfn != lfn) ∧ t.emitted = s.emitted ++ [.dropBlocks l (some lfn)] ∧
       (∀ m, m ≠ l → t.lane m = s.lane m ∧ t.ingest m = s.ingest m) ∧
       ∃ own, x.newestBytes own ∧ { t with lanes := s.lanes, xfer := s.xfer, emitted := s.emitted } = s.posts (
         (.cadence, 2, l.val, lfnBytes lfn ++ leBytes 2 e.slot) ::
           if x.state = .stopping ∧ last then [(.lane, 2, l.val, x.stoppedData own (if x.stopCause = .recStop then 0 else 1))] else []))

/-! ### The Clip Table (spec/03) -/

/-- R50, R54, R55, R56: CLIP MARK IN on a FREE clip, or on clip 0 for the lowest FREE one, makes an OPEN clip from a valid point,
with levels that the requester may set. With the newest GOOD as source, here and below, the field for an LFN or channel is not
checked (log 35). R54, R55, R57, R58, R59, R46: CLIP MARK on an unlocked clip of the point's lane, by a requester with the
edit right, gives the points of the rules' tables, with the timecodes taken anew. R46: a record's timecode at a point is the
arrival timecode of the lane's entry there, of any status, and absent without one. -/
def Obligations.ClipMarkCreatesOrMovesPoints : Prop :=
  (∀ (s : State) (h : Header) (f : MarkFields) (l : Fin 8) (lfn n : Nat), s.Ready h .clipMark → f.point = 0 → s.names f l lfn →
     (s.lane l).admitsIn lfn → s.effective h ≤ f.el → f.el ≤ f.vl → f.vl ≤ 3 → 1 ≤ n → n ≤ 1023 → (s.clip n).state = .free →
     (f.clip = n ∨ f.clip = 0 ∧ ∀ m, 1 ≤ m → m < n → (s.clip m).state ≠ .free) →
     ∃ t : State, exec (.clipMark h f) s =
         .next (t.answers h .clipMark .ok
           (leBytes 2 n ++ [1] ++ lfnBytes lfn ++ optBytes t.fresh 0 4 none ++ [0])) ∧
       t.clip n = { state := .opened, lane := l, inLfn := lfn, out := none, planned := none, opLock := false, exportLock := false,
                    vl := f.vl, el := f.el, label := [], inTc := s.entryTimecode l lfn, outTc := none, useCount := 0,
                    creationRpn := s.refu.rpn } ∧
       (∀ m, m ≠ n → t.clip m = s.clip m) ∧ { t with clips := s.clips } = s) ∧
  (∀ (s : State) (h : Header) (f : MarkFields) (l : Fin 8) (lfn newest : Nat) (c' : Clip) (swapped : Bool),
     s.Ready h .clipMark → s.names f l lfn → 1 ≤ f.clip → f.clip ≤ 1023 → f.point ≤ 1 →
     let c := s.clip f.clip
     c.state ≠ .free → s.effective h ≤ c.el → c.opLock = false → c.exportLock = false → c.lane = l →
     (s.lane l).newestAssigned = some newest →
     (if f.point = 0 then (s.lane l).admitsIn lfn else (s.lane l).admitsOut lfn) →
     c.marked newest f.point lfn c' swapped →
     ∃ t : State, exec (.clipMark h f) s =
         .next (t.answers h .clipMark .ok
           (leBytes 2 f.clip ++ leBytes 1 c'.state.code ++ lfnBytes c'.inLfn ++
             optBytes t.fresh 0 4 ((c'.out <|> c'.planned).map lfnBytes) ++ flagBytes swapped)) ∧
       t.clip f.clip = { c' with inTc := s.entryTimecode l c'.inLfn, outTc := c'.out.bind (s.entryTimecode l) } ∧
       (∀ m, m ≠ f.clip → t.clip m = s.clip m) ∧ { t with clips := s.clips } = s) ∧
  (∀ (s : State) (l : Fin 8) (lfn : Nat),
     ((s.lane l).sound → ∀ e ∈ (s.lane l).entries, e.lfn = lfn → s.entryTimecode l lfn = some e.timecode) ∧
     ((∀ e ∈ (s.lane l).entries, e.lfn ≠ lfn) → s.entryTimecode l lfn = none))

/-- R46, R55, R56, R60: CLIP SPAN sets both points, swapped when they cross: CLOSED when the out is at or below newest assigned, OPEN with
that planned out otherwise; on a FREE clip or clip 0 it creates the record, on an unlocked clip of the lane it keeps the rest,
and VL and EL are not checked (log 35). -/
def Obligations.ClipSpanSetsBothPoints : Prop :=
  ∀ (s : State) (h : Header) (f : SpanFields) (l : Fin 8) (n newest : Nat), s.Ready h .clipSpan → f.lane = l.val →
    f.inLfn ≤ 4294967295 → f.outLfn ≤ 4294967295 → (s.lane l).newestAssigned = some newest → (s.lane l).admitsIn f.inLfn →
    (s.lane l).admitsOut f.outLfn → 1 ≤ n → n ≤ 1023 →
    let c := s.clip n
    let created := c.state = .free ∧ s.effective h ≤ f.el ∧ f.el ≤ f.vl ∧ f.vl ≤ 3 ∧
      (f.clip = n ∨ f.clip = 0 ∧ ∀ m, 1 ≤ m → m < n → (s.clip m).state ≠ .free)
    let changed := c.state ≠ .free ∧ f.clip = n ∧ s.effective h ≤ c.el ∧ c.opLock = false ∧ c.exportLock = false ∧ c.lane = l
    let lo := min f.inLfn f.outLfn
    let hi := max f.inLfn f.outLfn
    let spanned := fun b : Clip =>
      if hi ≤ newest then
        { b with state := .closed, inLfn := lo, out := some hi, planned := none, inTc := s.entryTimecode l lo,
                 outTc := s.entryTimecode l hi }
      else { b with state := .opened, inLfn := lo, out := none, planned := some hi, inTc := s.entryTimecode l lo, outTc := none }
    created ∨ changed →
    ∃ t : State, exec (.clipSpan h f) s =
        .next (t.answers h .clipSpan .ok (leBytes 2 n ++ [if hi ≤ newest then 2 else 1] ++ lfnBytes lo ++ [1] ++ lfnBytes hi ++
          flagBytes (decide (f.outLfn < f.inLfn)))) ∧
      (created → t.clip n = spanned { Clip.free with lane := l, vl := f.vl, el := f.el, creationRpn := s.refu.rpn }) ∧
      (changed → t.clip n = spanned c) ∧ (∀ m, m ≠ n → t.clip m = s.clip m) ∧ { t with clips := s.clips } = s

/-- R62, R63, R64: CLIP LOCK sets the operator lock, with lock admission when the clip has neither flag, LOCK_BUDGET when the lane
refuses, and the lane's held count in the reply; CLIP UNLOCK clears it, with a release when it was the last flag. -/
def Obligations.ClipLockAndUnlock : Prop :=
  ∀ (s : State) (h : Header) (n : Nat), 1 ≤ n → n ≤ 1023 →
    let c := s.clip n
    c.state ≠ .free → s.effective h ≤ c.el →
    let held := fun t : State => leBytes 2 (t.lane c.lane).held
    let lock := fun t : State => t.setClip n { c with opLock := true }
    let unlocked := s.setClip n { c with opLock := false }
    (s.Ready h .clipLock → c.state ≠ .absent →
      (c.opLock = true → exec (.clipLock h n) s = .next (s.answers h .clipLock .ok (held s))) ∧
      (c.opLock = false → c.exportLock = true →
        exec (.clipLock h n) s = .next ((lock s).answers h .clipLock .ok (held s))) ∧
      (c.opLock = false → c.exportLock = false → ∀ r, c.range = some r →
        (s.admitLock c.lane r = none → exec (.clipLock h n) s = .next (s.answers h .clipLock .lockBudget [])) ∧
        ∀ t, s.admitLock c.lane r = some t → exec (.clipLock h n) s = .next ((lock t).answers h .clipLock .ok (held t)))) ∧
    (s.Ready h .clipUnlock →
      (c.opLock = false →
        exec (.clipUnlock h n) s = .next (s.answers h .clipUnlock .ok [0, if c.exportLock then 1 else 0])) ∧
      (c.opLock = true → c.exportLock = true → exec (.clipUnlock h n) s = .next (unlocked.answers h .clipUnlock .ok [0, 1])) ∧
      (c.opLock = true → c.exportLock = false → ∀ r, c.range = some r →
        exec (.clipUnlock h n) s = .next ((unlocked.release c.lane r).answers h .clipUnlock .ok [0, 0])))

/-- R51, R67, R68: with the edit right, CLIP DELETE of an unlocked clip in no use makes the record FREE and clears it from the mark
lines; CLIP RIGHTS replaces the levels within R50; CLIP LABEL replaces the label. Nothing else changes. -/
def Obligations.ClipDeleteRightsAndLabel : Prop :=
  ∀ (s : State) (h : Header) (n vl el : Nat) (text : List Byte), 1 ≤ n → n ≤ 1023 →
    let c := s.clip n
    c.state ≠ .free → s.effective h ≤ c.el →
    (s.Ready h .clipDelete → c.opLock = false → c.exportLock = false → c.useCount = 0 → ∃ t : State,
      exec (.clipDelete h n) s = .next (t.answers h .clipDelete .ok []) ∧ t.clip n = Clip.free ∧
      (∀ m, m ≠ n → t.clip m = s.clip m) ∧
      (∀ m, t.mark m = { s.mark m with workingClip := if (s.mark m).workingClip = n then 0 else (s.mark m).workingClip }) ∧
      { t with clips := s.clips, marks := s.marks } = s) ∧
    (s.Ready h .clipRights → vl ≤ 3 → s.effective h ≤ el → el ≤ vl →
      exec (.clipRights h n vl el) s =
        .next ((s.setClip n { c with vl, el }).answers h .clipRights .ok [BitVec.ofNat 8 vl, BitVec.ofNat 8 el])) ∧
    (s.Ready h .clipLabel → text.length ≤ 16 → (∀ b ∈ text, 0x20 ≤ b.toNat ∧ b.toNat ≤ 0x7E) →
      exec (.clipLabel h n text.length text) s = .next ((s.setClip n { c with label := text }).answers h .clipLabel .ok []))

/-- R52, R69, R70: CLIP NEXT answers with the lowest number above its own that is not FREE, else 0 and FREE; RIGHTS PROBE with the
record's state and levels and what the asking level may do; CLIP READ, with the view right, with the record in the layout of log 24 (absent
fields' bytes free, log 16); of a FREE clip it is refused with CLIP_FREE, without the view right with RIGHTS. A number outside the
table, and clip 0 for CLIP READ and RIGHTS PROBE, is refused with BAD_FIELD. None changes anything. -/
def Obligations.ClipEnumerationReadsTheTable : Prop :=
  ∀ (s : State) (h : Header) (n : Nat), s.clipsSound → n ≤ 1023 →
    let c := s.clip n
    (s.Ready h .clipNext →
      (∀ m, n < m → (s.clip m).state ≠ .free → (∀ k, n < k → k < m → (s.clip k).state = .free) →
        exec (.clipNext h n) s = .next (s.answers h .clipNext .ok (leBytes 2 m ++ leBytes 1 (s.clip m).state.code))) ∧
      ((∀ k, n < k → (s.clip k).state = .free) → exec (.clipNext h n) s = .next (s.answers h .clipNext .ok [0, 0, 0]))) ∧
    (s.Ready h .rightsProbe → 1 ≤ n →
      (c.state = .free → exec (.rightsProbe h n) s = .next (s.answers h .rightsProbe .ok [0, 0, 3, 3, 0, 0])) ∧
      (c.state ≠ .free → exec (.rightsProbe h n) s =
        .next (s.answers h .rightsProbe .ok ([1] ++ leBytes 1 c.state.code ++ leBytes 1 c.vl ++ leBytes 1 c.el ++
          flagBytes (decide (s.effective h ≤ c.vl)) ++ flagBytes (decide (s.effective h ≤ c.el)))))) ∧
    (s.Ready h .clipRead → 1 ≤ n →
      (c.state = .free → exec (.clipRead h n) s = .next (s.answers h .clipRead .clipFree [])) ∧
      (c.state ≠ .free → c.vl < s.effective h → exec (.clipRead h n) s = .next (s.answers h .clipRead .rights [])) ∧
      (c.state ≠ .free → s.effective h ≤ c.vl →
        exec (.clipRead h n) s = .next (s.answers h .clipRead .ok (c.bytes s.fresh)))) ∧
    ∀ k, 1023 < k →
      (s.Ready h .clipNext → exec (.clipNext h k) s = .next (s.answers h .clipNext .badField [])) ∧
      (s.Ready h .rightsProbe → exec (.rightsProbe h k) s = .next (s.answers h .rightsProbe .badField []) ∧
        exec (.rightsProbe h 0) s = .next (s.answers h .rightsProbe .badField [])) ∧
      (s.Ready h .clipRead → exec (.clipRead h k) s = .next (s.answers h .clipRead .badField []) ∧
        exec (.clipRead h 0) s = .next (s.answers h .clipRead .badField []))

/-! ### Mark Lines (spec/04) -/

/-- R71, R77: a valid LINE CONFIG replaces the line's whole configuration, clears its hold-off counter, and gives it the working
clip that the other lines of its new binding hold, or none; the reply names it. Nothing else changes. The binding number that
the binding kind does not use is not checked (log 35). R73, R74: an edge is taken when it is the active one, the action is not
NONE and the counter is 0: the counter loads the hold-off and the action runs; any other edge changes the level alone. A tick
counts a counter down, to 0 at HOLD_OFF_END (log 10). -/
def Obligations.MarkLinesAreConfiguredAndTakeEdges : Prop :=
  (∀ (s : State) (h : Header) (f : LineFields) (m : Fin 8) (action : LineAction) (b : LineBinding) (edge : Edge) (lane : Fin 8)
     (w : Nat), s.Ready h .lineConfig → f.line = m.val → f.action = action.code →
     (∀ c, b = .channel c → f.bindKind = 0 ∧ f.bindChannel = c.val) →
     (∀ l, b = .lane l → f.bindKind = 1 ∧ f.bindLane = l.val ∧ action ≠ .continuePlay ∧ action ≠ .snapLive ∧ action ≠ .resume) →
     (edge = .rising → f.edge = 0) → (edge = .falling → f.edge = 1) → f.holdOff ≤ 15 → f.preRoll ≤ 65535 →
     f.postRoll ≤ 65535 → f.vl ≤ 3 → f.el ≤ f.vl → f.lockOnCreate ≤ 1 → f.actingLevel ≤ 3 → f.snapLane = lane.val →
     f.snapDelay ≤ 65535 → (∀ k, k ≠ m → (s.mark k).binding = b → (s.mark k).workingClip = w) →
     ((∀ k, k ≠ m → (s.mark k).binding ≠ b) → w = 0) →
     exec (.lineConfig h f) s =
       .next ((s.setMark m
         { action, binding := b, edge, holdOff := f.holdOff, preRoll := f.preRoll, postRoll := f.postRoll, vl := f.vl,
           el := f.el, lockOnCreate := f.lockOnCreate == 1, actingLevel := f.actingLevel, snapLane := lane,
           snapDelay := f.snapDelay, workingClip := w, counter := 0, level := (s.mark m).level }).answers
         h .lineConfig .ok (leBytes 2 w))) ∧
  (∀ (s : State) (m : Fin 8) (level : Bool), s.resetHeld = false →
     let x := s.mark m
     let active := (x.edge = .rising ∧ level = true) ∨ (x.edge = .falling ∧ level = false)
     (x.level = level → exec (.markEdge m level) s = .next s) ∧
     (x.level ≠ level → ¬(active ∧ x.action ≠ .none ∧ x.counter = 0) →
       exec (.markEdge m level) s = .next (s.setMark m { x with level })) ∧
     (x.level ≠ level → active → x.action ≠ .none → x.counter = 0 →
       exec (.markEdge m level) s = .next ((s.setMark m { x with level, counter := x.holdOff }).lineAction m)) ∧
     (x.counter = 1 → exec (.holdOffEnd m) s = .next (s.setMark m { x with counter := 0 })) ∧
     (0 < x.counter → s.tickAction (.markLine m) = s.setMark m { x with counter := x.counter - 1 }) ∧
     (x.counter = 0 → s.tickAction (.markLine m) = s))

/-- R76, R79, R80, R82, R86: a mark action whose checks pass. MARK_IN makes a new clip, or moves the in of the group's OPEN clip
on the capture lane; MARK_OUT closes that clip, the points swapped when they cross, and the group has no working clip;
MARK_SNAP makes a clip around the frame. MARK/TAKEN says what was done. The locks are those of the next statement. R46, R81,
R83: a clip made by a line has its timecodes taken, and with lock-on-create asks for admission of its range: locked, or left
unlocked when the lane refuses. New points on a locked working clip release the old range and ask for the new one. -/
def Obligations.MarkActionsMarkAndLock : Prop :=
  (∀ (s : State) (m l : Fin 8) (lfn newest n : Nat),
     let x := s.mark m
     let lane := s.lane l
     let w := s.clip x.workingClip
     let usable := x.workingClip ≠ 0 ∧ w.state = .opened
     let acting := match x.binding with
       | .lane _ => x.actingLevel
       | .channel c => match (s.channel c).owner with
         | some _ => (s.channel c).level
         | none => 3
     let lowest := (s.clip n).state = .free ∧ 1 ≤ n ∧ n ≤ 1023 ∧ ∀ k, 1 ≤ k → k < n → (s.clip k).state ≠ .free
     let fresh : Clip := { Clip.free with state := .opened, lane := l, inLfn := lfn, vl := x.vl, el := x.el,
                                          creationRpn := s.refu.rpn }
     let taken := fun (t : State) (clip point : Nat) (o : LockOutcome) (swapped : Bool) =>
       t.post .mark 0 m.val (leBytes 2 clip ++ leBytes 1 point ++ lfnBytes lfn ++ leBytes 1
         ((match o with
           | .noLock => 0
           | .locked => 2
           | .budget => 4) + if swapped then 1 else 0))
     let a := max (lane.floor.getD 0) (lfn - x.preRoll)
     let b := min 4294967295 (lfn + x.postRoll)
     let snapped : Clip :=
       if b ≤ newest then { fresh with state := .closed, inLfn := a, out := some b }
       else { fresh with inLfn := a, planned := some b }
     ((∃ c f, x.binding = .channel c ∧ (s.channel c).onAir = some f ∧ f.lane = l ∧ f.lfn = lfn ∧ lane.entries ≠ []) ∨
       x.binding = .lane l ∧ lane.newestGood = some lfn) → lane.newestAssigned = some newest →
     (x.action = .markIn → ¬(usable ∧ w.lane = l) → acting ≤ x.el → lane.admitsIn lfn → lowest →
       let r := s.createByLine n fresh x.lockOnCreate
       s.lineAction m = taken (r.1.setWorking x.binding n) n 0 r.2 false) ∧
     (x.action = .markIn → usable → w.lane = l → acting ≤ w.el → lane.admitsIn lfn →
       let r := s.repoint x.workingClip { w with inLfn := lfn }
       s.lineAction m = taken r.1 x.workingClip 0 r.2 false) ∧
     (x.action = .markOut → usable → w.lane = l → acting ≤ w.el → lane.admitsOut lfn →
       let k : Clip := { w with state := .closed, inLfn := min w.inLfn lfn, out := some (max w.inLfn lfn), planned := none }
       let r := s.repoint x.workingClip k
       s.lineAction m = taken (r.1.setWorking x.binding 0) x.workingClip 1 r.2 (decide (lfn < w.inLfn))) ∧
     (x.action = .markSnap → acting ≤ x.el → lane.admitsOut b → lowest → lfn ≤ 4294967295 →
       let r := s.createByLine n snapped x.lockOnCreate
       s.lineAction m = taken r.1 n 2 r.2 false)) ∧
  (∀ (s : State) (n : Nat) (c : Clip), c.state ≠ .free → (s.clip n).exportLock = false →
     let timed := fun k : Clip => { k with inTc := s.entryTimecode k.lane k.inLfn, outTc := k.out.bind (s.entryTimecode k.lane) }
     let asked := fun (t : State) (k : Clip) => match k.range.bind fun r => t.admitLock k.lane r with
       | none => (t, LockOutcome.budget)
       | some t' => (t'.setClip n { k with opLock := true }, LockOutcome.locked)
     let free : Clip := { timed c with opLock := false }
     s.createByLine n c false = (s.setClip n (timed c), .noLock) ∧
     s.createByLine n c true = asked (s.setClip n (timed c)) (timed c) ∧
     ((s.clip n).opLock = false → s.repoint n c = (s.setClip n (timed c), .noLock)) ∧
     ((s.clip n).opLock = true → ∀ r, (s.clip n).range = some r → s.repoint n c =
       asked (((s.setClip n { s.clip n with opLock := false }).release (s.clip n).lane r).setClip n free) free))

/-- R75, R76, R78, R79, R80, R82, R85, R87: a mark action whose capture fails, on a channel or on a lane, is ignored with NO_SOURCE or
NO_FRAMES (detail 0, log 33). With a frame captured the first failing check of R78 ends it: NO_IN, which clears the group's working clip, or
WRONG_LANE at a MARK_OUT; RIGHTS on a working clip; LEVELS, RANGE or TABLE_FULL. A channel action is the command's request less its owner
check, at the line's acting level, with a refusal posted as MARK/IGNORED. -/
def Obligations.IgnoredMarkActionsAreReported : Prop :=
  ∀ (s : State) (m : Fin 8),
    let x := s.mark m
    let w := s.clip x.workingClip
    let ignored := fun (t : State) (reason : Nat) (detail : List Byte) =>
      t.post .mark 1 m.val (leBytes 1 x.action.code ++ leBytes 1 reason ++ detail ++ leBytes 2 x.workingClip)
    let marks := x.action = .markIn ∨ x.action = .markOut ∨ x.action = .markSnap
    let usable := x.workingClip ≠ 0 ∧ w.state = .opened
    let acting := match x.binding with
      | .lane _ => x.actingLevel
      | .channel c => match (s.channel c).owner with
        | some _ => (s.channel c).level
        | none => 3
    (∀ c, x.binding = .channel c → marks → (s.channel c).onAir = none → s.lineAction m = ignored s 0 [0, 0, 0, 0]) ∧
    (∀ c f, x.binding = .channel c → marks → (s.channel c).onAir = some f → (s.lane f.lane).entries = [] →
      s.lineAction m = ignored s 1 [0, 0, 0, 0]) ∧
    (∀ l, x.binding = .lane l → marks → (s.lane l).newestGood = none → s.lineAction m = ignored s 1 [0, 0, 0, 0]) ∧
    (∀ (l : Fin 8) (lfn : Nat),
      ((∃ c f, x.binding = .channel c ∧ (s.channel c).onAir = some f ∧ f.lane = l ∧ f.lfn = lfn ∧ (s.lane l).entries ≠ []) ∨
        x.binding = .lane l ∧ (s.lane l).newestGood = some lfn) →
      let lane := s.lane l
      let out := min 4294967295 (lfn + x.postRoll)
      let full := ∀ n, 1 ≤ n → n ≤ 1023 → (s.clip n).state ≠ .free
      let no := fun (t : State) (reason : Nat) => s.lineAction m = ignored t reason (lfnBytes lfn)
      (x.action = .markOut →
        (¬usable → no (s.setWorking x.binding 0) 2) ∧
        (usable → w.lane ≠ l → no s 3) ∧
        (usable → w.lane = l → w.el < acting → no s 4) ∧
        (usable → w.lane = l → acting ≤ w.el → ¬lane.admitsOut lfn → no s 6)) ∧
      (x.action = .markIn → usable → w.lane = l →
        (w.el < acting → no s 4) ∧ (acting ≤ w.el → ¬lane.admitsIn lfn → no s 6)) ∧
      (x.action = .markIn → ¬(usable ∧ w.lane = l) →
        (x.el < acting → no s 5) ∧ (acting ≤ x.el → ¬lane.admitsIn lfn → no s 6) ∧
        (acting ≤ x.el → lane.admitsIn lfn → full → no s 7)) ∧
      (x.action = .markSnap →
        (x.el < acting → no s 5) ∧ (acting ≤ x.el → ¬lane.admitsOut out → no s 6) ∧
        (acting ≤ x.el → lane.admitsOut out → full → no s 7))) ∧
    (∀ c, x.binding = .channel c →
      let delivered := fun a : Answer => if a.status.success then a.state else ignored a.state 8 (leBytes 4 a.status.code)
      (x.action = .continuePlay → s.lineAction m = delivered (s.continueRequest c)) ∧
      (x.action = .snapLive → s.lineAction m = delivered (s.snapLaneRequest c x.snapLane x.snapDelay)) ∧
      (x.action = .resume → s.lineAction m = delivered (s.resumeRequest c acting)))

/-! ### Jog Counters and Lever Converter (spec/05) -/

/-- R88, R89, R90: a change of one input counts +1 along (0,0), (1,0), (1,1), (0,1) and −1 against it, in 16 bits that wrap; a
change of both sets the glitch indicator and counts nothing; the new levels are kept. Nothing else changes. R91: at a tick the
count gives up its whole detents, truncated toward zero, and keeps a remainder with its sign; a bound jog delivers them as Jog
Motion, which waits in the jog's list for its channel (log 9), and an unbound one drops them. -/
def Obligations.JogsCountEdgesAndGiveDetents : Prop :=
  (∀ (s : State) (j : Fin 4) (a b : Bool), s.resetHeld = false →
     let x := s.jog j
     let forward := (x.a, x.b, a, b) ∈ [(false, false, true, false), (true, false, true, true), (true, true, false, true),
       (false, true, false, false)]
     let backward := (a, b, x.a, x.b) ∈ [(false, false, true, false), (true, false, true, true), (true, true, false, true),
       (false, true, false, false)]
     (forward → exec (.jogEdge j a b) s = .next (s.setJog j { x with a, b, count := x.count + 1 })) ∧
     (backward → exec (.jogEdge j a b) s = .next (s.setJog j { x with a, b, count := x.count - 1 })) ∧
     (a ≠ x.a → b ≠ x.b → exec (.jogEdge j a b) s = .next (s.setJog j { x with a, b, glitch := true }))) ∧
  (∀ (s : State) (j : Fin 4),
     let x := s.jog j
     (x.counts = 1 ∨ x.counts = 2 ∨ x.counts = 4) → ∃ (d : Int) (left : BitVec 16),
       x.count.toInt = d * x.counts + left.toInt ∧ left.toInt.natAbs < x.counts ∧ (0 ≤ x.count.toInt → 0 ≤ left.toInt) ∧
       (x.count.toInt ≤ 0 → left.toInt ≤ 0) ∧
       (d = 0 ∨ x.binding = none → s.tickAction (.jog j) = s.setJog j { x with count := left }) ∧
       ∀ c, d ≠ 0 → x.binding = some c → s.tickAction (.jog j) = s.setJog j { x with
         count := left,
         motions := x.motions ++ [{ channel := c, detents := d, step := x.step, takeover := x.takeover }] })

/-- R92, R93, R99, R100: valid JOG CONFIG, LEVER CONFIG and CURVE LOAD replace the configuration (the jog's count is cleared); JOG
STATUS answers with the jog and clears its glitch indicator. Nothing else changes. The channel of an absent binding is not checked
(log 35). -/
def Obligations.JogAndLeverCommandsConfigure : Prop :=
  ∀ (s : State) (h : Header) (j : Fin 4) (bind : Option (Fin 4)) (kind channel takeover : Nat),
    (bind = none → kind = 1) → (∀ c, bind = some c → kind = 0 ∧ channel = c.val) → takeover ≤ 1 →
    (∀ counts step, s.Ready h .jogConfig → (counts = 1 ∨ counts = 2 ∨ counts = 4) → 1 ≤ step → step ≤ 16 →
      exec (.jogConfig h { jog := j.val, bindKind := kind, channel, counts, step, takeover }) s =
        .next ((s.setJog j { s.jog j with binding := bind, counts, step, takeover := takeover == 1, count := 0 }).answers
          h .jogConfig .ok [])) ∧
    (∀ centre halfWidth, s.Ready h .leverConfig → centre ≤ 1023 → halfWidth ≤ 255 →
      exec (.leverConfig h { lever := j.val, bindKind := kind, channel, centre, halfWidth, takeover }) s =
        .next ((s.setLever j { s.lever j with binding := bind, centre, halfWidth, takeover := takeover == 1 }).answers
          h .leverConfig .ok [])) ∧
    (∀ points : List Int, s.Ready h .curveLoad → points.length = 17 → (∀ p ∈ points, -8192 ≤ p ∧ p ≤ 8192) →
      exec (.curveLoad h j.val points) s =
        .next ((s.setLever j { s.lever j with curve := points }).answers h .curveLoad .ok [])) ∧
    (s.Ready h .jogStatus → exec (.jogStatus h j.val) s =
      .next ((s.setJog j { s.jog j with glitch := false }).answers h .jogStatus .ok (s.jog j).statusBytes))

/-- R95, R97: a tick ends a scan under way, with a skip counted to the lever converted and to those still in the list, and starts
a new scan with the bound levers in ascending order. R98: a lever value no further from the centre than the half-width gives
target 0, in the dead band; any other gives the line between two curve points, truncated toward zero, outside it. R96: a Lever
Result records value, target and flag as the lever's last result, delivers a Lever Motion when the lever is bound, which waits
in the lever's list for its channel (log 9), and starts the next conversion of the scan. -/
def Obligations.LeversAreScannedAndConverted : Prop :=
  (∀ s : State, s.scanList.Nodup → (∀ v, s.underWay = some v → v ∉ s.scanList) →
     let t := s.tickAction .levers
     let bound := allLevers.filter fun v => (s.lever v).binding.isSome
     t.underWay = bound.head? ∧ t.scanList = bound.tail ∧
     (∀ v, t.lever v = { s.lever v with
       skipped := if s.underWay = some v ∨ v ∈ s.scanList then (s.lever v).skipped + 1 else (s.lever v).skipped }) ∧
     { t with underWay := s.underWay, scanList := s.scanList, levers := s.levers } = s) ∧
  (∀ (x : Lever) (v : Nat), v ≤ 1023 → x.curve.length = 17 →
     ((v ≤ x.centre + x.halfWidth ∧ x.centre ≤ v + x.halfWidth) → x.convert v = (0, true)) ∧
     (¬(v ≤ x.centre + x.halfWidth ∧ x.centre ≤ v + x.halfWidth) → ∀ (i r : Nat) (p q : Int), v = 64 * i + r → r < 64 →
       x.curve[i]? = some p → x.curve[i + 1]? = some q → x.convert v = ((p * (64 - r) + q * r).tdiv 64, false))) ∧
  (∀ (s : State) (v : Fin 4) (value : Nat), s.resetHeld = false → s.underWay = some v → value ≤ 1023 →
     let x := s.lever v
     let r := x.convert value
     let motion := match x.binding with
       | none => []
       | some c => [{ channel := c, target := r.1, inBand := r.2, takeover := x.takeover : LeverMotion }]
     let t := s.setLever v { x with
       last := some { value, target := r.1, inBand := r.2 }, motions := x.motions ++ motion }
     exec (.leverResult value) s = .next { t with underWay := s.scanList.head?, scanList := s.scanList.tail })

/-- R125, R126: a Jog Motion in JOG adds its frames to the accumulator, held to ±65,536; a Lever Motion in SHUTTLE sets the target; with
takeover they move any other channel but an IDLE one to JOG or, outside the dead band, to SHUTTLE; else they change nothing there. -/
def Obligations.MotionsReachTheirChannel : Prop :=
  ∀ (s : State) (j : Fin 4), s.resetHeld = false →
    (∀ m rest, (s.jog j).motions = m :: rest →
      let x := s.channel m.channel
      let frames := m.detents * m.step
      let t := s.setJog j { s.jog j with motions := rest }
      exec (.jogMotion j) s = .next (t.setChannel m.channel
        (if x.state = .jog then { x with jogAcc := max (-65536) (min 65536 (x.jogAcc + frames)) }
         else if x.state = .idle ∨ m.takeover = false then x
         else { x with state := .jog, current := 0, target := 0, jogAcc := max (-65536) (min 65536 frames),
                       source := x.source.withoutDelay }))) ∧
    ∀ m rest, (s.lever j).motions = m :: rest →
      let x := s.channel m.channel
      let t := s.setLever j { s.lever j with motions := rest }
      exec (.leverMotion j) s = .next (t.setChannel m.channel
        (if x.state = .shuttle then { x with target := if m.inBand then 0 else m.target }
         else if x.state = .idle ∨ m.takeover = false ∨ m.inBand = true then x
         else { x with state := .shuttle, target := m.target,
                       current := if x.state = .playing ∨ x.state = .live then x.current else 0, jogAcc := 0,
                       source := x.source.withoutDelay }))

/-! ### Playout Channels (spec/06) -/

/-- R104, R105, R132: CHANNEL TAKE gives a free channel, or its own, to the sending station at its effective level; at level 0 it
takes another's, and CHANNEL/PREEMPTED names both; else CHANNEL_HELD. CHANNEL RELEASE by the owner clears the owner alone.
R127, R128, R132: a flag going from clear to set is posted when its enable is on; FLAGS CLEAR clears the flags named, FLAG
ENABLES replaces the six enables (bits 6 and 7 of a mask name nothing, log 15), and both answer with flags and enables, a mask
byte each (log 24). -/
def Obligations.ChannelsAreTakenReleasedAndFlagged : Prop :=
  (∀ (s : State) (h : Header) (c : Fin 4),
     let x := s.channel c
     let level := s.effective h
     let reply := fun (t : State) (level : Nat) =>
       Host.Outcome.next (φ := Fault) (ρ := Refusal)
         (t.answers h .channelTake .ok ([1] ++ leBytes 1 h.station.val ++ leBytes 1 level))
     (s.Ready h .channelTake →
       (x.owner = none ∨ x.owner = some h.station → exec (.channelTake h c.val) s =
         reply (s.setChannel c { x with owner := some h.station, level }) level) ∧
       (∀ o, x.owner = some o → o ≠ h.station → level = 0 → exec (.channelTake h c.val) s =
         reply ((s.setChannel c { x with owner := some h.station, level := 0 }).post .channel 1 c.val
           (leBytes 1 o.val ++ leBytes 1 h.station.val)) 0) ∧
       (∀ o, x.owner = some o → o ≠ h.station → 0 < level → exec (.channelTake h c.val) s =
         .next (s.answers h .channelTake .channelHeld []))) ∧
     (s.Ready h .channelRelease → x.owner = some h.station → exec (.channelRelease h c.val) s =
       .next ((s.setChannel c { x with owner := none }).answers h .channelRelease .ok []))) ∧
  (∀ (s : State) (h : Header) (c : Fin 4) (mask : BitVec 8) (f : Flag),
     let x := s.channel c
     let set := { s with channels := s.channels.set c { x with flags := x.flags ||| (1 <<< f.code) } }
     (x.flags.getLsbD f.code = true → s.setFlag c f = s) ∧
     (x.flags.getLsbD f.code = false → x.enables.getLsbD f.code = false → s.setFlag c f = set) ∧
     (∀ r, x.flags.getLsbD f.code = false → x.enables.getLsbD f.code = true → x.onAir = some r → s.setFlag c f =
       set.post .channel 0 c.val (leBytes 1 f.code ++ leBytes 1 x.state.code ++ lfnBytes r.lfn ++ [1])) ∧
     (x.flags.getLsbD f.code = false → x.enables.getLsbD f.code = true → x.onAir = none → ∃ own : List Byte, own.length = 4 ∧
       s.setFlag c f = set.post .channel 0 c.val (leBytes 1 f.code ++ leBytes 1 x.state.code ++ own ++ [0])) ∧
     (s.Ready h .flagsClear → x.owner = some h.station → exec (.flagsClear h c.val mask) s =
       .next ((s.setChannel c { x with flags := x.flags &&& ~~~mask }).answers h .flagsClear .ok
         [x.flags &&& ~~~mask, x.enables])) ∧
     (s.Ready h .flagEnables → x.owner = some h.station → exec (.flagEnables h c.val mask) s =
       .next ((s.setChannel c { x with enables := mask &&& 0x3F }).answers h .flagEnables .ok [x.flags, mask &&& 0x3F])))

/-- R106, R136: the range of a channel, by its active segment, its clip or its lane; a hi that is absent or below lo gives the
point lo. R66, R107: when a role moves, the clip that enters it counts one use more and the clip that leaves it one fewer;
nothing else changes. -/
def Obligations.RangesAndUsesFollowTheSource : Prop :=
  (∀ (s : State) (x : Channel),
     let point := fun (lo hi : Nat) => (lo, max lo hi)
     (∀ n r, x.source = .clip n → x.running = some r →
       s.channelRange x = point ((s.clip n).inLfn + r.startOffset) ((s.clip n).inLfn + r.endOffset)) ∧
     (∀ n o, x.source = .clip n → x.running = none → ((s.clip n).state = .closed ∨ (s.clip n).state = .absent) →
       (s.clip n).out = some o → s.channelRange x = point (s.clip n).inLfn o) ∧
     (∀ n, x.source = .clip n → x.running = none →
       ((s.clip n).state = .opened ∨ (s.clip n).state = .absent ∧ (s.clip n).out = none) →
       s.channelRange x = match (s.lane (s.clip n).lane).newestGood, (s.clip n).planned with
         | none, _ => ((s.clip n).inLfn, (s.clip n).inLfn)
         | some g, none => point (s.clip n).inLfn g
         | some g, some q => point (s.clip n).inLfn (min g q)) ∧
     (∀ l, (x.source = .lane l ∨ ∃ d, x.source = .live l d) → x.running = none →
       s.channelRange x = point (((s.lane l).entries.head?.map Entry.lfn).getD 0)
         ((s.lane l).newestGood.getD (((s.lane l).entries.head?.map Entry.lfn).getD 0)))) ∧
  (∀ (s : State) (old new : Source), s.clipsSound → (∀ n, old = .clip n → (s.clip n).state ≠ .free ∧ 1 ≤ (s.clip n).useCount) →
     (∀ n, new = .clip n → (s.clip n).state ≠ .free) →
     let t := s.moveRole old new
     (∀ n, t.clip n = { s.clip n with
       useCount := (s.clip n).useCount + (if new = .clip n then 1 else 0) - (if old = .clip n then 1 else 0) }) ∧
     { t with clips := s.clips } = s)

/-- R108, R109, R110: an accepted CUE CLIP or CUE LANE parks the channel in CUED, and LIVE follows the lane at its delay and rate; all
three end the running order, and the reply carries the position. -/
def Obligations.CuesParkAndLiveFollows : Prop :=
  ∀ (s : State) (h : Header) (c : Fin 4), (s.channel c).owner = some h.station →
    let x := s.channel c
    let parked := fun (src : Source) (lfn : Nat) => (s.moveRole x.source src).setChannel c
      { x with state := .cued, source := src, position := lfn * 256, current := 0, target := 0, jogAcc := 0, running := none,
               hold := false, request := none }
    (∀ n offset, s.Ready h .cueClip → 1 ≤ n → n ≤ 1023 → offset ≤ 4294967295 →
      ((s.clip n).state = .opened ∨ (s.clip n).state = .closed) → x.level ≤ (s.clip n).vl →
      (let range := s.channelRange { x with source := .clip n, running := none }
      (offset ≤ range.2 - range.1 → exec (.cueClip h c.val n offset) s =
        .next ((parked (.clip n) (range.1 + offset)).answers h .cueClip .ok
          ([0] ++ lfnBytes (range.1 + offset)))) ∧
      (range.2 - range.1 < offset → exec (.cueClip h c.val n offset) s = .next (s.answers h .cueClip .range [])))) ∧
    (∀ (l : Fin 8) (newest lfn g : Nat), s.Ready h .cueLane → newest ≤ 1 → lfn ≤ 4294967295 →
      (s.lane l).newestGood = some g →
      (newest = 1 → exec (.cueLane h c.val l.val newest lfn) s =
        .next ((parked (.lane l) g).answers h .cueLane .ok ([0] ++ lfnBytes g))) ∧
      (newest = 0 → ((s.lane l).entries.head?.map Entry.lfn).getD 0 ≤ lfn → lfn ≤ g →
        exec (.cueLane h c.val l.val newest lfn) s =
          .next ((parked (.lane l) lfn).answers h .cueLane .ok ([0] ++ lfnBytes lfn)))) ∧
    (∀ (l : Fin 8) (delay g : Nat), s.Ready h .live → delay ≤ 65535 → (s.lane l).newestGood = some g →
      (let lfn := max (((s.lane l).entries.head?.map Entry.lfn).getD 0) (g - delay)
      exec (.live h c.val l.val delay) s =
        .next (((s.moveRole x.source (.live l delay)).setChannel c
          { x with state := .live, source := .live l delay, position := lfn * 256, current := (s.lane l).p * 256,
                   target := (s.lane l).p * 256, jogAcc := 0, running := none, hold := false, request := none }).answers
          h .live .ok ([0] ++ lfnBytes lfn))))

/-- R112: P × value × 256 ÷ 1,000 to the nearest whole unit, a half away from zero; QUANT is called for exactly when a remainder is
left. -/
def Obligations.PercentSpeedsAreRounded : Prop :=
  ∀ (p : Nat) (v : Int),
    let exact := (p : Int) * v * 256
    let r := percentSpeed p v
    (2 * (exact - r * 1000)).natAbs ≤ 1000 ∧ ((2 * (exact - r * 1000)).natAbs = 1000 → exact.natAbs ≤ (r * 1000).natAbs) ∧
    (percentInexact p v = true ↔ ∀ k : Int, exact ≠ k * 1000)

/-- R111, R113, R114, R115, R116, R146: PLAY, PAUSE, SPEED, STEP and CONTINUE from the owner in the states that take them; a
PERCENT speed is R112's, QUANT set when it is not exact, before the state changes (log 23); the number of a SEGMENT speed is
not checked (log 35); the reply carries the target speed or the position. PLAY and CONTINUE make no view check on the clip
(log 43). R111, R112: the rate multiple of a channel is P of its source lane: the lane itself, followed live or not, or the
lane of the source clip, which is the active segment's clip too; the SEGMENT speed is that of the entry at the running-order
position. -/
def Obligations.OwnersSteerTheirChannel : Prop :=
  (∀ (s : State) (h : Header) (c : Fin 4) (kind ramp round : Nat) (value : Int), (s.channel c).owner = some h.station →
     let x := s.channel c
     let p := s.rateMultiple x
     let target := if kind = 0 then value else if kind = 1 then percentSpeed p value else s.segmentSpeed x
     let inRange := (kind = 0 ∧ -8192 ≤ value ∧ value ≤ 8192) ∨ (kind = 1 ∧ -3200 ≤ value ∧ value ≤ 3200)
     let quantised := if kind = 1 ∧ percentInexact p value = true then s.setFlag c .quant else s
     let y := quantised.channel c
     let playing := fun (y : Channel) (target : Int) (ramp : Nat) (round : RoundMode) =>
       { y with
         state := .playing, target, ramp, round, jogAcc := 0, source := y.source.withoutDelay,
         current := if y.state = .playing ∨ y.state = .shuttle ∨ y.state = .live then y.current else 0,
         request := if y.hold then some .release else y.request, hold := false }
     (s.Ready h .play → x.state ≠ .idle → (inRange ∨ kind = 2 ∧ x.running ≠ none) → 1 ≤ ramp → ramp ≤ 8192 → round ≤ 1 →
       exec (.play h c.val { speedKind := kind, speed := value, ramp, round }) s =
         .next ((quantised.setChannel c (playing y target ramp (if round = 0 then .floor else .nearest))).answers
           h .play .ok (leInt 2 target))) ∧
     (s.Ready h .pause → (x.state = .playing ∨ x.state = .shuttle ∨ x.state = .jog ∨ x.state = .live) →
       exec (.pause h c.val) s =
         .next ((s.setChannel c { x with state := .paused, current := 0, target := 0, jogAcc := 0,
                                         source := x.source.withoutDelay }).answers
           h .pause .ok (leBytes 1 x.position ++ lfnBytes (x.position / 256)))) ∧
     (s.Ready h .speed → x.state = .playing → inRange → 1 ≤ ramp → ramp ≤ 8192 →
       exec (.speed h c.val kind value ramp) s =
         .next ((quantised.setChannel c { y with target, ramp }).answers h .speed .ok (leInt 2 target))) ∧
     (∀ count : Int, s.Ready h .stepFrames → (x.state = .cued ∨ x.state = .paused ∨ x.state = .jog) → -1000 ≤ count → count ≤ 1000 →
       (let lo : Int := (s.channelRange x).1 * 256
       let hi : Int := (s.channelRange x).2 * 256
       let moved := x.position + count * 256
       let position := (max lo (min moved (max lo hi))).toNat
       let stepped := s.setChannel c { x with position }
       exec (.stepFrames h c.val count) s =
         .next ((if (position : Int) = moved then stepped else stepped.setFlag c .clamp).answers
           h .stepFrames .ok (leBytes 1 position ++ lfnBytes (position / 256))))) ∧
     (s.Ready h .continuePlay → x.state ≠ .idle → exec (.continuePlay h c.val) s =
       .next (State.answers
         (if x.hold then s.setChannel c { x with request := some .release, hold := false }
          else if x.state = .playing then s
          else s.setChannel c (playing x (if x.running = none then p * 256 else s.segmentSpeed x) 8192 x.round))
         h .continuePlay .ok []))) ∧
  (∀ (s : State) (x : Channel),
     (∀ l, x.source = .lane l → s.rateMultiple x = (s.lane l).p) ∧
     (∀ l d, x.source = .live l d → s.rateMultiple x = (s.lane l).p) ∧
     (∀ n, x.source = .clip n → s.rateMultiple x = (s.lane (s.clip n).lane).p) ∧
     ∀ r, x.running = some r → s.segmentSpeed x = (s.segment r.bank r.entry).speed)

/-- R117, R132: SYNC PLAY takes each named channel, in ascending order (log 31): owned by the sender and CUED it plays, QUANT set first
when its PERCENT speed is not exact (log 23); else SYNC/REFUSED is posted with NOT_OWNER or WRONG_STATE and the sending station. The
reply names those not acted on; a broadcast has none. A field out of range refuses the command with BAD_FIELD, and a broadcast posts
SYNC/REFUSED with BAD_FIELD for each named channel. Mask bits above 3 name nothing (log 15); no view check is made on a clip (log 43). -/
def Obligations.SyncPlayRollsCuedChannels : Prop :=
  ∀ (s : State) (h : Header) (mask : BitVec 8) (kind ramp round : Nat) (value : Int),
    let i : Instr := .syncPlay h mask { speedKind := kind, speed := value, ramp, round }
    let inRange := ((kind = 0 ∧ -8192 ≤ value ∧ value ≤ 8192) ∨ (kind = 1 ∧ -3200 ≤ value ∧ value ≤ 3200)) ∧ 1 ≤ ramp ∧
      ramp ≤ 8192 ∧ round ≤ 1
    let refused := fun (t : State) (c : Fin 4) (reason : Byte) => t.post .sync 0 c.val [reason, BitVec.ofNat 8 h.station.val]
    let acts := fun c : Fin 4 => mask.getLsbD c.val = true ∧ (s.channel c).owner = some h.station ∧ (s.channel c).state = .cued
    let inexact := fun c : Fin 4 => kind = 1 ∧ percentInexact (s.rateMultiple (s.channel c)) value = true
    let played := fun (y : Channel) (c : Fin 4) => { y with
      state := .playing, target := if kind = 0 then value else percentSpeed (s.rateMultiple (s.channel c)) value, ramp,
      round := if round = 0 then .floor else .nearest, current := 0, jogAcc := 0, source := (s.channel c).source.withoutDelay,
      request := if (s.channel c).hold then some .release else (s.channel c).request, hold := false }
    let one := fun (t : State) (c : Fin 4) =>
      if mask.getLsbD c.val = false then t
      else if (s.channel c).owner ≠ some h.station then refused t c 0x16
      else if (s.channel c).state ≠ .cued then refused t c 0x19
      else
        let u := if inexact c then t.setFlag c .quant else t
        u.setChannel c (played (u.channel c) c)
    let t := one (one (one (one s 0) 1) 2) 3
    (inRange →
      (s.Ready h .syncPlay → ∃ m : BitVec 8, exec i s = .next (t.answers h .syncPlay .ok [m]) ∧
        ∀ b, m.getLsbD b = true ↔ ∃ c : Fin 4, b = c.val ∧ mask.getLsbD b = true ∧ ¬acts c) ∧
      (s.ReadyAll h .syncPlay → exec i s = .next t) ∧
      (∀ c, acts c → t.channel c = played { s.channel c with
        flags := if inexact c then (s.channel c).flags ||| 8 else (s.channel c).flags } c) ∧
      (∀ c, ¬acts c → t.channel c = s.channel c) ∧
      { t with channels := s.channels, cues := s.cues, link := s.link, fresh := s.fresh } = s ∧ s.link.OnlyPosts t.link) ∧
    (¬inRange →
      (s.Ready h .syncPlay → exec i s = .next (s.answers h .syncPlay .badField [])) ∧
      (s.ReadyAll h .syncPlay → exec i s = .next
        (([0, 1, 2, 3].filter fun c : Fin 4 => mask.getLsbD c.val).foldl (fun t c => refused t c 0x13) s)))

/-- R129, R130, R131: SNAP saves the context in an empty slot of a channel that is not IDLE and goes live or cues; RESUME brings the
saved context back and empties the slot; SAVE DISCARD empties it. SNAP does not check the fields its target kind leaves unused
(log 35). -/
def Obligations.SnapSavesAndResumeRestores : Prop :=
  ∀ (s : State) (h : Header) (c : Fin 4), (s.channel c).owner = some h.station →
    let x := s.channel c
    let saved : SavedContext := { state := x.state, source := x.source, position := x.position, current := x.current,
                                  target := x.target, ramp := x.ramp, round := x.round, running := x.running, hold := x.hold }
    let kept := if x.saved ≠ none ∨ x.state = .idle then s
      else (s.moveRole .none x.source).setChannel c { x with saved := some saved }
    let slot := if x.saved ≠ none ∨ x.state = .idle then x.saved else some saved
    let status : Status := if x.saved = none then .ok else .saveKept
    (∀ (l : Fin 8) (delay g clip offset : Nat), s.Ready h .snap → delay ≤ 65535 → (s.lane l).newestGood = some g →
      (let lfn := max (((s.lane l).entries.head?.map Entry.lfn).getD 0) (g - delay)
      exec (.snap h { channel := c.val, kind := 0, lane := l.val, delay, clip, offset }) s =
        .next (((kept.moveRole x.source (.live l delay)).setChannel c
          { x with state := .live, source := .live l delay, position := lfn * 256, current := (s.lane l).p * 256,
                   target := (s.lane l).p * 256, jogAcc := 0, running := none, hold := false, request := none,
                   saved := slot }).answers h .snap status []))) ∧
    (∀ (n offset lane delay : Nat), s.Ready h .snap → 1 ≤ n → n ≤ 1023 → offset ≤ 4294967295 →
      ((s.clip n).state = .opened ∨ (s.clip n).state = .closed) → x.level ≤ (s.clip n).vl →
      (let range := s.channelRange { x with source := .clip n, running := none }
      offset ≤ range.2 - range.1 →
        exec (.snap h { channel := c.val, kind := 1, lane, delay, clip := n, offset }) s =
          .next (((kept.moveRole x.source (.clip n)).setChannel c
            { x with state := .cued, source := .clip n, position := (range.1 + offset) * 256, current := 0, target := 0,
                     jogAcc := 0, running := none, hold := false, request := none, saved := slot }).answers
            h .snap status []))) ∧
    (s.Ready h .resume →
      (x.saved = none → exec (.resume h c.val) s = .next (s.answers h .resume .nothingSaved [])) ∧
      ∀ k, x.saved = some k →
        (∀ n, k.source = .clip n → (s.clip n).state = .absent →
          exec (.resume h c.val) s = .next (s.answers h .resume .clipAbsent [])) ∧
        (∀ n, k.source = .clip n → (s.clip n).state ≠ .absent → (s.clip n).vl < x.level →
          exec (.resume h c.val) s = .next (s.answers h .resume .rights [])) ∧
        ((∀ n, k.source = .clip n → (s.clip n).state ≠ .absent ∧ x.level ≤ (s.clip n).vl) →
          exec (.resume h c.val) s = .next (((s.moveRole x.source .none).setChannel c
            { x with state := k.state, source := k.source, position := k.position, current := k.current, target := k.target,
                     ramp := k.ramp, round := k.round, running := k.running, hold := k.hold, request := none, jogAcc := 0,
                     saved := none }).answers h .resume .ok []))) ∧
    (s.Ready h .saveDiscard → exec (.saveDiscard h c.val) s =
      .next ((match x.saved with
        | none => s
        | some k => (s.moveRole k.source .none).setChannel c { x with saved := none }).answers h .saveDiscard .ok []))

/-- R118, R122, R184: presentation at a tick: BLACK when IDLE, PRESENT when a frame waits, which empties the staging body (log
21), else REPEAT, or BLACK with nothing on air; a fetch in flight sets LATE. R118, R119, R120, R121, R122, R142: at a tick a
channel that is not IDLE moves by its state. Without a running order it is held to its range with CLAMP (and then PAUSED from
PLAYING, log 23); with one it makes the boundary step of the running order on the raw position, and the request START in
PLAYING discards the whole advance, the ramp with the move. It then asks for the GOOD entry that its position names, when no
fetch is in flight. -/
def Obligations.ChannelTicksPresentAndMove : Prop :=
  (∀ (s : State) (c : Fin 4),
     let x := s.channel c
     let black := fun t : State =>
       { t.setOutPort c { t.outPort c with picture := .black } with emitted := t.emitted ++ [.black c] }
     let again : State := if x.onAir = none then black s else { s with emitted := s.emitted ++ [.repeatPicture c] }
     (x.state = .idle → s.presentation c = (black s).setChannel c { x with onAir := none }) ∧
     (x.state ≠ .idle → ∀ f, x.next = some f → s.presentation c =
       State.reportFrame { (s.setOutPort c { staging := none, picture := .body ((s.outPort c).staging.getD []) }).setChannel c
           { x with onAir := some f, next := none } with emitted := s.emitted ++ [.present c] } c x.onAir f) ∧
     (x.state ≠ .idle → x.next = none → x.fetch ≠ none → s.presentation c = again.setFlag c .late) ∧
     (x.state ≠ .idle → x.next = none → x.fetch = none → s.presentation c = again)) ∧
  (∀ (s : State) (c : Fin 4),
     let u := s.presentation c
     let x := u.channel c
     let near := (x.target - x.current).natAbs ≤ x.ramp
     let speed : Int := if near then x.target else if x.current < x.target then x.current + x.ramp else x.current - x.ramp
     let lo : Int := (u.channelRange x).1 * 256
     let hi : Int := (u.channelRange x).2 * 256
     let moves := fun (raw : Int) (y : Channel) =>
       (x.state = .playing ∨ x.state = .shuttle) ∧ raw = x.position + speed ∧ y = { x with current := speed } ∨
       x.state = .jog ∧ raw = x.position + x.jogAcc * 256 ∧ y = { x with jogAcc := 0 } ∨
       (∃ l d g, x.state = .live ∧ x.source = .live l d ∧ (u.lane l).newestGood = some g ∧ raw = ((g : Int) - d) * 256 ∧ y = x) ∨
       (∃ l d, x.state = .live ∧ x.source = .live l d ∧ (u.lane l).newestGood = none ∧ raw = x.position ∧ y = x) ∨
       (x.state = .cued ∨ x.state = .paused) ∧ raw = x.position ∧ y = x
     (x.state = .idle → s.tickAction (.channel c) = u) ∧
     (x.state ≠ .idle → x.running = none → ∀ (raw : Int) (y : Channel), moves raw y →
       (lo ≤ raw → raw ≤ max lo hi →
         s.tickAction (.channel c) = ((u.setChannel c y).setChannel c { y with position := raw.toNat }).selection c) ∧
       (raw < lo ∨ max lo hi < raw →
         let held : Nat := if raw < lo then (u.channelRange x).1 * 256 else max (u.channelRange x).1 (u.channelRange x).2 * 256
         let clamped := ((u.setChannel c y).setChannel c { y with position := held }).setFlag c .clamp
         s.tickAction (.channel c) = (clamped.setChannel c
           (if x.state = .playing then { clamped.channel c with state := .paused, current := 0, target := 0 }
            else clamped.channel c)).selection c)) ∧
     (x.state = .playing → x.request = some .start → x.running ≠ none →
       s.tickAction (.channel c) = ((u.setChannel c x).boundaryStep c x.position).selection c) ∧
     (x.state ≠ .idle → ¬(x.state = .playing ∧ x.request = some .start) → x.running ≠ none →
       ∀ (raw : Int) (y : Channel), moves raw y →
         s.tickAction (.channel c) = ((u.setChannel c y).boundaryStep c raw).selection c))

/-- R121, R122: selection takes the newest GOOD entry of [lo, c], else the oldest of [c, max(lo, hi)]; another LFN than c, or none, sets
REPEAT; the entry on air is not fetched again; else the entry is claimed and its fetch handed over. Without a source, or with a fetch
in flight, nothing is selected. -/
def Obligations.SelectionChoosesTheEntry : Prop :=
  ∀ (s : State) (c : Fin 4), ((s.channel c).source = .none → s.selection c = s) ∧
    ∀ l : Fin 8, s.sourceLane (s.channel c).source = some l → (s.lane l).sound →
    let x := s.channel c
    let range := s.channelRange x
    let want := if x.round = .floor then x.position / 256 else x.position / 256 + (if 128 ≤ x.position % 256 then 1 else 0)
    let fits := fun e : Entry => e ∈ (s.lane l).entries ∧ e.status = .good
    let before := fun e : Entry => fits e ∧ range.1 ≤ e.lfn ∧ e.lfn ≤ want
    let after := fun e : Entry => fits e ∧ want ≤ e.lfn ∧ e.lfn ≤ max range.1 range.2
    let chosen := fun e : Entry => (before e ∧ ∀ y, before y → y.lfn ≤ e.lfn) ∨
      ((∀ y, ¬before y) ∧ after e ∧ ∀ y, after y → e.lfn ≤ y.lfn)
    (x.fetch ≠ none → s.selection c = s) ∧
    (x.fetch = none → (∀ y, ¬before y ∧ ¬after y) → s.selection c = s.setFlag c .repeated) ∧
    (x.fetch = none → ∀ e, chosen e →
      let t := if e.lfn = want then s else s.setFlag c .repeated
      let r : FrameRef := { lane := l, lfn := e.lfn, slot := e.slot }
      ((∃ o, x.onAir = some o ∧ o.lane = l ∧ o.lfn = e.lfn) → s.selection c = t) ∧
      (¬(∃ o, x.onAir = some o ∧ o.lane = l ∧ o.lfn = e.lfn) → s.selection c =
        (((t.placeClaim l e.lfn).setChannel c { t.channel c with fetch := some r }).setFetch c
          (some { frame := r, firstBlock := (s.lane l).base + e.slot * (s.lane l).s, size := (s.lane l).s, granted := 0,
                  done := 0 })).grant))

/-! ### Running Orders (spec/07) -/

/-- R134: BANK WRITE within the ranges of R133 replaces the entries from the first upward, all or none; an entry that is a channel's
running-order position refuses it with SEGMENT_ACTIVE. The number of an action that has none, and an absent offset, are kept as written
(log 37, log 16). -/
def Obligations.BankWriteReplacesInactiveEntries : Prop :=
  ∀ (s : State) (h : Header) (bank : Fin 8) (first : Nat) (gs : List Segment), s.Ready h .bankWrite → 1 ≤ gs.length →
    gs.length ≤ 8 → first + gs.length ≤ 32 →
    (∀ g ∈ gs, g.clip ≤ 1023 ∧ g.start ≤ 4294967295 ∧ g.endOffset ≤ 4294967295 ∧ -8192 ≤ g.speed ∧ g.speed ≤ 8192 ∧
      (g.action = .skip → -16 ≤ g.number ∧ g.number ≤ 15) ∧ (g.action = .goto → 0 ≤ g.number ∧ g.number ≤ 31) ∧
      (g.action = .chain → 0 ≤ g.number ∧ g.number ≤ 7)) →
    let records : List SegmentFields := gs.map fun g =>
      { clip := g.clip, hasStart := if g.hasStart then 1 else 0, start := g.start, hasEnd := if g.hasEnd then 1 else 0,
        endOffset := g.endOffset, speed := g.speed, action := g.action.code, number := g.number }
    let active := ∃ c r, (s.channel c).running = some r ∧ r.bank = bank ∧ first ≤ r.entry.val ∧
      r.entry.val < first + gs.length
    (¬active → ∃ t : State, exec (.bankWrite h bank.val first gs.length records) s =
        .next (t.answers h .bankWrite .ok []) ∧
      (∀ e : Fin 32, t.segment bank e = if first ≤ e.val then gs.getD (e.val - first) (s.segment bank e)
        else s.segment bank e) ∧
      (∀ b e, b ≠ bank → t.segment b e = s.segment b e) ∧ { t with banks := s.banks } = s) ∧
    (active → exec (.bankWrite h bank.val first gs.length records) s =
      .next (s.answers h .bankWrite .segmentActive []))

/-- R136, R139, R140, R141, R151, R152: a segue's seven checks in their order, with offsets resolved; a passing one plays the target from
its first frame (its last at a negative speed), and a failing one leaves the channel PAUSED with the fault recorded and reported, its
notices in the order R141 lists their causes (log 23). -/
def Obligations.SeguesPassOrFailByTheirChecks : Prop :=
  ∀ (s : State) (c : Fin 4) (b : Fin 8),
    let x := s.channel c
    (∀ n : Int, n < 0 ∨ 31 < n → s.segueCheck x.level b n = .error { reason := .entryRange, clip := 0 }) ∧
    (∀ e : Fin 32,
      let g := s.segment b e
      let k := s.clip g.clip
      let length := k.out.getD k.inLfn - k.inLfn
      let start := if g.hasStart then g.start else 0
      let last := if g.hasEnd then g.endOffset else length
      s.segueCheck x.level b e.val =
        if g.clip = 0 then .error { reason := .emptyEntry, clip := 0 }
        else if k.state = .free then .error { reason := .clipFree, clip := g.clip }
        else if k.state = .absent then .error { reason := .clipAbsent, clip := g.clip }
        else if k.state = .opened then .error { reason := .clipOpen, clip := g.clip }
        else if k.vl < x.level then .error { reason := .rights, clip := g.clip }
        else if last < start ∨ length < last then .error { reason := .offset, clip := g.clip }
        else .ok { running := { bank := b, entry := e, startOffset := start, endOffset := last }, clip := g.clip,
                   speed := g.speed }) ∧
    (∀ (t : SegueTarget) (cause : SegueCause) (q : Option SegueRequest),
      let lfn := (s.clip t.clip).inLfn + if t.speed < 0 then t.running.endOffset else t.running.startOffset
      s.passSegue c t cause q =
        (((s.moveRole x.source (.clip t.clip)).setChannel c
          { x with running := some t.running, source := .clip t.clip, state := .playing, current := t.speed,
                   target := t.speed, jogAcc := 0, position := lfn * 256, hold := false, request := q }).post .segue 0 c.val
          ([BitVec.ofNat 8 t.running.bank.val, BitVec.ofNat 8 t.running.entry.val] ++ leBytes 2 t.clip ++
            [BitVec.ofNat 8 cause.code] ++ match x.running with
            | none => [0xFF, 0xFF]
            | some r => [BitVec.ofNat 8 r.bank.val, BitVec.ofNat 8 r.entry.val])).reportSegue c t.running.bank
          t.running.entry) ∧
    ∀ (r : Running) (n : Int) (f : SegueFault) (cause : SegueCause) (position : Nat) (clamped : Bool),
      let t := s.setChannel c { x with state := .paused, current := 0, target := 0, position }
      let u := if clamped then t.setFlag c .clamp else t
      s.failSegue c r b n f cause position clamped =
        ((u.setChannel c { u.channel c with hold := false, request := none, lastFault := some f.reason }).setFlag c
          .segue).post .segue 2 c.val
          (leBytes 1 f.reason.code ++ leBytes 1 b.val ++ leInt 1 n ++ leBytes 1 cause.code ++ leBytes 1 r.bank.val ++
            leBytes 1 r.entry.val ++ leBytes 2 f.clip)

/-- R138, R147: RUN from the owner in any state but IDLE makes its segue at once, with the request START, and answers with both positions,
the position with its present flag (log 24), or is refused with the failing check's reason; SEGUE sets the request of a running order that is PLAYING or PAUSED. -/
def Obligations.RunAndSegueCommandTheOrder : Prop :=
  ∀ (s : State) (h : Header) (c : Fin 4) (b : Fin 8) (e : Fin 32), (s.channel c).owner = some h.station →
    let x := s.channel c
    (s.Ready h .runOrder →
      (x.state = .idle → exec (.runOrder h c.val b.val e.val) s = .next (s.answers h .runOrder .wrongState [])) ∧
      (x.state ≠ .idle → ∀ f, s.segueCheck x.level b e.val = .error f →
        exec (.runOrder h c.val b.val e.val) s = .next (s.answers h .runOrder f.reason [])) ∧
      (x.state ≠ .idle → ∀ n, 31 < n → n ≤ 255 →
        exec (.runOrder h c.val b.val n) s = .next (s.answers h .runOrder .entryRange [])) ∧
      (x.state ≠ .idle → ∀ t, s.segueCheck x.level b e.val = .ok t →
        (let lfn := (s.clip t.clip).inLfn + if t.speed < 0 then t.running.endOffset else t.running.startOffset
        exec (.runOrder h c.val b.val e.val) s =
          .next ((s.passSegue c t .run (some .start)).answers h .runOrder .ok
            ([1] ++ leBytes 1 b.val ++ leBytes 1 e.val ++ [0] ++ lfnBytes lfn))))) ∧
    (s.Ready h .segue → x.running ≠ none → (x.state = .playing ∨ x.state = .paused) →
      exec (.segue h c.val 0 0) s = .next ((s.setChannel c { x with request := some .next, hold := false }).answers
        h .segue .ok []) ∧
      exec (.segue h c.val 1 e.val) s = .next ((s.setChannel c { x with request := some (.goto e), hold := false }).answers
        h .segue .ok []) ∧
      exec (.segue h c.val 2 b.val) s = .next ((s.setChannel c { x with request := some (.chain b), hold := false }).answers
        h .segue .ok [])) ∧
    (s.Ready h .segue → (x.running = none ∨ (x.state ≠ .playing ∧ x.state ≠ .paused)) →
      exec (.segue h c.val 1 e.val) s = .next (s.answers h .segue .wrongState []))

/-- R142, R143, R144, R145: the boundary step of an active running order: START puts a PLAYING channel back on its first frame;
a request makes its segue in PLAYING and PAUSED; a crossing takes the end action the entry holds, with CLAMP before SEGUE/HOLD at a STOP
whose boundary lies outside the clip's own range (log 23); else, as with a request kept in another state, the playhead is held to the
range. -/
def Obligations.BoundaryStepsFollowTheOrder : Prop :=
  ∀ (s : State) (c : Fin 4) (r : Running) (raw : Int), (s.channel c).running = some r →
    let x := s.channel c
    let g := s.segment r.bank r.entry
    let lo := (s.channelRange x).1
    let hi := (s.channelRange x).2
    let segue := fun (b : Fin 8) (n : Int) (cause : SegueCause) (position : Nat) (clamped : Bool) =>
      match s.segueCheck x.level b n with
      | .ok t => s.passSegue c t cause none
      | .error f => s.failSegue c r b n f cause position clamped
    let held : Nat × Bool :=
      if raw < lo * 256 then (lo * 256, true) else if (hi * 256 : Nat) < raw then (hi * 256, true) else (raw.toNat, false)
    let beyond := x.state = .playing ∧ ((hi * 256 : Nat) < raw ∧ 0 < x.current ∨ raw < (lo * 256 : Nat) ∧ x.current < 0)
    let edge := if (hi * 256 : Nat) < raw then hi else lo
    let crosses := beyond ∧ (x.request = none)
    (x.request = some .start → x.state = .playing → s.boundaryStep c raw =
      s.setChannel c { x with request := none, position := (if g.speed < 0 then hi else lo) * 256 }) ∧
    (x.request = some .start → x.state ≠ .playing → s.boundaryStep c raw =
      (let t := s.setChannel c { x with request := none, position := held.1 }
      if held.2 then t.setFlag c .clamp else t)) ∧
    ((x.state = .playing ∨ x.state = .paused) →
      (x.request = some .next → s.boundaryStep c raw = segue r.bank (r.entry.val + 1) .request held.1 held.2) ∧
      (x.request = some .release → s.boundaryStep c raw = segue r.bank (r.entry.val + 1) .release held.1 held.2) ∧
      (∀ e, x.request = some (.goto e) → s.boundaryStep c raw = segue r.bank e.val .request held.1 held.2) ∧
      (∀ b, x.request = some (.chain b) → s.boundaryStep c raw = segue b 0 .request held.1 held.2)) ∧
    (crosses →
      (g.action = .next → s.boundaryStep c raw = segue r.bank (r.entry.val + 1) .next (edge * 256) false) ∧
      (g.action = .skip → s.boundaryStep c raw = segue r.bank (r.entry.val + g.number) (.skip g.number) (edge * 256) false) ∧
      (g.action = .goto → s.boundaryStep c raw = segue r.bank g.number (.goto g.number) (edge * 256) false) ∧
      (∀ b : Fin 8, g.action = .chain → g.number = b.val →
        s.boundaryStep c raw = segue b 0 .chain (edge * 256) false) ∧
      (g.action = .loop → s.boundaryStep c raw = segue r.bank r.entry.val .loop (edge * 256) false) ∧
      (g.action = .hold → s.boundaryStep c raw =
        (s.setChannel c { x with state := .paused, position := edge * 256, current := 0, target := 0, hold := true }).post
          .segue 1 c.val (leBytes 1 r.bank.val ++ leBytes 1 r.entry.val ++ [0] ++ lfnBytes edge)) ∧
      (g.action = .stop →
        (let y : Channel := { x with state := .paused, position := edge * 256, current := 0, target := 0, running := none,
                                     hold := false, request := none }
        let own := s.channelRange y
        let t := if edge < own.1 then (s.setChannel c { y with position := own.1 * 256 }).setFlag c .clamp
          else if own.2 < edge then (s.setChannel c { y with position := own.2 * 256 }).setFlag c .clamp
          else s.setChannel c y
        s.boundaryStep c raw =
          t.post .segue 1 c.val (leBytes 1 r.bank.val ++ leBytes 1 r.entry.val ++ [1] ++ lfnBytes edge)))) ∧
    ((x.request = none ∧ ¬beyond ∨
        x.request ≠ none ∧ x.request ≠ some .start ∧ x.state ≠ .playing ∧ x.state ≠ .paused) → s.boundaryStep c raw =
      (let t := s.setChannel c { x with position := held.1 }
      if held.2 then t.setFlag c .clamp else t))

/-! ### Transfer Engine (spec/08) -/

/-- R156, R160, R162, R163: the idle store is granted to the first lane with a waiting block after the one granted last, for the lowest
waiting block of its oldest write that has one; else in the same way to a channel's fetch; else to the export's block read while XRDY
is asserted. A busy store is granted to nobody, and with no block waiting nothing changes. -/
def Obligations.TheArbiterGrantsByClassAndTurn : Prop :=
  ∀ s : State,
    let laneWaits := fun l : Fin 8 => ∃ w ∈ s.ingest l, w.waiting ≠ []
    let fetchWaits := fun c : Fin 4 => ∃ f, s.fetchOf c = some f ∧ f.granted < f.size
    (s.xfer.service ≠ none → s.grant = s) ∧
    (s.xfer.service = none →
      (∀ l older w newer d rest, s.ingest l = older ++ w :: newer → (∀ y ∈ older, y.waiting = []) → w.waiting = d :: rest →
        (∀ m, laneWaits m → (l - s.xfer.lastLane - 1).val ≤ (m - s.xfer.lastLane - 1).val) →
        s.grant = { s with
          xfer := { s.xfer with
            ingest := s.xfer.ingest.set l (older ++ { w with granted := w.granted + 1, waiting := rest } :: newer),
            service := some { block := w.firstBlock + w.granted, use := .write l w.lfn d }, lastLane := l } }) ∧
      ((∀ l, ¬laneWaits l) →
        (∀ c f, s.fetchOf c = some f → f.granted < f.size →
          (∀ e, fetchWaits e → (c - s.xfer.lastChannel - 1).val ≤ (e - s.xfer.lastChannel - 1).val) →
          s.grant = { s with
            outPorts := if f.granted = 0 then s.outPorts.set c { s.outPort c with staging := some [] } else s.outPorts,
            xfer := { s.xfer with
              fetch := s.xfer.fetch.set c (some { f with granted := f.granted + 1 }),
              service := some { block := f.firstBlock + f.granted, use := .fetch c f.granted }, lastChannel := c } }) ∧
        ((∀ c, ¬fetchWaits c) →
          (∀ r, s.xrdy = true → s.xfer.exportRead = some r →
            s.grant = { s with xfer := { s.xfer with service := some { block := r.block, use := .exportRead } } }) ∧
          (s.xrdy = false ∨ s.xfer.exportRead = none → s.grant = s))))

/-- R156, R157, R158, R30: a delivered block of a taken frame becomes its write's next waiting block, one beyond the S-th is dropped; a
good frame end is recorded, and completes a write with every block done; the older of a lane's two frames may end after the newer
(log 25). The write completion makes the entry GOOD, and a STOPPING
lane without further writes is STOPPED, with LANE/STOPPED (newest assigned, the stop's cause; log 16). A port that is dropping a frame, or idle, brings nothing. -/
def Obligations.IngestPortsFeedTheirWrites : Prop :=
  ∀ (s : State) (l : Fin 8), s.resetHeld = false →
    let x := s.lane l
    let ported := fun p : PortFrame => s.setLane l { x with port := p }
    (∀ lfn n d, x.port = .taking lfn n →
      (n < x.s → exec (.ingestBlockDelivered l d) s = .next (((ported (.taking lfn (n + 1))).setIngest l
        ((s.ingest l).map fun w => if w.lfn = lfn then { w with waiting := w.waiting ++ [d] } else w)).grant)) ∧
      (x.s ≤ n → exec (.ingestBlockDelivered l d) s = .next (ported (.taking lfn (n + 1))))) ∧
    (∀ frame lfn port unended older w newer, x.ends frame lfn x.s port unended → s.ingest l = older ++ w :: newer →
      w.lfn = lfn → (∀ y ∈ older ++ newer, y.lfn ≠ lfn) →
      let ended := s.setLane l { x with port, unended }
      (w.done ≠ w.size → exec (.frameEnd l { frame, streamFault := false }) s =
        .next (ended.setIngest l (older ++ { w with ended := true } :: newer))) ∧
      (w.done = w.size → exec (.frameEnd l { frame, streamFault := false }) s =
        .next ((ended.setIngest l (older ++ newer)).writeCompleted l lfn))) ∧
    (∀ lfn,
      let entries := x.entries.map fun e => if e.lfn = lfn then { e with status := .good } else e
      let t := s.writeCompleted l lfn
      t.lane l = { x with
        entries, state := if x.state = .stopping ∧ (∀ e ∈ entries, e.status ≠ .writing) then .stopped else x.state } ∧
      (∀ m, m ≠ l → t.lane m = s.lane m) ∧ ∃ own, x.newestBytes own ∧ { t with lanes := s.lanes } = s.posts (
        if x.state = .stopping ∧ (∀ e ∈ entries, e.status ≠ .writing)
        then [(.lane, 2, l.val, x.stoppedData own (if x.stopCause = .recStop then 0 else 1))] else [])) ∧
    (x.port = .dropping ∨ x.port = .idle →
      (∀ d, exec (.ingestBlockDelivered l d) s = .next s) ∧
      ∀ fault, exec (.frameEnd l { frame := none, streamFault := fault }) s = .next (ported .idle)) ∧
    ∀ lfn fault, (∀ k, x.port ≠ .taking lfn k) → (∀ f ∈ x.unended, f.lfn ≠ lfn) →
      exec (.frameEnd l { frame := some lfn, streamFault := fault }) s = .next s

/-- R123, R154, R158 to R162, R164, R165, R166, R32: the completion of the block in service is counted to its write, streamed to its
channel's staging body or sent on the export port (zeros for a failed block); the last block completes the write or the fetch, and a
failed one ends the fetch with STORE set; each failed block posts STORE/READ_ERROR, before the CHANNEL/FLAG of STORE (the model's choice,
log 31). Then the store is idle and granted anew. A block
whose transfer is gone is counted to nobody; a block number outside the store faults (log 29). -/
def Obligations.BlockCompletionsReachTheirRequester : Prop :=
  ∀ (s : State) (v : InService) (good : Bool), s.resetHeld = false → s.xfer.service = some v →
    let done := fun t : State =>
      Host.Outcome.next (φ := Fault) (ρ := Refusal) { t with xfer := { t.xfer with service := none } }.grant
    let written := fun d : BlockData => { s with store := Sparse.insert s.store v.block d }
    let unclaimed := fun (t : State) (f : FrameRef) => t.setLane f.lane { t.lane f.lane with
      entries := (t.lane f.lane).entries.map fun e => if e.lfn = f.lfn then { e with readCount := e.readCount - 1 } else e }
    let failed := fun (t : State) (l : Fin 8) (lfn k requester : Nat) => t.post .store 0 l.val
      (leBytes 4 v.block ++ lfnBytes lfn ++ leBytes 1 k ++ leBytes 1 requester)
    (262144 ≤ v.block → exec (.blockCompletion good) s = .fault .noSuchBlock) ∧
    (v.block < 262144 →
      (∀ l lfn d older w newer, v.use = .write l lfn d → s.ingest l = older ++ w :: newer → w.lfn = lfn →
        (∀ y ∈ older ++ newer, y.lfn ≠ lfn) →
        exec (.blockCompletion good) s = done (if w.ended = true ∧ w.done + 1 = w.size
          then ((written d).setIngest l (older ++ newer)).writeCompleted l lfn
          else (written d).setIngest l (older ++ { w with done := w.done + 1 } :: newer))) ∧
      (∀ c k f, v.use = .fetch c k → s.fetchOf c = some f →
        let port := s.outPort c
        let streamed := s.setOutPort c { port with staging := some (port.staging.getD [] ++ [s.readBlock v.block]) }
        (good = true → f.done + 1 ≠ f.size →
          exec (.blockCompletion good) s = done (streamed.setFetch c (some { f with done := f.done + 1 }))) ∧
        (good = true → f.done + 1 = f.size → exec (.blockCompletion good) s =
          done ((unclaimed (streamed.setFetch c none) f.frame).setChannel c
            { s.channel c with fetch := none, next := some f.frame })) ∧
        (good = false → exec (.blockCompletion good) s =
          (let t := (failed s f.frame.lane f.frame.lfn k c.val).setOutPort c { port with staging := none }
          done (((unclaimed (t.setFetch c none) f.frame).setChannel c { s.channel c with fetch := none }).setFlag c
            .store)))) ∧
      (∀ r, v.use = .exportRead → s.xfer.exportRead = some r →
        let sent := fun d : BlockData => { s with xfer := { s.xfer with exportRead := none }, emitted := s.emitted ++ [.portBlock d] }
        (good = true → exec (.blockCompletion good) s = done ((sent (s.readBlock v.block)).exportBlockDone true)) ∧
        (good = false → exec (.blockCompletion good) s =
          done ((failed (sent 0) r.lane r.lfn r.index 4).exportBlockDone false))) ∧
      (∀ d, v.use = .orphanWrite d → exec (.blockCompletion good) s = done (written d)) ∧
      (v.use = .orphanRead → exec (.blockCompletion good) s = done s)) ∧
    ∀ d b, (written d).readBlock b = if b = v.block then d else s.readBlock b

/-! ### Clip Export (spec/09) -/

/-- R170, R171: EXPORT START's checks in their order; an accepted one sets the export lock (with admission of the whole clip when it was
not locked), takes the clip, fills the record, sends the Start record, walks, and answers ACCEPTED with the first and last LFN and the
lane's held count. -/
def Obligations.ExportStartLocksTakesAndWalks : Prop :=
  ∀ (s : State) (h : Header) (n a b tag : Nat), s.Ready h .exportStart → 1 ≤ n → n ≤ 1023 → a ≤ 4294967295 → b ≤ 4294967295 →
    tag ≤ 4294967295 →
    let c := s.clip n
    let refused := fun st : Status => exec (.exportStart h n a b tag) s = .next (s.answers h .exportStart st [])
    (s.exporter.state = .running → refused .busy) ∧
    (s.exporter.state = .idle →
      (c.state = .free → refused .clipFree) ∧
      (c.state ≠ .free → c.vl < s.effective h → refused .rights) ∧
      (c.state ≠ .free → s.effective h ≤ c.vl →
        (c.state = .absent → refused .clipAbsent) ∧ (c.state = .opened → refused .clipOpen) ∧
        ∀ out, c.state = .closed → c.out = some out →
          (b < a ∨ out - c.inLfn < b → refused .range) ∧
          (a ≤ b → b ≤ out - c.inLfn →
            let started := fun t : State =>
              let k := { c with exportLock := true, useCount := c.useCount + 1 }
              let e : Exporter :=
                { state := .running, clip := n, lane := c.lane, fromOffset := a, toOffset := b, first := c.inLfn + a,
                  last := c.inLfn + b, tag, next := c.inLfn + a, frame := s.exporter.frame, abort := false, sent := 0,
                  gaps := 0, gapSent := false, damaged := 0, stall := 0, limit := s.exporter.limit,
                  lastResult := s.exporter.lastResult }
              State.walkOn { t.setClip n k with
                exporter := e
                emitted := t.emitted ++ [.portRecord ([1] ++ leBytes 4 tag ++ leBytes 2 n ++ leBytes 1 c.lane.val ++
                  lfnBytes e.first ++ lfnBytes e.last)] }
            let accepted := fun t : State => exec (.exportStart h n a b tag) s = .next (t.answers h .exportStart .accepted
              (lfnBytes (c.inLfn + a) ++ lfnBytes (c.inLfn + b) ++ leBytes 2 (t.lane c.lane).held))
            let range : LfnRange := { lo := c.inLfn, hi := some out }
            (c.opLock = true ∨ c.exportLock = true → accepted (started s)) ∧
            (c.opLock = false → c.exportLock = false →
              (s.admitLock c.lane range = none → refused .lockBudget) ∧
              ∀ t, s.admitLock c.lane range = some t → accepted (started t)))))

/-- R172, R176, R179: the walk sends a Gap record for each LFN without a GOOD entry, up to the last, and begins a frame at the first that
has one, with its claim, its header and its first block read. The end of an export sends the End record, lets the lock and the clip go,
keeps the record's counts, and posts EXPORT/END, which tells whether a Gap record was sent. The 32-bit counts wrap (log 44). -/
def Obligations.TheWalkSendsGapsAndBeginsFrames : Prop :=
  ∀ s : State,
    let e := s.exporter
    let x := s.lane e.lane
    let gapped : State := { s with
      exporter := { e with gaps := e.gaps + 1, gapSent := true }, emitted := s.emitted ++ [.portRecord ([4] ++ lfnBytes e.next)] }
    (e.next ≤ e.last → x.entries.Pairwise (fun i j => i.lfn < j.lfn) →
      (∀ en ∈ x.entries, en.lfn = e.next → en.status = .good → s.walkOn =
        State.grant { s.setLane e.lane { x with
            entries := x.entries.map fun i => if i.lfn = e.next then { i with readCount := i.readCount + 1 } else i } with
          exporter := { e with frame := some { lfn := e.next, slot := en.slot, sent := 0, failed := false } }
          emitted := s.emitted ++ [.portRecord ([2] ++ lfnBytes e.next ++ en.timecode.bytes ++ leBytes 1 en.phase ++
            leBytes 1 x.s)]
          xfer := { s.xfer with
            exportRead := some { block := x.base + en.slot * x.s, lane := e.lane, lfn := e.next, index := 0 } } }) ∧
      ((∀ en ∈ x.entries, en.lfn = e.next → en.status ≠ .good) →
        (e.next = e.last → s.walkOn = gapped.endExport .complete) ∧
        (e.next < e.last → s.walkOn =
          State.walkOn { gapped with exporter := { gapped.exporter with next := e.next + 1 } }))) ∧
    ∀ r : ExportResult, (s.clip e.clip).state ≠ .free →
      let c := s.clip e.clip
      let unlocked := { c with exportLock := false }
      let record := [5] ++ leBytes 4 e.tag ++ leBytes 1 r.code ++ leBytes 4 e.sent.toNat ++ leBytes 4 e.gaps.toNat ++
        leBytes 4 e.damaged.toNat
      let t1 := State.setClip { s with emitted := s.emitted ++ [.portRecord record] } e.clip unlocked
      let t2 := match c.opLock, c.range with
        | false, some range => t1.release c.lane range
        | _, _ => t1
      let t3 : State := { t2.setClip e.clip { unlocked with useCount := c.useCount - 1 } with
        exporter := { e with lastResult := some r, abort := false, stall := 0, state := .idle } }
      s.endExport r = t3.post .exporting 0 e.clip
        (leBytes 4 e.tag ++ leBytes 1 r.code ++ leBytes 2 (min e.damaged.toNat 65535) ++ [if e.gapSent then 1 else 0])

/-- R173, R175: a block completion counts the block; with abort pending the export ends ABORTED with a DAMAGED trailer; else the next
block of the slot is handed, or the frame ends, DAMAGED when a block failed, and the walk goes on or the export ends COMPLETE. -/
def Obligations.ExportBlocksMakeUpFrames : Prop :=
  ∀ (s : State) (good : Bool) (f : ExportFrame), s.exporter.frame = some f →
    let e := s.exporter
    let x := s.lane e.lane
    let bad := f.failed || !good
    let ended : Bool → State := fun damaged =>
      { s.setLane e.lane { x with
          entries := x.entries.map fun i => if i.lfn = f.lfn then { i with readCount := i.readCount - 1 } else i } with
        exporter := { e with sent := e.sent + 1, damaged := if damaged then e.damaged + 1 else e.damaged, frame := none }
        emitted := s.emitted ++ [.portRecord ([3] ++ lfnBytes f.lfn ++ [if damaged then 1 else 0])] }
    (e.abort = true → s.exportBlockDone good = (ended true).endExport .aborted) ∧
    (e.abort = false → f.sent + 1 < x.s → s.exportBlockDone good = State.grant { s with
      exporter := { e with frame := some { f with sent := f.sent + 1, failed := bad } }
      xfer := { s.xfer with
        exportRead := some { block := x.base + f.slot * x.s + (f.sent + 1), lane := e.lane, lfn := f.lfn,
                             index := f.sent + 1 } } }) ∧
    (e.abort = false → x.s ≤ f.sent + 1 →
      (f.lfn = e.last → s.exportBlockDone good = (ended bad).endExport .complete) ∧
      (f.lfn ≠ e.last → s.exportBlockDone good =
        State.walkOn { ended bad with exporter := { (ended bad).exporter with next := f.lfn + 1 } }))

/-- R162, R174, R175, R177: XRDY asserted clears the stall counter and lets the block read be granted; deasserted, it holds it. A tick
counts while the sink holds the export, and at the limit ends it STALLED, or ABORTED with abort pending, its block read withdrawn and
its frame DAMAGED; EXPORT_STALL is that case (log 10). EXPORT ABORT sets abort pending; EXPORT CONFIG replaces the limit. -/
def Obligations.StallsAbortsAndTheReadyInput : Prop :=
  ∀ (s : State) (h : Header),
    let e := s.exporter
    let x := s.lane e.lane
    let held := e.state = .running ∧ s.xrdy = false ∧ s.xfer.exportRead ≠ none ∧
      ∀ v, s.xfer.service = some v → v.use ≠ .exportRead
    let count := min 255 (e.stall + 1)
    let limited := 0 < e.limit ∧ e.limit ≤ count
    let result : ExportResult := if e.abort = true then .aborted else .stalled
    let stalled : ExportFrame → State := fun f =>
      State.endExport { s.setLane e.lane { x with
          entries := x.entries.map fun i => if i.lfn = f.lfn then { i with readCount := i.readCount - 1 } else i } with
        exporter := { e with stall := count, sent := e.sent + 1, damaged := e.damaged + 1, frame := none }
        xfer := { s.xfer with exportRead := none }
        emitted := s.emitted ++ [.portRecord ([3] ++ lfnBytes f.lfn ++ [1])] } result
    (s.resetHeld = false →
      exec .xrdyAsserted s = .next (State.grant { s with xrdy := true, exporter := { e with stall := 0 } }) ∧
      (∀ f, held → limited → e.frame = some f → exec .exportStall s = .next (stalled f)) ∧
      (¬(held ∧ limited) → exec .exportStall s = .next s)) ∧
    exec .xrdyDeasserted s = .next { s with xrdy := false } ∧
    (¬held → s.tickAction .exporter = s) ∧
    (held → ¬limited → s.tickAction .exporter = { s with exporter := { e with stall := count } }) ∧
    (∀ f, held → limited → e.frame = some f → s.tickAction .exporter = stalled f) ∧
    (s.Ready h .exportAbort →
      (e.state = .idle → exec (.exportAbort h) s = .next (s.answers h .exportAbort .wrongState [])) ∧
      (e.state = .running → exec (.exportAbort h) s =
        .next (State.answers { s with exporter := { e with abort := true } } h .exportAbort .ok []))) ∧
    (∀ limit, s.Ready h .exportConfig →
      (limit ≤ 255 → exec (.exportConfig h limit) s =
        .next (State.answers { s with exporter := { e with limit } } h .exportConfig .ok [])) ∧
      (255 < limit → exec (.exportConfig h limit) s = .next (s.answers h .exportConfig .badField [])))

/-! ### Cue Lines (spec/10) -/

/-- R181, R183, R187, R188: CUE LINE CONFIG within its ranges replaces the configuration, arms the line and puts it at rest (a
STATE line at its channel's level); n is checked for PULSE alone (log 39); CUE LINE FIRE performs the action, posts CUE/FIRED
and leaves the armed marker; a tick counts a pulse down, and its end returns the output to idle. R184, R185, R186: an armed
COMPARE line fires when its channel's on-air frame crosses the compare LFN in a direction it watches; an armed SEGMENT line
when its channel reports a segue to its entry; each posts CUE/FIRED, in ascending order of the lines (log 31), and re-arm ONCE
disarms it. A STATE line is active while its channel is PLAYING. No other line changes. -/
def Obligations.CueLinesFireAndWatchTheirChannel : Prop :=
  (∀ (s : State) (h : Header) (k : Fin 8),
     let q := s.cue k
     let fired : CueLine := match q.action with
       | .pulse n => { q with active := true, pulse := n }
       | .set => { q with active := true, pulse := 0 }
       | .clear => { q with active := false, pulse := 0 }
       | .toggle => { q with active := !q.active, pulse := 0 }
     (∀ (mode : CueMode) (c : Fin 4) (lfn : Nat) (direction : CueDirection) (rearm : CueRearm) (action : CueAction)
         (idleHigh : Bool) (b : Fin 8) (e : Fin 32) (n : Nat), s.Ready h .cueLineConfig → lfn ≤ 4294967295 →
       (∀ i, action = .pulse i → n = i ∧ 1 ≤ i ∧ i ≤ 255) →
       exec (.cueLineConfig h
           { line := k.val, mode := mode.code, channel := c.val, compareLfn := lfn, direction := direction.code,
             rearm := rearm.code, action := action.code, n, idleLevel := if idleHigh then 1 else 0, bank := b.val,
             entry := e.val }) s =
         .next ((s.setCue k
           { mode, channel := c, compareLfn := lfn, direction, rearm, action, idleHigh, bank := b, entry := e,
             active := mode == .state && (s.channel c).state == .playing, pulse := 0, armed := true }).answers
         h .cueLineConfig .ok [])) ∧
     (s.Ready h .cueLineFire →
       (q.mode = .off ∨ q.mode = .state → exec (.cueLineFire h k.val) s = .next (s.answers h .cueLineFire .wrongState [])) ∧
       (q.mode = .compare ∨ q.mode = .segment → exec (.cueLineFire h k.val) s =
         .next (((s.setCue k fired).post .cue 0 k.val
           ([2] ++ leBytes 1 q.channel.val ++ [0, 0, 0, 0, 0xFF, if fired.active then 1 else 0])).answers
           h .cueLineFire .ok ([if fired.active then 1 else 0] ++ leBytes 1 fired.pulse)))) ∧
     (s.resetHeld = false →
       (q.pulse = 1 → exec (.pulseEnd k) s = .next (s.setCue k { q with pulse := 0, active := false })) ∧
       (q.pulse ≠ 1 → exec (.pulseEnd k) s = .next s)) ∧
     (q.pulse = 0 → s.tickAction (.cueLine k) = s) ∧
     (q.pulse = 1 → s.tickAction (.cueLine k) = s.setCue k { q with pulse := 0, active := false }) ∧
     (2 ≤ q.pulse → s.tickAction (.cueLine k) = s.setCue k { q with pulse := q.pulse - 1 })) ∧
  (∀ (s : State) (c : Fin 4) (old new : FrameRef) (b : Fin 8) (e : Fin 32) (y : Channel),
     let fired := fun q : CueLine =>
       let r : CueLine := { q with armed := q.rearm == .every }
       match q.action with
       | .pulse n => { r with active := true, pulse := n }
       | .set => { r with active := true, pulse := 0 }
       | .clear => { r with active := false, pulse := 0 }
       | .toggle => { r with active := !q.active, pulse := 0 }
     let crossed := fun q : CueLine => q.mode = .compare ∧ q.channel = c ∧ q.armed = true ∧ old.lane = new.lane ∧
       ((q.direction ≠ .reverse ∧ old.lfn < q.compareLfn ∧ q.compareLfn ≤ new.lfn) ∨
         (q.direction ≠ .forward ∧ new.lfn < q.compareLfn ∧ q.compareLfn ≤ old.lfn))
     let reached := fun q : CueLine => q.mode = .segment ∧ q.channel = c ∧ q.armed = true ∧ q.bank = b ∧ q.entry = e
     let fires := fun (lines : List (Fin 8)) (cause : Byte) (detail : List Byte) (direction : CueLine → Byte) =>
       lines.foldl (fun t k => (t.setCue k (fired (s.cue k))).post .cue 0 k.val
         ([cause, BitVec.ofNat 8 c.val] ++ detail ++ [direction (s.cue k), if (fired (s.cue k)).active then 1 else 0])) s
     let only := fun t : State => { t with cues := s.cues, link := s.link, fresh := s.fresh } = s ∧ s.link.OnlyPosts t.link
     s.reportFrame c (some old) new = fires ([0, 1, 2, 3, 4, 5, 6, 7].filter fun k => decide (crossed (s.cue k))) 0
       (lfnBytes new.lfn) (fun q => if old.lfn < q.compareLfn then 0 else 1) ∧
     s.reportSegue c b e = fires ([0, 1, 2, 3, 4, 5, 6, 7].filter fun k => decide (reached (s.cue k))) 1
       (leBytes 1 b.val ++ leBytes 1 e.val ++ [0, 0]) (fun _ => 0xFF) ∧
     (∀ k, (crossed (s.cue k) → (s.reportFrame c (some old) new).cue k = fired (s.cue k)) ∧
       (¬crossed (s.cue k) → (s.reportFrame c (some old) new).cue k = s.cue k)) ∧
     only (s.reportFrame c (some old) new) ∧ s.reportFrame c none new = s ∧
     (∀ k, (reached (s.cue k) → (s.reportSegue c b e).cue k = fired (s.cue k)) ∧
       (¬reached (s.cue k) → (s.reportSegue c b e).cue k = s.cue k)) ∧
     only (s.reportSegue c b e) ∧
     (∀ k, (s.setChannel c y).cue k =
       if (s.cue k).mode = .state ∧ (s.cue k).channel = c ∧ ((s.channel c).state = .playing ↔ y.state ≠ .playing)
       then { s.cue k with active := y.state == .playing } else s.cue k) ∧
     { s.setChannel c y with cues := s.cues } = { s with channels := s.channels.set c y })

/-! ### Commands that only read -/

/-- R201, R40, R41, R101, R128, R135, R178, R187: the status and read commands answer with what stands and change nothing. -/
def Obligations.StatusCommandsChangeNothing : Prop :=
  ∀ (s : State) (h : Header),
    (s.Ready h .unitStatus → exec (.unitStatus h) s = .next (s.answers h .unitStatus .ok
      (leBytes 1 s.link.unitAddress.val ++ leBytes 1 s.refu.state.code ++ s.refu.timecode.bytes ++ leBytes 4 s.refu.rpn.toNat ++
        allLanes.flatMap (fun l => leBytes 1 (s.lane l).state.code) ++
        allChannels.flatMap (fun c => leBytes 1 (s.channel c).state.code) ++ leBytes 1 s.exporter.state.code ++
        leBytes 1 s.link.notices.length ++ flagBytes s.link.overflow ++ flagBytes s.link.overrun))) ∧
    (∀ (l : Fin 8) (start : Nat), s.Ready h .indexRead → start ≤ 4294967295 →
      exec (.indexRead h l.val start) s = .next (s.answers h .indexRead .ok ((s.lane l).indexBytes s.fresh start))) ∧
    (∀ l : Fin 8, s.Ready h .laneStatus →
      exec (.laneStatus h l.val) s = .next (s.answers h .laneStatus .ok ((s.lane l).statusBytes s.fresh))) ∧
    (∀ v : Fin 4, s.Ready h .leverStatus → exec (.leverStatus h v.val) s =
      .next (s.answers h .leverStatus .ok (s.leverStatusBytes v))) ∧
    (∀ c : Fin 4, s.Ready h .channelStatus →
      exec (.channelStatus h c.val) s = .next (s.answers h .channelStatus .ok (s.channelStatusBytes (s.channel c)))) ∧
    (∀ (b : Fin 8) (es : List (Fin 32)) (first : Nat), s.Ready h .bankRead → 1 ≤ es.length → es.length ≤ 8 →
      es.map Fin.val = (List.range es.length).map (first + ·) →
      exec (.bankRead h b.val first es.length) s = .next (s.answers h .bankRead .ok
        (leBytes 1 es.length ++ es.flatMap (fun e => (s.segment b e).bytes) ++ leBytes 1 es.length ++
          es.flatMap fun e => [maskOf (s.activeOn b e)]))) ∧
    (s.Ready h .exportStatus → exec (.exportStatus h) s = .next (s.answers h .exportStatus .ok s.exportStatusBytes)) ∧
    (∀ k : Fin 8, s.Ready h .cueLineStatus →
      exec (.cueLineStatus h k.val) s = .next (s.answers h .cueLineStatus .ok (s.cue k).statusBytes))

/-! ### What every step keeps -/

/-- R3, R6, R11, R13, R154, R195, R196, R197: every step keeps the Link Interface sound, the Reference Unit in its ranges with the window
timer N or more after the tick, and the frame store in its one form, within its 262,144 blocks. -/
def Obligations.EveryStepKeepsLinkReferenceAndStoreSound : Prop :=
  ∀ s t : State, step s = .next t → (s.link.sound → t.link.sound) ∧ (s.refu.sound → t.refu.sound) ∧
    (Memory.wf s.store → Memory.wf t.store)

/-- R20, R23, R26, R32, R33, R34: every step keeps every lane and its partition sound: entries in LFN order over distinct slots, all K slots
entry or free, no more than P arrivals and two pending writes, and the held count within H. With a sound Clip Table and sound uses of its
clips, every step keeps the held count equal to the number of entries that locked clips of the lane cover (R33), and every entry's read
count equal to the fetches in flight on it and the export frame in progress on it, each on a GOOD entry (R32). -/
def Obligations.EveryStepKeepsLanesSound : Prop :=
  ∀ s t : State, step s = .next t → (∀ l, (s.lane l).sound) →
    (∀ l, (t.lane l).sound) ∧
    (s.clipsSound → s.usesSound → s.protectionSound → s.claimsSound → t.protectionSound ∧ t.claimsSound)

/-- R44, R50, R62, R66, R67, R77: every step keeps the Clip Table sound, every clip's use count equal to what holds the clip, and the
working clip shared by the lines of one binding. -/
def Obligations.EveryStepKeepsClipsSound : Prop :=
  ∀ s t : State, step s = .next t → s.clipsSound ∧ s.usesSound → t.clipsSound ∧ t.usesSound

/-- The state after reset meets every invariant. -/
def Obligations.ResetMeetsTheInvariants : Prop :=
  State.reset.link.sound ∧ State.reset.refu.sound ∧ Memory.wf State.reset.store ∧ (∀ l, (State.reset.lane l).sound) ∧
    State.reset.clipsSound ∧ State.reset.usesSound ∧ State.reset.protectionSound ∧ State.reset.claimsSound
end

