-- ==== Sys2Proof/Laws/State.lean ====
section
/-!
SUPPORT. What each update of the state leaves alone, one lemma per field, and what it puts in its place.
-/

namespace Sys2Proof.Machine

/-! ### Fields an update leaves alone -/

@[simp] theorem State.setLane_resetHeld (s : State) (l : Fin 8) (x : Lane) : (s.setLane l x).resetHeld = s.resetHeld := rfl
@[simp] theorem State.setLane_refu (s : State) (l : Fin 8) (x : Lane) : (s.setLane l x).refu = s.refu := rfl
@[simp] theorem State.setLane_clips (s : State) (l : Fin 8) (x : Lane) : (s.setLane l x).clips = s.clips := rfl
@[simp] theorem State.setLane_marks (s : State) (l : Fin 8) (x : Lane) : (s.setLane l x).marks = s.marks := rfl
@[simp] theorem State.setLane_jogs (s : State) (l : Fin 8) (x : Lane) : (s.setLane l x).jogs = s.jogs := rfl
@[simp] theorem State.setLane_levers (s : State) (l : Fin 8) (x : Lane) : (s.setLane l x).levers = s.levers := rfl
@[simp] theorem State.setLane_scanList (s : State) (l : Fin 8) (x : Lane) : (s.setLane l x).scanList = s.scanList := rfl
@[simp] theorem State.setLane_underWay (s : State) (l : Fin 8) (x : Lane) : (s.setLane l x).underWay = s.underWay := rfl
@[simp] theorem State.setLane_channels (s : State) (l : Fin 8) (x : Lane) : (s.setLane l x).channels = s.channels := rfl
@[simp] theorem State.setLane_outPorts (s : State) (l : Fin 8) (x : Lane) : (s.setLane l x).outPorts = s.outPorts := rfl
@[simp] theorem State.setLane_banks (s : State) (l : Fin 8) (x : Lane) : (s.setLane l x).banks = s.banks := rfl
@[simp] theorem State.setLane_xfer (s : State) (l : Fin 8) (x : Lane) : (s.setLane l x).xfer = s.xfer := rfl
@[simp] theorem State.setLane_store (s : State) (l : Fin 8) (x : Lane) : (s.setLane l x).store = s.store := rfl
@[simp] theorem State.setLane_storeEpoch (s : State) (l : Fin 8) (x : Lane) : (s.setLane l x).storeEpoch = s.storeEpoch := rfl
@[simp] theorem State.setLane_exporter (s : State) (l : Fin 8) (x : Lane) : (s.setLane l x).exporter = s.exporter := rfl
@[simp] theorem State.setLane_xrdy (s : State) (l : Fin 8) (x : Lane) : (s.setLane l x).xrdy = s.xrdy := rfl
@[simp] theorem State.setLane_cues (s : State) (l : Fin 8) (x : Lane) : (s.setLane l x).cues = s.cues := rfl
@[simp] theorem State.setLane_link (s : State) (l : Fin 8) (x : Lane) : (s.setLane l x).link = s.link := rfl
@[simp] theorem State.setLane_emitted (s : State) (l : Fin 8) (x : Lane) : (s.setLane l x).emitted = s.emitted := rfl
@[simp] theorem State.setLane_fresh (s : State) (l : Fin 8) (x : Lane) : (s.setLane l x).fresh = s.fresh := rfl
@[simp] theorem State.setLane_pending (s : State) (l : Fin 8) (x : Lane) : (s.setLane l x).pending = s.pending := rfl

@[simp] theorem State.modifyLane_resetHeld (s : State) (l : Fin 8) (f : Lane → Lane) : (s.modifyLane l f).resetHeld = s.resetHeld := rfl
@[simp] theorem State.modifyLane_refu (s : State) (l : Fin 8) (f : Lane → Lane) : (s.modifyLane l f).refu = s.refu := rfl
@[simp] theorem State.modifyLane_clips (s : State) (l : Fin 8) (f : Lane → Lane) : (s.modifyLane l f).clips = s.clips := rfl
@[simp] theorem State.modifyLane_marks (s : State) (l : Fin 8) (f : Lane → Lane) : (s.modifyLane l f).marks = s.marks := rfl
@[simp] theorem State.modifyLane_jogs (s : State) (l : Fin 8) (f : Lane → Lane) : (s.modifyLane l f).jogs = s.jogs := rfl
@[simp] theorem State.modifyLane_levers (s : State) (l : Fin 8) (f : Lane → Lane) : (s.modifyLane l f).levers = s.levers := rfl
@[simp] theorem State.modifyLane_scanList (s : State) (l : Fin 8) (f : Lane → Lane) : (s.modifyLane l f).scanList = s.scanList := rfl
@[simp] theorem State.modifyLane_underWay (s : State) (l : Fin 8) (f : Lane → Lane) : (s.modifyLane l f).underWay = s.underWay := rfl
@[simp] theorem State.modifyLane_channels (s : State) (l : Fin 8) (f : Lane → Lane) : (s.modifyLane l f).channels = s.channels := rfl
@[simp] theorem State.modifyLane_outPorts (s : State) (l : Fin 8) (f : Lane → Lane) : (s.modifyLane l f).outPorts = s.outPorts := rfl
@[simp] theorem State.modifyLane_banks (s : State) (l : Fin 8) (f : Lane → Lane) : (s.modifyLane l f).banks = s.banks := rfl
@[simp] theorem State.modifyLane_xfer (s : State) (l : Fin 8) (f : Lane → Lane) : (s.modifyLane l f).xfer = s.xfer := rfl
@[simp] theorem State.modifyLane_store (s : State) (l : Fin 8) (f : Lane → Lane) : (s.modifyLane l f).store = s.store := rfl
@[simp] theorem State.modifyLane_storeEpoch (s : State) (l : Fin 8) (f : Lane → Lane) : (s.modifyLane l f).storeEpoch = s.storeEpoch := rfl
@[simp] theorem State.modifyLane_exporter (s : State) (l : Fin 8) (f : Lane → Lane) : (s.modifyLane l f).exporter = s.exporter := rfl
@[simp] theorem State.modifyLane_xrdy (s : State) (l : Fin 8) (f : Lane → Lane) : (s.modifyLane l f).xrdy = s.xrdy := rfl
@[simp] theorem State.modifyLane_cues (s : State) (l : Fin 8) (f : Lane → Lane) : (s.modifyLane l f).cues = s.cues := rfl
@[simp] theorem State.modifyLane_link (s : State) (l : Fin 8) (f : Lane → Lane) : (s.modifyLane l f).link = s.link := rfl
@[simp] theorem State.modifyLane_emitted (s : State) (l : Fin 8) (f : Lane → Lane) : (s.modifyLane l f).emitted = s.emitted := rfl
@[simp] theorem State.modifyLane_fresh (s : State) (l : Fin 8) (f : Lane → Lane) : (s.modifyLane l f).fresh = s.fresh := rfl
@[simp] theorem State.modifyLane_pending (s : State) (l : Fin 8) (f : Lane → Lane) : (s.modifyLane l f).pending = s.pending := rfl

@[simp] theorem State.setMark_resetHeld (s : State) (m : Fin 8) (x : MarkLine) : (s.setMark m x).resetHeld = s.resetHeld := rfl
@[simp] theorem State.setMark_refu (s : State) (m : Fin 8) (x : MarkLine) : (s.setMark m x).refu = s.refu := rfl
@[simp] theorem State.setMark_lanes (s : State) (m : Fin 8) (x : MarkLine) : (s.setMark m x).lanes = s.lanes := rfl
@[simp] theorem State.setMark_clips (s : State) (m : Fin 8) (x : MarkLine) : (s.setMark m x).clips = s.clips := rfl
@[simp] theorem State.setMark_jogs (s : State) (m : Fin 8) (x : MarkLine) : (s.setMark m x).jogs = s.jogs := rfl
@[simp] theorem State.setMark_levers (s : State) (m : Fin 8) (x : MarkLine) : (s.setMark m x).levers = s.levers := rfl
@[simp] theorem State.setMark_scanList (s : State) (m : Fin 8) (x : MarkLine) : (s.setMark m x).scanList = s.scanList := rfl
@[simp] theorem State.setMark_underWay (s : State) (m : Fin 8) (x : MarkLine) : (s.setMark m x).underWay = s.underWay := rfl
@[simp] theorem State.setMark_channels (s : State) (m : Fin 8) (x : MarkLine) : (s.setMark m x).channels = s.channels := rfl
@[simp] theorem State.setMark_outPorts (s : State) (m : Fin 8) (x : MarkLine) : (s.setMark m x).outPorts = s.outPorts := rfl
@[simp] theorem State.setMark_banks (s : State) (m : Fin 8) (x : MarkLine) : (s.setMark m x).banks = s.banks := rfl
@[simp] theorem State.setMark_xfer (s : State) (m : Fin 8) (x : MarkLine) : (s.setMark m x).xfer = s.xfer := rfl
@[simp] theorem State.setMark_store (s : State) (m : Fin 8) (x : MarkLine) : (s.setMark m x).store = s.store := rfl
@[simp] theorem State.setMark_storeEpoch (s : State) (m : Fin 8) (x : MarkLine) : (s.setMark m x).storeEpoch = s.storeEpoch := rfl
@[simp] theorem State.setMark_exporter (s : State) (m : Fin 8) (x : MarkLine) : (s.setMark m x).exporter = s.exporter := rfl
@[simp] theorem State.setMark_xrdy (s : State) (m : Fin 8) (x : MarkLine) : (s.setMark m x).xrdy = s.xrdy := rfl
@[simp] theorem State.setMark_cues (s : State) (m : Fin 8) (x : MarkLine) : (s.setMark m x).cues = s.cues := rfl
@[simp] theorem State.setMark_link (s : State) (m : Fin 8) (x : MarkLine) : (s.setMark m x).link = s.link := rfl
@[simp] theorem State.setMark_emitted (s : State) (m : Fin 8) (x : MarkLine) : (s.setMark m x).emitted = s.emitted := rfl
@[simp] theorem State.setMark_fresh (s : State) (m : Fin 8) (x : MarkLine) : (s.setMark m x).fresh = s.fresh := rfl
@[simp] theorem State.setMark_pending (s : State) (m : Fin 8) (x : MarkLine) : (s.setMark m x).pending = s.pending := rfl

@[simp] theorem State.setJog_resetHeld (s : State) (j : Fin 4) (x : Jog) : (s.setJog j x).resetHeld = s.resetHeld := rfl
@[simp] theorem State.setJog_refu (s : State) (j : Fin 4) (x : Jog) : (s.setJog j x).refu = s.refu := rfl
@[simp] theorem State.setJog_lanes (s : State) (j : Fin 4) (x : Jog) : (s.setJog j x).lanes = s.lanes := rfl
@[simp] theorem State.setJog_clips (s : State) (j : Fin 4) (x : Jog) : (s.setJog j x).clips = s.clips := rfl
@[simp] theorem State.setJog_marks (s : State) (j : Fin 4) (x : Jog) : (s.setJog j x).marks = s.marks := rfl
@[simp] theorem State.setJog_levers (s : State) (j : Fin 4) (x : Jog) : (s.setJog j x).levers = s.levers := rfl
@[simp] theorem State.setJog_scanList (s : State) (j : Fin 4) (x : Jog) : (s.setJog j x).scanList = s.scanList := rfl
@[simp] theorem State.setJog_underWay (s : State) (j : Fin 4) (x : Jog) : (s.setJog j x).underWay = s.underWay := rfl
@[simp] theorem State.setJog_channels (s : State) (j : Fin 4) (x : Jog) : (s.setJog j x).channels = s.channels := rfl
@[simp] theorem State.setJog_outPorts (s : State) (j : Fin 4) (x : Jog) : (s.setJog j x).outPorts = s.outPorts := rfl
@[simp] theorem State.setJog_banks (s : State) (j : Fin 4) (x : Jog) : (s.setJog j x).banks = s.banks := rfl
@[simp] theorem State.setJog_xfer (s : State) (j : Fin 4) (x : Jog) : (s.setJog j x).xfer = s.xfer := rfl
@[simp] theorem State.setJog_store (s : State) (j : Fin 4) (x : Jog) : (s.setJog j x).store = s.store := rfl
@[simp] theorem State.setJog_storeEpoch (s : State) (j : Fin 4) (x : Jog) : (s.setJog j x).storeEpoch = s.storeEpoch := rfl
@[simp] theorem State.setJog_exporter (s : State) (j : Fin 4) (x : Jog) : (s.setJog j x).exporter = s.exporter := rfl
@[simp] theorem State.setJog_xrdy (s : State) (j : Fin 4) (x : Jog) : (s.setJog j x).xrdy = s.xrdy := rfl
@[simp] theorem State.setJog_cues (s : State) (j : Fin 4) (x : Jog) : (s.setJog j x).cues = s.cues := rfl
@[simp] theorem State.setJog_link (s : State) (j : Fin 4) (x : Jog) : (s.setJog j x).link = s.link := rfl
@[simp] theorem State.setJog_emitted (s : State) (j : Fin 4) (x : Jog) : (s.setJog j x).emitted = s.emitted := rfl
@[simp] theorem State.setJog_fresh (s : State) (j : Fin 4) (x : Jog) : (s.setJog j x).fresh = s.fresh := rfl
@[simp] theorem State.setJog_pending (s : State) (j : Fin 4) (x : Jog) : (s.setJog j x).pending = s.pending := rfl

@[simp] theorem State.setLever_resetHeld (s : State) (v : Fin 4) (x : Lever) : (s.setLever v x).resetHeld = s.resetHeld := rfl
@[simp] theorem State.setLever_refu (s : State) (v : Fin 4) (x : Lever) : (s.setLever v x).refu = s.refu := rfl
@[simp] theorem State.setLever_lanes (s : State) (v : Fin 4) (x : Lever) : (s.setLever v x).lanes = s.lanes := rfl
@[simp] theorem State.setLever_clips (s : State) (v : Fin 4) (x : Lever) : (s.setLever v x).clips = s.clips := rfl
@[simp] theorem State.setLever_marks (s : State) (v : Fin 4) (x : Lever) : (s.setLever v x).marks = s.marks := rfl
@[simp] theorem State.setLever_jogs (s : State) (v : Fin 4) (x : Lever) : (s.setLever v x).jogs = s.jogs := rfl
@[simp] theorem State.setLever_scanList (s : State) (v : Fin 4) (x : Lever) : (s.setLever v x).scanList = s.scanList := rfl
@[simp] theorem State.setLever_underWay (s : State) (v : Fin 4) (x : Lever) : (s.setLever v x).underWay = s.underWay := rfl
@[simp] theorem State.setLever_channels (s : State) (v : Fin 4) (x : Lever) : (s.setLever v x).channels = s.channels := rfl
@[simp] theorem State.setLever_outPorts (s : State) (v : Fin 4) (x : Lever) : (s.setLever v x).outPorts = s.outPorts := rfl
@[simp] theorem State.setLever_banks (s : State) (v : Fin 4) (x : Lever) : (s.setLever v x).banks = s.banks := rfl
@[simp] theorem State.setLever_xfer (s : State) (v : Fin 4) (x : Lever) : (s.setLever v x).xfer = s.xfer := rfl
@[simp] theorem State.setLever_store (s : State) (v : Fin 4) (x : Lever) : (s.setLever v x).store = s.store := rfl
@[simp] theorem State.setLever_storeEpoch (s : State) (v : Fin 4) (x : Lever) : (s.setLever v x).storeEpoch = s.storeEpoch := rfl
@[simp] theorem State.setLever_exporter (s : State) (v : Fin 4) (x : Lever) : (s.setLever v x).exporter = s.exporter := rfl
@[simp] theorem State.setLever_xrdy (s : State) (v : Fin 4) (x : Lever) : (s.setLever v x).xrdy = s.xrdy := rfl
@[simp] theorem State.setLever_cues (s : State) (v : Fin 4) (x : Lever) : (s.setLever v x).cues = s.cues := rfl
@[simp] theorem State.setLever_link (s : State) (v : Fin 4) (x : Lever) : (s.setLever v x).link = s.link := rfl
@[simp] theorem State.setLever_emitted (s : State) (v : Fin 4) (x : Lever) : (s.setLever v x).emitted = s.emitted := rfl
@[simp] theorem State.setLever_fresh (s : State) (v : Fin 4) (x : Lever) : (s.setLever v x).fresh = s.fresh := rfl
@[simp] theorem State.setLever_pending (s : State) (v : Fin 4) (x : Lever) : (s.setLever v x).pending = s.pending := rfl

@[simp] theorem State.setOutPort_resetHeld (s : State) (c : Fin 4) (x : OutputPort) : (s.setOutPort c x).resetHeld = s.resetHeld := rfl
@[simp] theorem State.setOutPort_refu (s : State) (c : Fin 4) (x : OutputPort) : (s.setOutPort c x).refu = s.refu := rfl
@[simp] theorem State.setOutPort_lanes (s : State) (c : Fin 4) (x : OutputPort) : (s.setOutPort c x).lanes = s.lanes := rfl
@[simp] theorem State.setOutPort_clips (s : State) (c : Fin 4) (x : OutputPort) : (s.setOutPort c x).clips = s.clips := rfl
@[simp] theorem State.setOutPort_marks (s : State) (c : Fin 4) (x : OutputPort) : (s.setOutPort c x).marks = s.marks := rfl
@[simp] theorem State.setOutPort_jogs (s : State) (c : Fin 4) (x : OutputPort) : (s.setOutPort c x).jogs = s.jogs := rfl
@[simp] theorem State.setOutPort_levers (s : State) (c : Fin 4) (x : OutputPort) : (s.setOutPort c x).levers = s.levers := rfl
@[simp] theorem State.setOutPort_scanList (s : State) (c : Fin 4) (x : OutputPort) : (s.setOutPort c x).scanList = s.scanList := rfl
@[simp] theorem State.setOutPort_underWay (s : State) (c : Fin 4) (x : OutputPort) : (s.setOutPort c x).underWay = s.underWay := rfl
@[simp] theorem State.setOutPort_channels (s : State) (c : Fin 4) (x : OutputPort) : (s.setOutPort c x).channels = s.channels := rfl
@[simp] theorem State.setOutPort_banks (s : State) (c : Fin 4) (x : OutputPort) : (s.setOutPort c x).banks = s.banks := rfl
@[simp] theorem State.setOutPort_xfer (s : State) (c : Fin 4) (x : OutputPort) : (s.setOutPort c x).xfer = s.xfer := rfl
@[simp] theorem State.setOutPort_store (s : State) (c : Fin 4) (x : OutputPort) : (s.setOutPort c x).store = s.store := rfl
@[simp] theorem State.setOutPort_storeEpoch (s : State) (c : Fin 4) (x : OutputPort) : (s.setOutPort c x).storeEpoch = s.storeEpoch := rfl
@[simp] theorem State.setOutPort_exporter (s : State) (c : Fin 4) (x : OutputPort) : (s.setOutPort c x).exporter = s.exporter := rfl
@[simp] theorem State.setOutPort_xrdy (s : State) (c : Fin 4) (x : OutputPort) : (s.setOutPort c x).xrdy = s.xrdy := rfl
@[simp] theorem State.setOutPort_cues (s : State) (c : Fin 4) (x : OutputPort) : (s.setOutPort c x).cues = s.cues := rfl
@[simp] theorem State.setOutPort_link (s : State) (c : Fin 4) (x : OutputPort) : (s.setOutPort c x).link = s.link := rfl
@[simp] theorem State.setOutPort_emitted (s : State) (c : Fin 4) (x : OutputPort) : (s.setOutPort c x).emitted = s.emitted := rfl
@[simp] theorem State.setOutPort_fresh (s : State) (c : Fin 4) (x : OutputPort) : (s.setOutPort c x).fresh = s.fresh := rfl
@[simp] theorem State.setOutPort_pending (s : State) (c : Fin 4) (x : OutputPort) : (s.setOutPort c x).pending = s.pending := rfl

@[simp] theorem State.setSegment_resetHeld (s : State) (b : Fin 8) (e : Fin 32) (x : Segment) : (s.setSegment b e x).resetHeld = s.resetHeld := rfl
@[simp] theorem State.setSegment_refu (s : State) (b : Fin 8) (e : Fin 32) (x : Segment) : (s.setSegment b e x).refu = s.refu := rfl
@[simp] theorem State.setSegment_lanes (s : State) (b : Fin 8) (e : Fin 32) (x : Segment) : (s.setSegment b e x).lanes = s.lanes := rfl
@[simp] theorem State.setSegment_clips (s : State) (b : Fin 8) (e : Fin 32) (x : Segment) : (s.setSegment b e x).clips = s.clips := rfl
@[simp] theorem State.setSegment_marks (s : State) (b : Fin 8) (e : Fin 32) (x : Segment) : (s.setSegment b e x).marks = s.marks := rfl
@[simp] theorem State.setSegment_jogs (s : State) (b : Fin 8) (e : Fin 32) (x : Segment) : (s.setSegment b e x).jogs = s.jogs := rfl
@[simp] theorem State.setSegment_levers (s : State) (b : Fin 8) (e : Fin 32) (x : Segment) : (s.setSegment b e x).levers = s.levers := rfl
@[simp] theorem State.setSegment_scanList (s : State) (b : Fin 8) (e : Fin 32) (x : Segment) : (s.setSegment b e x).scanList = s.scanList := rfl
@[simp] theorem State.setSegment_underWay (s : State) (b : Fin 8) (e : Fin 32) (x : Segment) : (s.setSegment b e x).underWay = s.underWay := rfl
@[simp] theorem State.setSegment_channels (s : State) (b : Fin 8) (e : Fin 32) (x : Segment) : (s.setSegment b e x).channels = s.channels := rfl
@[simp] theorem State.setSegment_outPorts (s : State) (b : Fin 8) (e : Fin 32) (x : Segment) : (s.setSegment b e x).outPorts = s.outPorts := rfl
@[simp] theorem State.setSegment_xfer (s : State) (b : Fin 8) (e : Fin 32) (x : Segment) : (s.setSegment b e x).xfer = s.xfer := rfl
@[simp] theorem State.setSegment_store (s : State) (b : Fin 8) (e : Fin 32) (x : Segment) : (s.setSegment b e x).store = s.store := rfl
@[simp] theorem State.setSegment_storeEpoch (s : State) (b : Fin 8) (e : Fin 32) (x : Segment) : (s.setSegment b e x).storeEpoch = s.storeEpoch := rfl
@[simp] theorem State.setSegment_exporter (s : State) (b : Fin 8) (e : Fin 32) (x : Segment) : (s.setSegment b e x).exporter = s.exporter := rfl
@[simp] theorem State.setSegment_xrdy (s : State) (b : Fin 8) (e : Fin 32) (x : Segment) : (s.setSegment b e x).xrdy = s.xrdy := rfl
@[simp] theorem State.setSegment_cues (s : State) (b : Fin 8) (e : Fin 32) (x : Segment) : (s.setSegment b e x).cues = s.cues := rfl
@[simp] theorem State.setSegment_link (s : State) (b : Fin 8) (e : Fin 32) (x : Segment) : (s.setSegment b e x).link = s.link := rfl
@[simp] theorem State.setSegment_emitted (s : State) (b : Fin 8) (e : Fin 32) (x : Segment) : (s.setSegment b e x).emitted = s.emitted := rfl
@[simp] theorem State.setSegment_fresh (s : State) (b : Fin 8) (e : Fin 32) (x : Segment) : (s.setSegment b e x).fresh = s.fresh := rfl
@[simp] theorem State.setSegment_pending (s : State) (b : Fin 8) (e : Fin 32) (x : Segment) : (s.setSegment b e x).pending = s.pending := rfl

@[simp] theorem State.setCue_resetHeld (s : State) (q : Fin 8) (x : CueLine) : (s.setCue q x).resetHeld = s.resetHeld := rfl
@[simp] theorem State.setCue_refu (s : State) (q : Fin 8) (x : CueLine) : (s.setCue q x).refu = s.refu := rfl
@[simp] theorem State.setCue_lanes (s : State) (q : Fin 8) (x : CueLine) : (s.setCue q x).lanes = s.lanes := rfl
@[simp] theorem State.setCue_clips (s : State) (q : Fin 8) (x : CueLine) : (s.setCue q x).clips = s.clips := rfl
@[simp] theorem State.setCue_marks (s : State) (q : Fin 8) (x : CueLine) : (s.setCue q x).marks = s.marks := rfl
@[simp] theorem State.setCue_jogs (s : State) (q : Fin 8) (x : CueLine) : (s.setCue q x).jogs = s.jogs := rfl
@[simp] theorem State.setCue_levers (s : State) (q : Fin 8) (x : CueLine) : (s.setCue q x).levers = s.levers := rfl
@[simp] theorem State.setCue_scanList (s : State) (q : Fin 8) (x : CueLine) : (s.setCue q x).scanList = s.scanList := rfl
@[simp] theorem State.setCue_underWay (s : State) (q : Fin 8) (x : CueLine) : (s.setCue q x).underWay = s.underWay := rfl
@[simp] theorem State.setCue_channels (s : State) (q : Fin 8) (x : CueLine) : (s.setCue q x).channels = s.channels := rfl
@[simp] theorem State.setCue_outPorts (s : State) (q : Fin 8) (x : CueLine) : (s.setCue q x).outPorts = s.outPorts := rfl
@[simp] theorem State.setCue_banks (s : State) (q : Fin 8) (x : CueLine) : (s.setCue q x).banks = s.banks := rfl
@[simp] theorem State.setCue_xfer (s : State) (q : Fin 8) (x : CueLine) : (s.setCue q x).xfer = s.xfer := rfl
@[simp] theorem State.setCue_store (s : State) (q : Fin 8) (x : CueLine) : (s.setCue q x).store = s.store := rfl
@[simp] theorem State.setCue_storeEpoch (s : State) (q : Fin 8) (x : CueLine) : (s.setCue q x).storeEpoch = s.storeEpoch := rfl
@[simp] theorem State.setCue_exporter (s : State) (q : Fin 8) (x : CueLine) : (s.setCue q x).exporter = s.exporter := rfl
@[simp] theorem State.setCue_xrdy (s : State) (q : Fin 8) (x : CueLine) : (s.setCue q x).xrdy = s.xrdy := rfl
@[simp] theorem State.setCue_link (s : State) (q : Fin 8) (x : CueLine) : (s.setCue q x).link = s.link := rfl
@[simp] theorem State.setCue_emitted (s : State) (q : Fin 8) (x : CueLine) : (s.setCue q x).emitted = s.emitted := rfl
@[simp] theorem State.setCue_fresh (s : State) (q : Fin 8) (x : CueLine) : (s.setCue q x).fresh = s.fresh := rfl
@[simp] theorem State.setCue_pending (s : State) (q : Fin 8) (x : CueLine) : (s.setCue q x).pending = s.pending := rfl

@[simp] theorem State.setIngest_resetHeld (s : State) (l : Fin 8) (q : List FrameWrite) : (s.setIngest l q).resetHeld = s.resetHeld := rfl
@[simp] theorem State.setIngest_refu (s : State) (l : Fin 8) (q : List FrameWrite) : (s.setIngest l q).refu = s.refu := rfl
@[simp] theorem State.setIngest_lanes (s : State) (l : Fin 8) (q : List FrameWrite) : (s.setIngest l q).lanes = s.lanes := rfl
@[simp] theorem State.setIngest_clips (s : State) (l : Fin 8) (q : List FrameWrite) : (s.setIngest l q).clips = s.clips := rfl
@[simp] theorem State.setIngest_marks (s : State) (l : Fin 8) (q : List FrameWrite) : (s.setIngest l q).marks = s.marks := rfl
@[simp] theorem State.setIngest_jogs (s : State) (l : Fin 8) (q : List FrameWrite) : (s.setIngest l q).jogs = s.jogs := rfl
@[simp] theorem State.setIngest_levers (s : State) (l : Fin 8) (q : List FrameWrite) : (s.setIngest l q).levers = s.levers := rfl
@[simp] theorem State.setIngest_scanList (s : State) (l : Fin 8) (q : List FrameWrite) : (s.setIngest l q).scanList = s.scanList := rfl
@[simp] theorem State.setIngest_underWay (s : State) (l : Fin 8) (q : List FrameWrite) : (s.setIngest l q).underWay = s.underWay := rfl
@[simp] theorem State.setIngest_channels (s : State) (l : Fin 8) (q : List FrameWrite) : (s.setIngest l q).channels = s.channels := rfl
@[simp] theorem State.setIngest_outPorts (s : State) (l : Fin 8) (q : List FrameWrite) : (s.setIngest l q).outPorts = s.outPorts := rfl
@[simp] theorem State.setIngest_banks (s : State) (l : Fin 8) (q : List FrameWrite) : (s.setIngest l q).banks = s.banks := rfl
@[simp] theorem State.setIngest_store (s : State) (l : Fin 8) (q : List FrameWrite) : (s.setIngest l q).store = s.store := rfl
@[simp] theorem State.setIngest_storeEpoch (s : State) (l : Fin 8) (q : List FrameWrite) : (s.setIngest l q).storeEpoch = s.storeEpoch := rfl
@[simp] theorem State.setIngest_exporter (s : State) (l : Fin 8) (q : List FrameWrite) : (s.setIngest l q).exporter = s.exporter := rfl
@[simp] theorem State.setIngest_xrdy (s : State) (l : Fin 8) (q : List FrameWrite) : (s.setIngest l q).xrdy = s.xrdy := rfl
@[simp] theorem State.setIngest_cues (s : State) (l : Fin 8) (q : List FrameWrite) : (s.setIngest l q).cues = s.cues := rfl
@[simp] theorem State.setIngest_link (s : State) (l : Fin 8) (q : List FrameWrite) : (s.setIngest l q).link = s.link := rfl
@[simp] theorem State.setIngest_emitted (s : State) (l : Fin 8) (q : List FrameWrite) : (s.setIngest l q).emitted = s.emitted := rfl
@[simp] theorem State.setIngest_fresh (s : State) (l : Fin 8) (q : List FrameWrite) : (s.setIngest l q).fresh = s.fresh := rfl
@[simp] theorem State.setIngest_pending (s : State) (l : Fin 8) (q : List FrameWrite) : (s.setIngest l q).pending = s.pending := rfl

@[simp] theorem State.setFetch_resetHeld (s : State) (c : Fin 4) (f : Option Fetch) : (s.setFetch c f).resetHeld = s.resetHeld := rfl
@[simp] theorem State.setFetch_refu (s : State) (c : Fin 4) (f : Option Fetch) : (s.setFetch c f).refu = s.refu := rfl
@[simp] theorem State.setFetch_lanes (s : State) (c : Fin 4) (f : Option Fetch) : (s.setFetch c f).lanes = s.lanes := rfl
@[simp] theorem State.setFetch_clips (s : State) (c : Fin 4) (f : Option Fetch) : (s.setFetch c f).clips = s.clips := rfl
@[simp] theorem State.setFetch_marks (s : State) (c : Fin 4) (f : Option Fetch) : (s.setFetch c f).marks = s.marks := rfl
@[simp] theorem State.setFetch_jogs (s : State) (c : Fin 4) (f : Option Fetch) : (s.setFetch c f).jogs = s.jogs := rfl
@[simp] theorem State.setFetch_levers (s : State) (c : Fin 4) (f : Option Fetch) : (s.setFetch c f).levers = s.levers := rfl
@[simp] theorem State.setFetch_scanList (s : State) (c : Fin 4) (f : Option Fetch) : (s.setFetch c f).scanList = s.scanList := rfl
@[simp] theorem State.setFetch_underWay (s : State) (c : Fin 4) (f : Option Fetch) : (s.setFetch c f).underWay = s.underWay := rfl
@[simp] theorem State.setFetch_channels (s : State) (c : Fin 4) (f : Option Fetch) : (s.setFetch c f).channels = s.channels := rfl
@[simp] theorem State.setFetch_outPorts (s : State) (c : Fin 4) (f : Option Fetch) : (s.setFetch c f).outPorts = s.outPorts := rfl
@[simp] theorem State.setFetch_banks (s : State) (c : Fin 4) (f : Option Fetch) : (s.setFetch c f).banks = s.banks := rfl
@[simp] theorem State.setFetch_store (s : State) (c : Fin 4) (f : Option Fetch) : (s.setFetch c f).store = s.store := rfl
@[simp] theorem State.setFetch_storeEpoch (s : State) (c : Fin 4) (f : Option Fetch) : (s.setFetch c f).storeEpoch = s.storeEpoch := rfl
@[simp] theorem State.setFetch_exporter (s : State) (c : Fin 4) (f : Option Fetch) : (s.setFetch c f).exporter = s.exporter := rfl
@[simp] theorem State.setFetch_xrdy (s : State) (c : Fin 4) (f : Option Fetch) : (s.setFetch c f).xrdy = s.xrdy := rfl
@[simp] theorem State.setFetch_cues (s : State) (c : Fin 4) (f : Option Fetch) : (s.setFetch c f).cues = s.cues := rfl
@[simp] theorem State.setFetch_link (s : State) (c : Fin 4) (f : Option Fetch) : (s.setFetch c f).link = s.link := rfl
@[simp] theorem State.setFetch_emitted (s : State) (c : Fin 4) (f : Option Fetch) : (s.setFetch c f).emitted = s.emitted := rfl
@[simp] theorem State.setFetch_fresh (s : State) (c : Fin 4) (f : Option Fetch) : (s.setFetch c f).fresh = s.fresh := rfl
@[simp] theorem State.setFetch_pending (s : State) (c : Fin 4) (f : Option Fetch) : (s.setFetch c f).pending = s.pending := rfl

@[simp] theorem State.setExportRead_resetHeld (s : State) (r : Option BlockRead) : (s.setExportRead r).resetHeld = s.resetHeld := rfl
@[simp] theorem State.setExportRead_refu (s : State) (r : Option BlockRead) : (s.setExportRead r).refu = s.refu := rfl
@[simp] theorem State.setExportRead_lanes (s : State) (r : Option BlockRead) : (s.setExportRead r).lanes = s.lanes := rfl
@[simp] theorem State.setExportRead_clips (s : State) (r : Option BlockRead) : (s.setExportRead r).clips = s.clips := rfl
@[simp] theorem State.setExportRead_marks (s : State) (r : Option BlockRead) : (s.setExportRead r).marks = s.marks := rfl
@[simp] theorem State.setExportRead_jogs (s : State) (r : Option BlockRead) : (s.setExportRead r).jogs = s.jogs := rfl
@[simp] theorem State.setExportRead_levers (s : State) (r : Option BlockRead) : (s.setExportRead r).levers = s.levers := rfl
@[simp] theorem State.setExportRead_scanList (s : State) (r : Option BlockRead) : (s.setExportRead r).scanList = s.scanList := rfl
@[simp] theorem State.setExportRead_underWay (s : State) (r : Option BlockRead) : (s.setExportRead r).underWay = s.underWay := rfl
@[simp] theorem State.setExportRead_channels (s : State) (r : Option BlockRead) : (s.setExportRead r).channels = s.channels := rfl
@[simp] theorem State.setExportRead_outPorts (s : State) (r : Option BlockRead) : (s.setExportRead r).outPorts = s.outPorts := rfl
@[simp] theorem State.setExportRead_banks (s : State) (r : Option BlockRead) : (s.setExportRead r).banks = s.banks := rfl
@[simp] theorem State.setExportRead_store (s : State) (r : Option BlockRead) : (s.setExportRead r).store = s.store := rfl
@[simp] theorem State.setExportRead_storeEpoch (s : State) (r : Option BlockRead) : (s.setExportRead r).storeEpoch = s.storeEpoch := rfl
@[simp] theorem State.setExportRead_exporter (s : State) (r : Option BlockRead) : (s.setExportRead r).exporter = s.exporter := rfl
@[simp] theorem State.setExportRead_xrdy (s : State) (r : Option BlockRead) : (s.setExportRead r).xrdy = s.xrdy := rfl
@[simp] theorem State.setExportRead_cues (s : State) (r : Option BlockRead) : (s.setExportRead r).cues = s.cues := rfl
@[simp] theorem State.setExportRead_link (s : State) (r : Option BlockRead) : (s.setExportRead r).link = s.link := rfl
@[simp] theorem State.setExportRead_emitted (s : State) (r : Option BlockRead) : (s.setExportRead r).emitted = s.emitted := rfl
@[simp] theorem State.setExportRead_fresh (s : State) (r : Option BlockRead) : (s.setExportRead r).fresh = s.fresh := rfl
@[simp] theorem State.setExportRead_pending (s : State) (r : Option BlockRead) : (s.setExportRead r).pending = s.pending := rfl

@[simp] theorem State.setService_resetHeld (s : State) (v : Option InService) : (s.setService v).resetHeld = s.resetHeld := rfl
@[simp] theorem State.setService_refu (s : State) (v : Option InService) : (s.setService v).refu = s.refu := rfl
@[simp] theorem State.setService_lanes (s : State) (v : Option InService) : (s.setService v).lanes = s.lanes := rfl
@[simp] theorem State.setService_clips (s : State) (v : Option InService) : (s.setService v).clips = s.clips := rfl
@[simp] theorem State.setService_marks (s : State) (v : Option InService) : (s.setService v).marks = s.marks := rfl
@[simp] theorem State.setService_jogs (s : State) (v : Option InService) : (s.setService v).jogs = s.jogs := rfl
@[simp] theorem State.setService_levers (s : State) (v : Option InService) : (s.setService v).levers = s.levers := rfl
@[simp] theorem State.setService_scanList (s : State) (v : Option InService) : (s.setService v).scanList = s.scanList := rfl
@[simp] theorem State.setService_underWay (s : State) (v : Option InService) : (s.setService v).underWay = s.underWay := rfl
@[simp] theorem State.setService_channels (s : State) (v : Option InService) : (s.setService v).channels = s.channels := rfl
@[simp] theorem State.setService_outPorts (s : State) (v : Option InService) : (s.setService v).outPorts = s.outPorts := rfl
@[simp] theorem State.setService_banks (s : State) (v : Option InService) : (s.setService v).banks = s.banks := rfl
@[simp] theorem State.setService_store (s : State) (v : Option InService) : (s.setService v).store = s.store := rfl
@[simp] theorem State.setService_storeEpoch (s : State) (v : Option InService) : (s.setService v).storeEpoch = s.storeEpoch := rfl
@[simp] theorem State.setService_exporter (s : State) (v : Option InService) : (s.setService v).exporter = s.exporter := rfl
@[simp] theorem State.setService_xrdy (s : State) (v : Option InService) : (s.setService v).xrdy = s.xrdy := rfl
@[simp] theorem State.setService_cues (s : State) (v : Option InService) : (s.setService v).cues = s.cues := rfl
@[simp] theorem State.setService_link (s : State) (v : Option InService) : (s.setService v).link = s.link := rfl
@[simp] theorem State.setService_emitted (s : State) (v : Option InService) : (s.setService v).emitted = s.emitted := rfl
@[simp] theorem State.setService_fresh (s : State) (v : Option InService) : (s.setService v).fresh = s.fresh := rfl
@[simp] theorem State.setService_pending (s : State) (v : Option InService) : (s.setService v).pending = s.pending := rfl

@[simp] theorem State.setExporter_resetHeld (s : State) (e : Exporter) : (s.setExporter e).resetHeld = s.resetHeld := rfl
@[simp] theorem State.setExporter_refu (s : State) (e : Exporter) : (s.setExporter e).refu = s.refu := rfl
@[simp] theorem State.setExporter_lanes (s : State) (e : Exporter) : (s.setExporter e).lanes = s.lanes := rfl
@[simp] theorem State.setExporter_clips (s : State) (e : Exporter) : (s.setExporter e).clips = s.clips := rfl
@[simp] theorem State.setExporter_marks (s : State) (e : Exporter) : (s.setExporter e).marks = s.marks := rfl
@[simp] theorem State.setExporter_jogs (s : State) (e : Exporter) : (s.setExporter e).jogs = s.jogs := rfl
@[simp] theorem State.setExporter_levers (s : State) (e : Exporter) : (s.setExporter e).levers = s.levers := rfl
@[simp] theorem State.setExporter_scanList (s : State) (e : Exporter) : (s.setExporter e).scanList = s.scanList := rfl
@[simp] theorem State.setExporter_underWay (s : State) (e : Exporter) : (s.setExporter e).underWay = s.underWay := rfl
@[simp] theorem State.setExporter_channels (s : State) (e : Exporter) : (s.setExporter e).channels = s.channels := rfl
@[simp] theorem State.setExporter_outPorts (s : State) (e : Exporter) : (s.setExporter e).outPorts = s.outPorts := rfl
@[simp] theorem State.setExporter_banks (s : State) (e : Exporter) : (s.setExporter e).banks = s.banks := rfl
@[simp] theorem State.setExporter_xfer (s : State) (e : Exporter) : (s.setExporter e).xfer = s.xfer := rfl
@[simp] theorem State.setExporter_store (s : State) (e : Exporter) : (s.setExporter e).store = s.store := rfl
@[simp] theorem State.setExporter_storeEpoch (s : State) (e : Exporter) : (s.setExporter e).storeEpoch = s.storeEpoch := rfl
@[simp] theorem State.setExporter_xrdy (s : State) (e : Exporter) : (s.setExporter e).xrdy = s.xrdy := rfl
@[simp] theorem State.setExporter_cues (s : State) (e : Exporter) : (s.setExporter e).cues = s.cues := rfl
@[simp] theorem State.setExporter_link (s : State) (e : Exporter) : (s.setExporter e).link = s.link := rfl
@[simp] theorem State.setExporter_emitted (s : State) (e : Exporter) : (s.setExporter e).emitted = s.emitted := rfl
@[simp] theorem State.setExporter_fresh (s : State) (e : Exporter) : (s.setExporter e).fresh = s.fresh := rfl
@[simp] theorem State.setExporter_pending (s : State) (e : Exporter) : (s.setExporter e).pending = s.pending := rfl

@[simp] theorem State.setRefu_resetHeld (s : State) (r : Refu) : (s.setRefu r).resetHeld = s.resetHeld := rfl
@[simp] theorem State.setRefu_lanes (s : State) (r : Refu) : (s.setRefu r).lanes = s.lanes := rfl
@[simp] theorem State.setRefu_clips (s : State) (r : Refu) : (s.setRefu r).clips = s.clips := rfl
@[simp] theorem State.setRefu_marks (s : State) (r : Refu) : (s.setRefu r).marks = s.marks := rfl
@[simp] theorem State.setRefu_jogs (s : State) (r : Refu) : (s.setRefu r).jogs = s.jogs := rfl
@[simp] theorem State.setRefu_levers (s : State) (r : Refu) : (s.setRefu r).levers = s.levers := rfl
@[simp] theorem State.setRefu_scanList (s : State) (r : Refu) : (s.setRefu r).scanList = s.scanList := rfl
@[simp] theorem State.setRefu_underWay (s : State) (r : Refu) : (s.setRefu r).underWay = s.underWay := rfl
@[simp] theorem State.setRefu_channels (s : State) (r : Refu) : (s.setRefu r).channels = s.channels := rfl
@[simp] theorem State.setRefu_outPorts (s : State) (r : Refu) : (s.setRefu r).outPorts = s.outPorts := rfl
@[simp] theorem State.setRefu_banks (s : State) (r : Refu) : (s.setRefu r).banks = s.banks := rfl
@[simp] theorem State.setRefu_xfer (s : State) (r : Refu) : (s.setRefu r).xfer = s.xfer := rfl
@[simp] theorem State.setRefu_store (s : State) (r : Refu) : (s.setRefu r).store = s.store := rfl
@[simp] theorem State.setRefu_storeEpoch (s : State) (r : Refu) : (s.setRefu r).storeEpoch = s.storeEpoch := rfl
@[simp] theorem State.setRefu_exporter (s : State) (r : Refu) : (s.setRefu r).exporter = s.exporter := rfl
@[simp] theorem State.setRefu_xrdy (s : State) (r : Refu) : (s.setRefu r).xrdy = s.xrdy := rfl
@[simp] theorem State.setRefu_cues (s : State) (r : Refu) : (s.setRefu r).cues = s.cues := rfl
@[simp] theorem State.setRefu_link (s : State) (r : Refu) : (s.setRefu r).link = s.link := rfl
@[simp] theorem State.setRefu_emitted (s : State) (r : Refu) : (s.setRefu r).emitted = s.emitted := rfl
@[simp] theorem State.setRefu_fresh (s : State) (r : Refu) : (s.setRefu r).fresh = s.fresh := rfl
@[simp] theorem State.setRefu_pending (s : State) (r : Refu) : (s.setRefu r).pending = s.pending := rfl

@[simp] theorem State.setLink_resetHeld (s : State) (k : Link) : (s.setLink k).resetHeld = s.resetHeld := rfl
@[simp] theorem State.setLink_refu (s : State) (k : Link) : (s.setLink k).refu = s.refu := rfl
@[simp] theorem State.setLink_lanes (s : State) (k : Link) : (s.setLink k).lanes = s.lanes := rfl
@[simp] theorem State.setLink_clips (s : State) (k : Link) : (s.setLink k).clips = s.clips := rfl
@[simp] theorem State.setLink_marks (s : State) (k : Link) : (s.setLink k).marks = s.marks := rfl
@[simp] theorem State.setLink_jogs (s : State) (k : Link) : (s.setLink k).jogs = s.jogs := rfl
@[simp] theorem State.setLink_levers (s : State) (k : Link) : (s.setLink k).levers = s.levers := rfl
@[simp] theorem State.setLink_scanList (s : State) (k : Link) : (s.setLink k).scanList = s.scanList := rfl
@[simp] theorem State.setLink_underWay (s : State) (k : Link) : (s.setLink k).underWay = s.underWay := rfl
@[simp] theorem State.setLink_channels (s : State) (k : Link) : (s.setLink k).channels = s.channels := rfl
@[simp] theorem State.setLink_outPorts (s : State) (k : Link) : (s.setLink k).outPorts = s.outPorts := rfl
@[simp] theorem State.setLink_banks (s : State) (k : Link) : (s.setLink k).banks = s.banks := rfl
@[simp] theorem State.setLink_xfer (s : State) (k : Link) : (s.setLink k).xfer = s.xfer := rfl
@[simp] theorem State.setLink_store (s : State) (k : Link) : (s.setLink k).store = s.store := rfl
@[simp] theorem State.setLink_storeEpoch (s : State) (k : Link) : (s.setLink k).storeEpoch = s.storeEpoch := rfl
@[simp] theorem State.setLink_exporter (s : State) (k : Link) : (s.setLink k).exporter = s.exporter := rfl
@[simp] theorem State.setLink_xrdy (s : State) (k : Link) : (s.setLink k).xrdy = s.xrdy := rfl
@[simp] theorem State.setLink_cues (s : State) (k : Link) : (s.setLink k).cues = s.cues := rfl
@[simp] theorem State.setLink_emitted (s : State) (k : Link) : (s.setLink k).emitted = s.emitted := rfl
@[simp] theorem State.setLink_fresh (s : State) (k : Link) : (s.setLink k).fresh = s.fresh := rfl
@[simp] theorem State.setLink_pending (s : State) (k : Link) : (s.setLink k).pending = s.pending := rfl

@[simp] theorem State.emit_resetHeld (s : State) (e : Emission) : (s.emit e).resetHeld = s.resetHeld := rfl
@[simp] theorem State.emit_refu (s : State) (e : Emission) : (s.emit e).refu = s.refu := rfl
@[simp] theorem State.emit_lanes (s : State) (e : Emission) : (s.emit e).lanes = s.lanes := rfl
@[simp] theorem State.emit_clips (s : State) (e : Emission) : (s.emit e).clips = s.clips := rfl
@[simp] theorem State.emit_marks (s : State) (e : Emission) : (s.emit e).marks = s.marks := rfl
@[simp] theorem State.emit_jogs (s : State) (e : Emission) : (s.emit e).jogs = s.jogs := rfl
@[simp] theorem State.emit_levers (s : State) (e : Emission) : (s.emit e).levers = s.levers := rfl
@[simp] theorem State.emit_scanList (s : State) (e : Emission) : (s.emit e).scanList = s.scanList := rfl
@[simp] theorem State.emit_underWay (s : State) (e : Emission) : (s.emit e).underWay = s.underWay := rfl
@[simp] theorem State.emit_channels (s : State) (e : Emission) : (s.emit e).channels = s.channels := rfl
@[simp] theorem State.emit_outPorts (s : State) (e : Emission) : (s.emit e).outPorts = s.outPorts := rfl
@[simp] theorem State.emit_banks (s : State) (e : Emission) : (s.emit e).banks = s.banks := rfl
@[simp] theorem State.emit_xfer (s : State) (e : Emission) : (s.emit e).xfer = s.xfer := rfl
@[simp] theorem State.emit_store (s : State) (e : Emission) : (s.emit e).store = s.store := rfl
@[simp] theorem State.emit_storeEpoch (s : State) (e : Emission) : (s.emit e).storeEpoch = s.storeEpoch := rfl
@[simp] theorem State.emit_exporter (s : State) (e : Emission) : (s.emit e).exporter = s.exporter := rfl
@[simp] theorem State.emit_xrdy (s : State) (e : Emission) : (s.emit e).xrdy = s.xrdy := rfl
@[simp] theorem State.emit_cues (s : State) (e : Emission) : (s.emit e).cues = s.cues := rfl
@[simp] theorem State.emit_link (s : State) (e : Emission) : (s.emit e).link = s.link := rfl
@[simp] theorem State.emit_fresh (s : State) (e : Emission) : (s.emit e).fresh = s.fresh := rfl
@[simp] theorem State.emit_pending (s : State) (e : Emission) : (s.emit e).pending = s.pending := rfl

@[simp] theorem State.writeBlock_resetHeld (s : State) (b : Nat) (d : BlockData) : (s.writeBlock b d).resetHeld = s.resetHeld := rfl
@[simp] theorem State.writeBlock_refu (s : State) (b : Nat) (d : BlockData) : (s.writeBlock b d).refu = s.refu := rfl
@[simp] theorem State.writeBlock_lanes (s : State) (b : Nat) (d : BlockData) : (s.writeBlock b d).lanes = s.lanes := rfl
@[simp] theorem State.writeBlock_clips (s : State) (b : Nat) (d : BlockData) : (s.writeBlock b d).clips = s.clips := rfl
@[simp] theorem State.writeBlock_marks (s : State) (b : Nat) (d : BlockData) : (s.writeBlock b d).marks = s.marks := rfl
@[simp] theorem State.writeBlock_jogs (s : State) (b : Nat) (d : BlockData) : (s.writeBlock b d).jogs = s.jogs := rfl
@[simp] theorem State.writeBlock_levers (s : State) (b : Nat) (d : BlockData) : (s.writeBlock b d).levers = s.levers := rfl
@[simp] theorem State.writeBlock_scanList (s : State) (b : Nat) (d : BlockData) : (s.writeBlock b d).scanList = s.scanList := rfl
@[simp] theorem State.writeBlock_underWay (s : State) (b : Nat) (d : BlockData) : (s.writeBlock b d).underWay = s.underWay := rfl
@[simp] theorem State.writeBlock_channels (s : State) (b : Nat) (d : BlockData) : (s.writeBlock b d).channels = s.channels := rfl
@[simp] theorem State.writeBlock_outPorts (s : State) (b : Nat) (d : BlockData) : (s.writeBlock b d).outPorts = s.outPorts := rfl
@[simp] theorem State.writeBlock_banks (s : State) (b : Nat) (d : BlockData) : (s.writeBlock b d).banks = s.banks := rfl
@[simp] theorem State.writeBlock_xfer (s : State) (b : Nat) (d : BlockData) : (s.writeBlock b d).xfer = s.xfer := rfl
@[simp] theorem State.writeBlock_storeEpoch (s : State) (b : Nat) (d : BlockData) : (s.writeBlock b d).storeEpoch = s.storeEpoch := rfl
@[simp] theorem State.writeBlock_exporter (s : State) (b : Nat) (d : BlockData) : (s.writeBlock b d).exporter = s.exporter := rfl
@[simp] theorem State.writeBlock_xrdy (s : State) (b : Nat) (d : BlockData) : (s.writeBlock b d).xrdy = s.xrdy := rfl
@[simp] theorem State.writeBlock_cues (s : State) (b : Nat) (d : BlockData) : (s.writeBlock b d).cues = s.cues := rfl
@[simp] theorem State.writeBlock_link (s : State) (b : Nat) (d : BlockData) : (s.writeBlock b d).link = s.link := rfl
@[simp] theorem State.writeBlock_emitted (s : State) (b : Nat) (d : BlockData) : (s.writeBlock b d).emitted = s.emitted := rfl
@[simp] theorem State.writeBlock_fresh (s : State) (b : Nat) (d : BlockData) : (s.writeBlock b d).fresh = s.fresh := rfl
@[simp] theorem State.writeBlock_pending (s : State) (b : Nat) (d : BlockData) : (s.writeBlock b d).pending = s.pending := rfl

/-! ### What an update puts in place -/

@[simp] theorem State.setRefu_refu (s : State) (r : Refu) : (s.setRefu r).refu = r := rfl
@[simp] theorem State.setLink_link (s : State) (k : Link) : (s.setLink k).link = k := rfl
@[simp] theorem State.setExporter_exporter (s : State) (e : Exporter) : (s.setExporter e).exporter = e := rfl
@[simp] theorem State.emit_emitted (s : State) (e : Emission) : (s.emit e).emitted = s.emitted ++ [e] := rfl

@[simp] theorem State.lane_setLane (s : State) (l : Fin 8) (x : Lane) : (s.setLane l x).lane l = x := by simp [State.lane, State.setLane]
theorem State.lane_setLane_ne (s : State) {l k : Fin 8} (x : Lane) (h : l ≠ k) : (s.setLane l x).lane k = s.lane k := by
  have : l.val ≠ k.val := fun e => h (Fin.ext e)
  simp [State.lane, State.setLane, this]
theorem State.lane_setLane_eq (s : State) (l k : Fin 8) (x : Lane) :
    (s.setLane l x).lane k = if l = k then x else s.lane k := by
  by_cases h : l = k
  · subst h; simp
  · rw [if_neg h, State.lane_setLane_ne s x h]
@[simp] theorem State.mark_setMark (s : State) (l : Fin 8) (x : MarkLine) : (s.setMark l x).mark l = x := by simp [State.mark, State.setMark]
theorem State.mark_setMark_ne (s : State) {l k : Fin 8} (x : MarkLine) (h : l ≠ k) : (s.setMark l x).mark k = s.mark k := by
  have : l.val ≠ k.val := fun e => h (Fin.ext e)
  simp [State.mark, State.setMark, this]
theorem State.mark_setMark_eq (s : State) (l k : Fin 8) (x : MarkLine) :
    (s.setMark l x).mark k = if l = k then x else s.mark k := by
  by_cases h : l = k
  · subst h; simp
  · rw [if_neg h, State.mark_setMark_ne s x h]
@[simp] theorem State.jog_setJog (s : State) (l : Fin 4) (x : Jog) : (s.setJog l x).jog l = x := by simp [State.jog, State.setJog]
theorem State.jog_setJog_ne (s : State) {l k : Fin 4} (x : Jog) (h : l ≠ k) : (s.setJog l x).jog k = s.jog k := by
  have : l.val ≠ k.val := fun e => h (Fin.ext e)
  simp [State.jog, State.setJog, this]
theorem State.jog_setJog_eq (s : State) (l k : Fin 4) (x : Jog) :
    (s.setJog l x).jog k = if l = k then x else s.jog k := by
  by_cases h : l = k
  · subst h; simp
  · rw [if_neg h, State.jog_setJog_ne s x h]
@[simp] theorem State.lever_setLever (s : State) (l : Fin 4) (x : Lever) : (s.setLever l x).lever l = x := by simp [State.lever, State.setLever]
theorem State.lever_setLever_ne (s : State) {l k : Fin 4} (x : Lever) (h : l ≠ k) : (s.setLever l x).lever k = s.lever k := by
  have : l.val ≠ k.val := fun e => h (Fin.ext e)
  simp [State.lever, State.setLever, this]
theorem State.lever_setLever_eq (s : State) (l k : Fin 4) (x : Lever) :
    (s.setLever l x).lever k = if l = k then x else s.lever k := by
  by_cases h : l = k
  · subst h; simp
  · rw [if_neg h, State.lever_setLever_ne s x h]
@[simp] theorem State.outPort_setOutPort (s : State) (l : Fin 4) (x : OutputPort) : (s.setOutPort l x).outPort l = x := by simp [State.outPort, State.setOutPort]
theorem State.outPort_setOutPort_ne (s : State) {l k : Fin 4} (x : OutputPort) (h : l ≠ k) : (s.setOutPort l x).outPort k = s.outPort k := by
  have : l.val ≠ k.val := fun e => h (Fin.ext e)
  simp [State.outPort, State.setOutPort, this]
theorem State.outPort_setOutPort_eq (s : State) (l k : Fin 4) (x : OutputPort) :
    (s.setOutPort l x).outPort k = if l = k then x else s.outPort k := by
  by_cases h : l = k
  · subst h; simp
  · rw [if_neg h, State.outPort_setOutPort_ne s x h]
@[simp] theorem State.cue_setCue (s : State) (l : Fin 8) (x : CueLine) : (s.setCue l x).cue l = x := by simp [State.cue, State.setCue]
theorem State.cue_setCue_ne (s : State) {l k : Fin 8} (x : CueLine) (h : l ≠ k) : (s.setCue l x).cue k = s.cue k := by
  have : l.val ≠ k.val := fun e => h (Fin.ext e)
  simp [State.cue, State.setCue, this]
theorem State.cue_setCue_eq (s : State) (l k : Fin 8) (x : CueLine) :
    (s.setCue l x).cue k = if l = k then x else s.cue k := by
  by_cases h : l = k
  · subst h; simp
  · rw [if_neg h, State.cue_setCue_ne s x h]
@[simp] theorem State.ingest_setIngest (s : State) (l : Fin 8) (x : List FrameWrite) : (s.setIngest l x).ingest l = x := by simp [State.ingest, State.setIngest]
theorem State.ingest_setIngest_ne (s : State) {l k : Fin 8} (x : List FrameWrite) (h : l ≠ k) : (s.setIngest l x).ingest k = s.ingest k := by
  have : l.val ≠ k.val := fun e => h (Fin.ext e)
  simp [State.ingest, State.setIngest, this]
theorem State.ingest_setIngest_eq (s : State) (l k : Fin 8) (x : List FrameWrite) :
    (s.setIngest l x).ingest k = if l = k then x else s.ingest k := by
  by_cases h : l = k
  · subst h; simp
  · rw [if_neg h, State.ingest_setIngest_ne s x h]
@[simp] theorem State.fetchOf_setFetch (s : State) (l : Fin 4) (x : Option Fetch) : (s.setFetch l x).fetchOf l = x := by simp [State.fetchOf, State.setFetch]
theorem State.fetchOf_setFetch_ne (s : State) {l k : Fin 4} (x : Option Fetch) (h : l ≠ k) : (s.setFetch l x).fetchOf k = s.fetchOf k := by
  have : l.val ≠ k.val := fun e => h (Fin.ext e)
  simp [State.fetchOf, State.setFetch, this]
theorem State.fetchOf_setFetch_eq (s : State) (l k : Fin 4) (x : Option Fetch) :
    (s.setFetch l x).fetchOf k = if l = k then x else s.fetchOf k := by
  by_cases h : l = k
  · subst h; simp
  · rw [if_neg h, State.fetchOf_setFetch_ne s x h]

@[simp] theorem State.modifyLane_lane (s : State) (l : Fin 8) (f : Lane → Lane) : (s.modifyLane l f).lane l = f (s.lane l) := by
  simp [State.modifyLane]

theorem State.modifyLane_lane_eq (s : State) (l k : Fin 8) (f : Lane → Lane) :
    (s.modifyLane l f).lane k = if l = k then f (s.lane k) else s.lane k := by
  unfold State.modifyLane
  rw [State.lane_setLane_eq]
  by_cases h : l = k
  · subst h; simp
  · simp [h]

/-! ### One record reads the same when its table is the same -/

theorem State.lane_congr {s t : State} (h : t.lanes = s.lanes) (l : Fin 8) : t.lane l = s.lane l := by simp [State.lane, h]
theorem State.channel_congr {s t : State} (h : t.channels = s.channels) (c : Fin 4) : t.channel c = s.channel c := by
  simp [State.channel, h]
theorem State.clip_congr {s t : State} (h : t.clips = s.clips) (n : Nat) : t.clip n = s.clip n := by simp [State.clip, h]
theorem State.cue_congr {s t : State} (h : t.cues = s.cues) (k : Fin 8) : t.cue k = s.cue k := by simp [State.cue, h]
theorem State.classLevel_congr {s t : State} (h : t.link.levels = s.link.levels) (k : NoticeClass) :
    t.classLevel k = s.classLevel k := by simp [State.classLevel, h]
theorem State.effective_congr {s t : State} (h : t.link.stations = s.link.stations) (x : Header) :
    t.effective x = s.effective x := by simp [State.effective, State.ceiling, h]

end Sys2Proof.Machine
end

