-- ==== Sys2Proof/Laws/Quiet.lean ====
section
/-!
SUPPORT. Every operation below the commands is quiet (Safety.lean): it leaves the store, the Reference Unit, the queue of events and
the Link Interface alone, but for the notices it posts.
-/

namespace Sys2Proof.Machine

theorem Link.OnlyPosts.refl (k : Link) : k.OnlyPosts k := ⟨rfl, rfl, rfl, rfl, rfl, rfl, rfl, id⟩

theorem Link.OnlyPosts.trans {a b c : Link} (h : a.OnlyPosts b) (g : b.OnlyPosts c) : a.OnlyPosts c :=
  ⟨g.unitAddress.trans h.unitAddress, g.linkRate.trans h.linkRate, g.receiver.trans h.receiver, g.replies.trans h.replies,
   g.overrun.trans h.overrun, g.stations.trans h.stations, g.levels.trans h.levels, g.sound ∘ h.sound⟩

namespace State

theorem Quiet.refl (s : State) : s.Quiet s := ⟨rfl, rfl, rfl, rfl, rfl, rfl, .refl _⟩

theorem Quiet.trans {a b c : State} (h : a.Quiet b) (g : b.Quiet c) : a.Quiet c :=
  ⟨g.resetHeld.trans h.resetHeld, g.refu.trans h.refu, g.store.trans h.store, g.storeEpoch.trans h.storeEpoch,
   g.xrdy.trans h.xrdy, g.pending.trans h.pending, h.link.trans g.link⟩

/-- An update of none of the named parts is quiet. -/
theorem Quiet.of_eq {s t : State} (h1 : t.resetHeld = s.resetHeld) (h2 : t.refu = s.refu) (h3 : t.store = s.store)
    (h4 : t.storeEpoch = s.storeEpoch) (h5 : t.xrdy = s.xrdy) (h6 : t.pending = s.pending) (h7 : t.link = s.link) :
    s.Quiet t := ⟨h1, h2, h3, h4, h5, h6, h7 ▸ .refl _⟩

theorem Quiet.foldl {α : Type} {f : State → α → State} (h : ∀ (s : State) a, s.Quiet (f s a)) (l : List α) (s : State) :
    s.Quiet (l.foldl f s) := by
  induction l generalizing s with
  | nil => exact .refl s
  | cons a l ih => exact (h s a).trans (ih _)

theorem Quiet.foldl_fst {α β : Type} {f : State × β → α → State × β} (h : ∀ (p : State × β) a, p.1.Quiet (f p a).1) (l : List α)
    (p : State × β) : p.1.Quiet (l.foldl f p).1 := by
  induction l generalizing p with
  | nil => exact .refl _
  | cons a l ih => exact (h p a).trans (ih _)

/-! ### Single updates -/

@[simp] theorem quiet_setLane (s t : State) (l : Fin 8) (x : Lane) : s.Quiet (t.setLane l x) ↔ s.Quiet t :=
  ⟨fun h => ⟨h.1, h.2, h.3, h.4, h.5, h.6, h.7⟩, fun h => ⟨h.1, h.2, h.3, h.4, h.5, h.6, h.7⟩⟩
@[simp] theorem quiet_modifyLane (s t : State) (l : Fin 8) (f : Lane → Lane) : s.Quiet (t.modifyLane l f) ↔ s.Quiet t :=
  ⟨fun h => ⟨h.1, h.2, h.3, h.4, h.5, h.6, h.7⟩, fun h => ⟨h.1, h.2, h.3, h.4, h.5, h.6, h.7⟩⟩
@[simp] theorem quiet_setMark (s t : State) (m : Fin 8) (x : MarkLine) : s.Quiet (t.setMark m x) ↔ s.Quiet t :=
  ⟨fun h => ⟨h.1, h.2, h.3, h.4, h.5, h.6, h.7⟩, fun h => ⟨h.1, h.2, h.3, h.4, h.5, h.6, h.7⟩⟩
@[simp] theorem quiet_setJog (s t : State) (j : Fin 4) (x : Jog) : s.Quiet (t.setJog j x) ↔ s.Quiet t :=
  ⟨fun h => ⟨h.1, h.2, h.3, h.4, h.5, h.6, h.7⟩, fun h => ⟨h.1, h.2, h.3, h.4, h.5, h.6, h.7⟩⟩
@[simp] theorem quiet_setLever (s t : State) (v : Fin 4) (x : Lever) : s.Quiet (t.setLever v x) ↔ s.Quiet t :=
  ⟨fun h => ⟨h.1, h.2, h.3, h.4, h.5, h.6, h.7⟩, fun h => ⟨h.1, h.2, h.3, h.4, h.5, h.6, h.7⟩⟩
@[simp] theorem quiet_setOutPort (s t : State) (c : Fin 4) (x : OutputPort) : s.Quiet (t.setOutPort c x) ↔ s.Quiet t :=
  ⟨fun h => ⟨h.1, h.2, h.3, h.4, h.5, h.6, h.7⟩, fun h => ⟨h.1, h.2, h.3, h.4, h.5, h.6, h.7⟩⟩
@[simp] theorem quiet_setSegment (s t : State) (b : Fin 8) (e : Fin 32) (x : Segment) : s.Quiet (t.setSegment b e x) ↔ s.Quiet t :=
  ⟨fun h => ⟨h.1, h.2, h.3, h.4, h.5, h.6, h.7⟩, fun h => ⟨h.1, h.2, h.3, h.4, h.5, h.6, h.7⟩⟩
@[simp] theorem quiet_setCue (s t : State) (q : Fin 8) (x : CueLine) : s.Quiet (t.setCue q x) ↔ s.Quiet t :=
  ⟨fun h => ⟨h.1, h.2, h.3, h.4, h.5, h.6, h.7⟩, fun h => ⟨h.1, h.2, h.3, h.4, h.5, h.6, h.7⟩⟩
@[simp] theorem quiet_setIngest (s t : State) (l : Fin 8) (q : List FrameWrite) : s.Quiet (t.setIngest l q) ↔ s.Quiet t :=
  ⟨fun h => ⟨h.1, h.2, h.3, h.4, h.5, h.6, h.7⟩, fun h => ⟨h.1, h.2, h.3, h.4, h.5, h.6, h.7⟩⟩
@[simp] theorem quiet_setFetch (s t : State) (c : Fin 4) (f : Option Fetch) : s.Quiet (t.setFetch c f) ↔ s.Quiet t :=
  ⟨fun h => ⟨h.1, h.2, h.3, h.4, h.5, h.6, h.7⟩, fun h => ⟨h.1, h.2, h.3, h.4, h.5, h.6, h.7⟩⟩
@[simp] theorem quiet_setExportRead (s t : State) (r : Option BlockRead) : s.Quiet (t.setExportRead r) ↔ s.Quiet t :=
  ⟨fun h => ⟨h.1, h.2, h.3, h.4, h.5, h.6, h.7⟩, fun h => ⟨h.1, h.2, h.3, h.4, h.5, h.6, h.7⟩⟩
@[simp] theorem quiet_setService (s t : State) (v : Option InService) : s.Quiet (t.setService v) ↔ s.Quiet t :=
  ⟨fun h => ⟨h.1, h.2, h.3, h.4, h.5, h.6, h.7⟩, fun h => ⟨h.1, h.2, h.3, h.4, h.5, h.6, h.7⟩⟩
@[simp] theorem quiet_setExporter (s t : State) (e : Exporter) : s.Quiet (t.setExporter e) ↔ s.Quiet t :=
  ⟨fun h => ⟨h.1, h.2, h.3, h.4, h.5, h.6, h.7⟩, fun h => ⟨h.1, h.2, h.3, h.4, h.5, h.6, h.7⟩⟩
@[simp] theorem quiet_emit (s t : State) (e : Emission) : s.Quiet (t.emit e) ↔ s.Quiet t :=
  ⟨fun h => ⟨h.1, h.2, h.3, h.4, h.5, h.6, h.7⟩, fun h => ⟨h.1, h.2, h.3, h.4, h.5, h.6, h.7⟩⟩

@[simp] theorem quiet_with_clips (s t : State) (x : List (Nat × Clip)) : s.Quiet { t with clips := x } ↔ s.Quiet t :=
  ⟨fun h => ⟨h.1, h.2, h.3, h.4, h.5, h.6, h.7⟩, fun h => ⟨h.1, h.2, h.3, h.4, h.5, h.6, h.7⟩⟩
@[simp] theorem quiet_with_marks (s t : State) (x : Vector MarkLine 8) : s.Quiet { t with marks := x } ↔ s.Quiet t :=
  ⟨fun h => ⟨h.1, h.2, h.3, h.4, h.5, h.6, h.7⟩, fun h => ⟨h.1, h.2, h.3, h.4, h.5, h.6, h.7⟩⟩
@[simp] theorem quiet_with_channels (s t : State) (x : Vector Channel 4) : s.Quiet { t with channels := x } ↔ s.Quiet t :=
  ⟨fun h => ⟨h.1, h.2, h.3, h.4, h.5, h.6, h.7⟩, fun h => ⟨h.1, h.2, h.3, h.4, h.5, h.6, h.7⟩⟩
@[simp] theorem quiet_with_underWay (s t : State) (x : Option (Fin 4)) : s.Quiet { t with underWay := x } ↔ s.Quiet t :=
  ⟨fun h => ⟨h.1, h.2, h.3, h.4, h.5, h.6, h.7⟩, fun h => ⟨h.1, h.2, h.3, h.4, h.5, h.6, h.7⟩⟩
@[simp] theorem quiet_with_scanList (s t : State) (x : List (Fin 4)) : s.Quiet { t with scanList := x } ↔ s.Quiet t :=
  ⟨fun h => ⟨h.1, h.2, h.3, h.4, h.5, h.6, h.7⟩, fun h => ⟨h.1, h.2, h.3, h.4, h.5, h.6, h.7⟩⟩
@[simp] theorem quiet_with_xfer (s t : State) (x : Xfer) : s.Quiet { t with xfer := x } ↔ s.Quiet t :=
  ⟨fun h => ⟨h.1, h.2, h.3, h.4, h.5, h.6, h.7⟩, fun h => ⟨h.1, h.2, h.3, h.4, h.5, h.6, h.7⟩⟩
@[simp] theorem quiet_with_fresh (s t : State) (x : Nat) : s.Quiet { t with fresh := x } ↔ s.Quiet t :=
  ⟨fun h => ⟨h.1, h.2, h.3, h.4, h.5, h.6, h.7⟩, fun h => ⟨h.1, h.2, h.3, h.4, h.5, h.6, h.7⟩⟩

/-! ### Notices (R197, R198) -/

theorem le_greatestLevel (level : NoticeClass → Nat) (l : List Notice) : ∀ m, m ≤ l.foldl (fun m n => max m (level n.cls)) m := by
  induction l with
  | nil => intro m; exact Nat.le_refl _
  | cons a l ih => intro m; exact Nat.le_trans (Nat.le_max_left _ _) (ih _)

theorem greatest_attained (level : NoticeClass → Nat) (l : List Notice) :
    ∀ m, l.foldl (fun m n => max m (level n.cls)) m = m ∨
      ∃ n ∈ l, level n.cls = l.foldl (fun m n => max m (level n.cls)) m := by
  induction l with
  | nil => intro m; exact Or.inl rfl
  | cons a l ih =>
    intro m
    rcases ih (max m (level a.cls)) with h | ⟨n, hn, h⟩
    · rcases Nat.le_total m (level a.cls) with g | g
      · refine Or.inr ⟨a, by simp, ?_⟩
        simp only [List.foldl_cons]; rw [h, Nat.max_eq_right g]
      · refine Or.inl ?_
        simp only [List.foldl_cons]; rw [h, Nat.max_eq_left g]
    · exact Or.inr ⟨n, List.mem_cons_of_mem _ hn, h⟩

/-- Some notice of a queue that is not empty stands at the greatest level. -/
theorem exists_greatest (level : NoticeClass → Nat) (l : List Notice) (h : l ≠ []) :
    ∃ n ∈ l, level n.cls = greatestLevel level l := by
  cases l with
  | nil => exact absurd rfl h
  | cons a l =>
    rcases greatest_attained level (a :: l) 0 with g | g
    · refine ⟨a, by simp, ?_⟩
      have := le_greatestLevel level l (max 0 (level a.cls))
      unfold greatestLevel at *
      simp only [List.foldl_cons] at *
      omega
    · exact g

/-- One notice is dropped. -/
theorem dropLeastUrgent_length (level : NoticeClass → Nat) (l : List Notice) (h : l ≠ []) :
    (dropLeastUrgent level l).length = l.length - 1 := by
  obtain ⟨n, hn, hl⟩ := exists_greatest level l h
  unfold dropLeastUrgent
  rw [List.length_reverse, List.length_eraseP_of_mem (a := n) (by simpa using hn) (by simp [hl]), List.length_reverse]

theorem mem_of_mem_dropLeastUrgent {level : NoticeClass → Nat} {l : List Notice} {n : Notice}
    (h : n ∈ dropLeastUrgent level l) : n ∈ l := by
  unfold dropLeastUrgent at h
  rw [List.mem_reverse] at h
  have := List.mem_of_mem_eraseP h
  simpa using this

/-- What a post does to the Link Interface. -/
theorem post_onlyPosts (s : State) (cls : NoticeClass) (code subject : Nat) (data : List Byte) :
    s.link.OnlyPosts (s.post cls code subject data).link := by
  unfold post
  simp only []
  split
  · exact .refl _
  · rename_i hlvl
    have hl : s.link.levels[cls.number] ≠ 15 := hlvl
    split
    · rename_i hlen
      refine ⟨rfl, rfl, rfl, rfl, rfl, rfl, rfl, fun hs => ⟨?_, ?_⟩⟩
      · simp only [setLink_link, List.length_append, List.length_singleton] at *
        have : s.link.notices.length < 64 := hlen
        omega
      · intro n hn
        simp only [setLink_link, List.mem_append, List.mem_singleton] at hn ⊢
        rcases hn with hn | hn
        · exact hs.2 n hn
        · subst hn; exact hl
    · refine ⟨rfl, rfl, rfl, rfl, rfl, rfl, rfl, fun hs => ⟨?_, ?_⟩⟩
      · simp only [setLink_link]
        rw [dropLeastUrgent_length _ _ (by simp)]
        have := hs.1
        simp only [List.length_append, List.length_singleton]
        omega
      · intro n hn
        simp only [setLink_link] at hn ⊢
        have hn := mem_of_mem_dropLeastUrgent hn
        simp only [List.mem_append, List.mem_singleton] at hn
        rcases hn with hn | hn
        · exact hs.2 n hn
        · subst hn; exact hl

theorem post_quiet (s : State) (cls : NoticeClass) (code subject : Nat) (data : List Byte) :
    s.Quiet (s.post cls code subject data) := by
  refine ⟨?_, ?_, ?_, ?_, ?_, ?_, post_onlyPosts s cls code subject data⟩ <;>
    (unfold post; simp only []; split <;> [rfl; split <;> rfl])


end State

end Sys2Proof.Machine
end

