-- ==== Sys2Proof/Laws/QuietOps.lean ====
section
/-!
SUPPORT. The operations of the blocks are quiet (Safety.lean), one lemma each.
-/

namespace Sys2Proof.Machine.State

@[simp] theorem quiet_post {s t : State} (h : s.Quiet t) (cls : NoticeClass) (code subject : Nat) (data : List Byte) :
    s.Quiet (t.post cls code subject data) := h.trans (post_quiet ..)

@[simp] theorem quiet_refl (s : State) : s.Quiet s := .refl s

theorem quiet_foldl {α : Type} {f : State → α → State} {s t : State} (h : s.Quiet t)
    (hf : ∀ (u : State) a, u.Quiet (f u a)) (l : List α) : s.Quiet (l.foldl f t) := h.trans (.foldl hf l t)

@[simp] theorem quiet_setFlag {s t : State} (h : s.Quiet t) (c : Fin 4) (f : Flag) :
    s.Quiet (t.setFlag c f) := by
  refine h.trans ?_
  unfold setFlag
  simp only []
  (repeat' split) <;> simp (maxDischargeDepth := 60)

@[simp] theorem quiet_setClip {s t : State} (h : s.Quiet t) (n : Nat) (c : Clip) :
    s.Quiet (t.setClip n c) := by
  refine h.trans ?_
  unfold setClip
  split <;> simp

@[simp] theorem quiet_modifyClip {s t : State} (h : s.Quiet t) (n : Nat) (f : Clip → Clip) :
    s.Quiet (t.modifyClip n f) := by
  refine h.trans ?_
  unfold modifyClip
  split <;> simp

@[simp] theorem quiet_takeClip {s t : State} (h : s.Quiet t) (n : Nat) :
    s.Quiet (t.takeClip n) := by
  refine h.trans ?_
  unfold takeClip
  simp

@[simp] theorem quiet_leaveClip {s t : State} (h : s.Quiet t) (n : Nat) :
    s.Quiet (t.leaveClip n) := by
  refine h.trans ?_
  unfold leaveClip
  simp

@[simp] theorem quiet_moveRole {s t : State} (h : s.Quiet t) (a b : Source) :
    s.Quiet (t.moveRole a b) := by
  refine h.trans ?_
  unfold moveRole
  (repeat' split) <;> simp (maxDischargeDepth := 60)

@[simp] theorem quiet_placeClaim {s t : State} (h : s.Quiet t) (l : Fin 8) (n : Nat) :
    s.Quiet (t.placeClaim l n) := by
  refine h.trans ?_
  unfold placeClaim
  simp

@[simp] theorem quiet_removeClaim {s t : State} (h : s.Quiet t) (l : Fin 8) (n : Nat) :
    s.Quiet (t.removeClaim l n) := by
  refine h.trans ?_
  unfold removeClaim
  simp

@[simp] theorem quiet_release {s t : State} (h : s.Quiet t) (l : Fin 8) (r : LfnRange) :
    s.Quiet (t.release l r) := by
  refine h.trans ?_
  unfold release
  simp

@[simp] theorem quiet_relax {s t : State} (h : s.Quiet t) (n : Nat) (c : Clip) :
    s.Quiet (t.relax n c) := by
  refine h.trans ?_
  unfold relax
  (repeat' split) <;> simp (maxDischargeDepth := 60)

@[simp] theorem quiet_closeClip {s t : State} (h : s.Quiet t) (n o : Nat) :
    s.Quiet (t.closeClip n o) := by
  refine h.trans ?_
  unfold closeClip
  simp

@[simp] theorem quiet_closePlannedClip {s t : State} (h : s.Quiet t) (l : Fin 8) (n : Nat) :
    s.Quiet (t.closePlannedClip l n) := by
  refine h.trans ?_
  unfold closePlannedClip
  split <;> simp

@[simp] theorem quiet_closePlanned {s t : State} (h : s.Quiet t) (l : Fin 8) (b : Nat) :
    s.Quiet (t.closePlanned l b) := by
  refine h.trans ?_
  unfold closePlanned
  exact quiet_foldl (.refl _) (fun u a => by simp) _

@[simp] theorem quiet_closeBelow {s t : State} (h : s.Quiet t) (l : Fin 8) (b : Nat) :
    s.Quiet (t.closeBelow l b) := by
  refine h.trans ?_
  unfold closeBelow
  split <;> simp

@[simp] theorem quiet_closeAtCeiling {s t : State} (h : s.Quiet t) (l : Fin 8) (o a n : Nat) :
    s.Quiet (t.closeAtCeiling l o a n) := by
  refine h.trans ?_
  unfold closeAtCeiling
  simp

@[simp] theorem quiet_makeAbsent {s t : State} (h : s.Quiet t) (l : Fin 8) (a b n : Nat) :
    s.Quiet (t.makeAbsent l a b n) := by
  refine h.trans ?_
  unfold makeAbsent
  simp

@[simp] theorem quiet_evictedAt {s t : State} (h : s.Quiet t) (l : Fin 8) (n : Nat) :
    s.Quiet (t.evictedAt l n) := by
  refine h.trans ?_
  unfold evictedAt
  exact quiet_foldl (.refl _) (fun u a => by simp) _

@[simp] theorem quiet_laneConfigured {s t : State} (h : s.Quiet t) (l : Fin 8) :
    s.Quiet (t.laneConfigured l) := by
  refine h.trans ?_
  unfold laneConfigured
  exact quiet_foldl (.refl _) (fun u a => by simp) _

@[simp] theorem quiet_evict {s t : State} (h : s.Quiet t) (l : Fin 8) (e : Entry) :
    s.Quiet (t.evict l e) := by
  refine h.trans ?_
  unfold evict
  simp

@[simp] theorem quiet_makeRoom {s t : State} (h : s.Quiet t) (l : Fin 8) :
    s.Quiet (t.makeRoom l) := by
  refine h.trans ?_
  unfold makeRoom
  (repeat' split) <;> simp (maxDischargeDepth := 60)

@[simp] theorem quiet_enterStopped {s t : State} (h : s.Quiet t) (l : Fin 8) :
    s.Quiet (t.enterStopped l) := by
  refine h.trans ?_
  unfold enterStopped
  simp

@[simp] theorem quiet_stopLane {s t : State} (h : s.Quiet t) (l : Fin 8) (x : StopCause) :
    s.Quiet (t.stopLane l x) := by
  refine h.trans ?_
  unfold stopLane
  simp only []
  split <;> simp

@[simp] theorem quiet_settleStopping {s t : State} (h : s.Quiet t) (l : Fin 8) :
    s.Quiet (t.settleStopping l) := by
  refine h.trans ?_
  unfold settleStopping
  split <;> simp

@[simp] theorem quiet_writeCompleted {s t : State} (h : s.Quiet t) (l : Fin 8) (n : Nat) :
    s.Quiet (t.writeCompleted l n) := by
  refine h.trans ?_
  unfold writeCompleted
  simp

@[simp] theorem quiet_grantLane {s t : State} (h : s.Quiet t) (l : Fin 8) :
    s.Quiet (t.grantLane l) := by
  refine h.trans ?_
  unfold grantLane
  split <;> simp

@[simp] theorem quiet_grantFetch {s t : State} (h : s.Quiet t) (c : Fin 4) :
    s.Quiet (t.grantFetch c) := by
  refine h.trans ?_
  unfold grantFetch
  simp only []
  (repeat' split) <;> exact .of_eq rfl rfl rfl rfl rfl rfl rfl

@[simp] theorem quiet_grantExport {s t : State} (h : s.Quiet t) :
    s.Quiet (t.grantExport) := by
  refine h.trans ?_
  unfold grantExport
  split <;> simp

@[simp] theorem quiet_grant {s t : State} (h : s.Quiet t) :
    s.Quiet (t.grant) := by
  refine h.trans ?_
  unfold grant
  (repeat' split) <;> simp (maxDischargeDepth := 60)

@[simp] theorem quiet_handWrite {s t : State} (h : s.Quiet t) (l : Fin 8) (n j : Nat) :
    s.Quiet (t.handWrite l n j) := by
  refine h.trans ?_
  unfold handWrite
  simp

@[simp] theorem quiet_handFetch {s t : State} (h : s.Quiet t) (c : Fin 4) (r : FrameRef) :
    s.Quiet (t.handFetch c r) := by
  refine h.trans ?_
  unfold handFetch
  simp

@[simp] theorem quiet_handExportRead {s t : State} (h : s.Quiet t) (l : Fin 8) (n j k : Nat) :
    s.Quiet (t.handExportRead l n j k) := by
  refine h.trans ?_
  unfold handExportRead
  simp

@[simp] theorem quiet_cancelWrite {s t : State} (h : s.Quiet t) (l : Fin 8) (n : Nat) :
    s.Quiet (t.cancelWrite l n) := by
  refine h.trans ?_
  unfold cancelWrite
  simp

@[simp] theorem quiet_fireCue {s t : State} (h : s.Quiet t) (k : Fin 8) (a : Nat) (d : List Byte) (b : Nat) :
    s.Quiet (t.fireCue k a d b) := by
  refine h.trans ?_
  unfold fireCue
  simp

@[simp] theorem quiet_triggerCue {s t : State} (h : s.Quiet t) (k : Fin 8) (a : Nat) (d : List Byte) (b : Nat) :
    s.Quiet (t.triggerCue k a d b) := by
  refine h.trans ?_
  unfold triggerCue
  simp only []
  split <;> simp

@[simp] theorem quiet_cueSeesFrame {s t : State} (h : s.Quiet t) (c : Fin 4) (o n : FrameRef) (k : Fin 8) :
    s.Quiet (t.cueSeesFrame c o n k) := by
  refine h.trans ?_
  unfold cueSeesFrame
  simp only []
  (repeat' split) <;> simp (maxDischargeDepth := 60)

@[simp] theorem quiet_reportFrame {s t : State} (h : s.Quiet t) (c : Fin 4) (o : Option FrameRef) (n : FrameRef) :
    s.Quiet (t.reportFrame c o n) := by
  refine h.trans ?_
  unfold reportFrame
  (repeat' split) <;> simp (maxDischargeDepth := 60)

@[simp] theorem quiet_cueSeesSegue {s t : State} (h : s.Quiet t) (c : Fin 4) (b : Fin 8) (e : Fin 32) (k : Fin 8) :
    s.Quiet (t.cueSeesSegue c b e k) := by
  refine h.trans ?_
  unfold cueSeesSegue
  simp only []
  split <;> simp

@[simp] theorem quiet_reportSegue {s t : State} (h : s.Quiet t) (c : Fin 4) (b : Fin 8) (e : Fin 32) :
    s.Quiet (t.reportSegue c b e) := by
  refine h.trans ?_
  unfold reportSegue
  simp (maxDischargeDepth := 60)

@[simp] theorem quiet_cueFollows {s t : State} (h : s.Quiet t) (c : Fin 4) (p : Bool) (k : Fin 8) :
    s.Quiet (t.cueFollows c p k) := by
  refine h.trans ?_
  unfold cueFollows
  simp only []
  split <;> simp

@[simp] theorem quiet_setChannel {s t : State} (h : s.Quiet t) (c : Fin 4) (x : Channel) :
    s.Quiet (t.setChannel c x) := by
  refine h.trans ?_
  unfold setChannel
  simp only []
  (repeat' split) <;> simp (maxDischargeDepth := 60)

@[simp] theorem quiet_cueTick {s t : State} (h : s.Quiet t) (k : Fin 8) :
    s.Quiet (t.cueTick k) := by
  refine h.trans ?_
  unfold cueTick
  simp

@[simp] theorem quiet_noteQuant {s t : State} (h : s.Quiet t) (c : Fin 4) (b : Bool) :
    s.Quiet (t.noteQuant c b) := by
  refine h.trans ?_
  unfold noteQuant
  split <;> simp

@[simp] theorem quiet_cueAt {s t : State} (h : s.Quiet t) (c : Fin 4) (a : Source) (n : Nat) :
    s.Quiet (t.cueAt c a n) := by
  refine h.trans ?_
  unfold cueAt
  simp

@[simp] theorem quiet_goLive {s t : State} (h : s.Quiet t) (c : Fin 4) (l : Fin 8) (d n : Nat) :
    s.Quiet (t.goLive c l d n) := by
  refine h.trans ?_
  unfold goLive
  simp

@[simp] theorem quiet_playChannel {s t : State} (h : s.Quiet t) (c : Fin 4) (v : Int) (n : Nat) (r : RoundMode) :
    s.Quiet (t.playChannel c v n r) := by
  refine h.trans ?_
  unfold playChannel
  simp

@[simp] theorem quiet_saveContext {s t : State} (h : s.Quiet t) (c : Fin 4) :
    s.Quiet (t.saveContext c) := by
  refine h.trans ?_
  unfold saveContext
  simp only []
  split <;> simp

@[simp] theorem quiet_passSegue {s t : State} (h : s.Quiet t) (c : Fin 4) (x : SegueTarget) (k : SegueCause) (q : Option SegueRequest) :
    s.Quiet (t.passSegue c x k q) := by
  refine h.trans ?_
  unfold passSegue
  simp (maxDischargeDepth := 60)

@[simp] theorem quiet_failSegue {s t : State} (h : s.Quiet t) (c : Fin 4) (r : Running) (b : Fin 8) (n : Int) (f : SegueFault) (k : SegueCause) (p : Nat) (d : Bool) :
    s.Quiet (t.failSegue c r b n f k p d) := by
  refine h.trans ?_
  unfold failSegue
  (repeat' split) <;> simp (maxDischargeDepth := 60)

@[simp] theorem quiet_makeSegue {s t : State} (h : s.Quiet t) (c : Fin 4) (r : Running) (b : Fin 8) (n : Int) (k : SegueCause) (p : Nat × Bool) :
    s.Quiet (t.makeSegue c r b n k p) := by
  refine h.trans ?_
  unfold makeSegue
  split <;> simp

@[simp] theorem quiet_takeRequest {s t : State} (h : s.Quiet t) (c : Fin 4) (r : Running) (q : SegueRequest) (p : Nat × Bool) :
    s.Quiet (t.takeRequest c r q p) := by
  refine h.trans ?_
  unfold takeRequest
  split <;> simp

@[simp] theorem quiet_postHold {s t : State} (h : s.Quiet t) (c : Fin 4) (r : Running) (a n : Nat) :
    s.Quiet (t.postHold c r a n) := by
  refine h.trans ?_
  unfold postHold
  simp

@[simp] theorem quiet_holdAction {s t : State} (h : s.Quiet t) (c : Fin 4) (r : Running) (n : Nat) :
    s.Quiet (t.holdAction c r n) := by
  refine h.trans ?_
  unfold holdAction
  simp

@[simp] theorem quiet_stopAction {s t : State} (h : s.Quiet t) (c : Fin 4) (r : Running) (n : Nat) :
    s.Quiet (t.stopAction c r n) := by
  refine h.trans ?_
  unfold stopAction
  simp only []
  (repeat' split) <;> simp (maxDischargeDepth := 60)

@[simp] theorem quiet_endAction {s t : State} (h : s.Quiet t) (c : Fin 4) (r : Running) (n : Nat) :
    s.Quiet (t.endAction c r n) := by
  refine h.trans ?_
  unfold endAction
  simp only []
  split <;> simp

@[simp] theorem quiet_keepPicture {s t : State} (h : s.Quiet t) (c : Fin 4) :
    s.Quiet (t.keepPicture c) := by
  refine h.trans ?_
  unfold keepPicture
  split <;> simp

@[simp] theorem quiet_presentNext {s t : State} (h : s.Quiet t) (c : Fin 4) (f : FrameRef) :
    s.Quiet (t.presentNext c f) := by
  refine h.trans ?_
  unfold presentNext
  simp

@[simp] theorem quiet_presentation {s t : State} (h : s.Quiet t) (c : Fin 4) :
    s.Quiet (t.presentation c) := by
  refine h.trans ?_
  unfold presentation
  simp only []
  (repeat' split) <;> simp (maxDischargeDepth := 60)

@[simp] theorem quiet_holdStep {s t : State} (h : s.Quiet t) (c : Fin 4) (i : Int) :
    s.Quiet (t.holdStep c i) := by
  refine h.trans ?_
  unfold holdStep
  simp only []
  (repeat' split) <;> simp (maxDischargeDepth := 60)

@[simp] theorem quiet_startStep {s t : State} (h : s.Quiet t) (c : Fin 4) (i : Int) :
    s.Quiet (t.startStep c i) := by
  refine h.trans ?_
  unfold startStep
  simp only []
  split <;> simp

@[simp] theorem quiet_crossingStep {s t : State} (h : s.Quiet t) (c : Fin 4) (r : Running) (i : Int) :
    s.Quiet (t.crossingStep c r i) := by
  refine h.trans ?_
  unfold crossingStep
  simp only []
  split <;> simp

@[simp] theorem quiet_runningStep {s t : State} (h : s.Quiet t) (c : Fin 4) (r : Running) (i : Int) :
    s.Quiet (t.runningStep c r i) := by
  refine h.trans ?_
  unfold runningStep
  simp only []
  (repeat' split) <;> simp (maxDischargeDepth := 60)

@[simp] theorem quiet_boundaryStep {s t : State} (h : s.Quiet t) (c : Fin 4) (i : Int) :
    s.Quiet (t.boundaryStep c i) := by
  refine h.trans ?_
  unfold boundaryStep
  split <;> simp

@[simp] theorem quiet_requestFetch {s t : State} (h : s.Quiet t) (c : Fin 4) (f : FrameRef) :
    s.Quiet (t.requestFetch c f) := by
  refine h.trans ?_
  unfold requestFetch
  simp (maxDischargeDepth := 60)

@[simp] theorem quiet_selection {s t : State} (h : s.Quiet t) (c : Fin 4) :
    s.Quiet (t.selection c) := by
  refine h.trans ?_
  unfold selection
  simp only []
  (repeat' split) <;> simp (maxDischargeDepth := 60)

@[simp] theorem quiet_channelTick {s t : State} (h : s.Quiet t) (c : Fin 4) :
    s.Quiet (t.channelTick c) := by
  refine h.trans ?_
  unfold channelTick
  simp only []
  (repeat' split) <;> simp (maxDischargeDepth := 60)

@[simp] theorem quiet_playAt {s t : State} (h : s.Quiet t) (c : Fin 4) (f : SpeedField) (n : Nat) (r : RoundMode) :
    s.Quiet (t.playAt c f n r) := by
  refine h.trans ?_
  unfold playAt
  simp

@[simp] theorem quiet_postSync {s t : State} (h : s.Quiet t) (x : Fin 16) (r : Status) (c : Fin 4) :
    s.Quiet (t.postSync x r c) := by
  refine h.trans ?_
  unfold postSync
  simp

@[simp] theorem quiet_discardSave {s t : State} (h : s.Quiet t) (c : Fin 4) :
    s.Quiet (t.discardSave c) := by
  refine h.trans ?_
  unfold discardSave
  split <;> simp

@[simp] theorem quiet_discardArrival {s t : State} (h : s.Quiet t) (l : Fin 8) :
    s.Quiet (t.discardArrival l) := by
  refine h.trans ?_
  unfold discardArrival
  simp

@[simp] theorem quiet_holdArrival {s t : State} (h : s.Quiet t) (l : Fin 8) (b n : Nat) :
    s.Quiet (t.holdArrival l b n) := by
  refine h.trans ?_
  unfold holdArrival
  simp only []
  (repeat' split) <;> first | (simp (maxDischargeDepth := 60); done) | exact quiet_foldl (by simp) (fun u a => by simp (maxDischargeDepth := 60)) _

@[simp] theorem quiet_takeArrival {s t : State} (h : s.Quiet t) (l : Fin 8) (b n p : Nat) :
    s.Quiet (t.takeArrival l b n p) := by
  refine h.trans ?_
  unfold takeArrival
  simp only []
  (repeat' split) <;> simp (maxDischargeDepth := 60)

@[simp] theorem quiet_overrunArrival {s t : State} (h : s.Quiet t) (l : Fin 8) (n : Nat) :
    s.Quiet (t.overrunArrival l n) := by
  refine h.trans ?_
  unfold overrunArrival
  simp (maxDischargeDepth := 60)

@[simp] theorem quiet_arrive {s t : State} (h : s.Quiet t) (l : Fin 8) :
    s.Quiet (t.arrive l) := by
  refine h.trans ?_
  unfold arrive
  simp only []
  (repeat' split) <;> simp (maxDischargeDepth := 60)

@[simp] theorem quiet_frameArrives {s t : State} (h : s.Quiet t) (l : Fin 8) :
    s.Quiet (t.frameArrives l) := by
  refine h.trans ?_
  unfold frameArrives
  split <;> simp

@[simp] theorem quiet_damageFrame {s t : State} (h : s.Quiet t) (l : Fin 8) (n : Nat) :
    s.Quiet (t.damageFrame l n) := by
  refine h.trans ?_
  unfold damageFrame
  (repeat' split) <;> simp (maxDischargeDepth := 60)

@[simp] theorem quiet_endDamaged {s t : State} (h : s.Quiet t) (l : Fin 8) (g : Option Nat) :
    s.Quiet (t.endDamaged l g) := by
  refine h.trans ?_
  unfold endDamaged
  simp only []
  split <;> simp

@[simp] theorem quiet_signalReport {s t : State} (h : s.Quiet t) (l : Fin 8) (p : Bool) :
    s.Quiet (t.signalReport l p) := by
  refine h.trans ?_
  unfold signalReport
  simp only []
  (repeat' split) <;> simp (maxDischargeDepth := 60)

@[simp] theorem quiet_periodTick {s t : State} (h : s.Quiet t) (l : Fin 8) :
    s.Quiet (t.periodTick l) := by
  refine h.trans ?_
  unfold periodTick
  simp only []
  split <;> simp (maxDischargeDepth := 60)

@[simp] theorem quiet_laneTick {s t : State} (h : s.Quiet t) (l : Fin 8) :
    s.Quiet (t.laneTick l) := by
  refine h.trans ?_
  unfold laneTick
  split <;> simp

@[simp] theorem quiet_endExport {s t : State} (h : s.Quiet t) (r : ExportResult) :
    s.Quiet (t.endExport r) := by
  refine h.trans ?_
  unfold endExport
  simp (maxDischargeDepth := 60)

@[simp] theorem quiet_endFrame {s t : State} (h : s.Quiet t) (f : ExportFrame) (d : Bool) :
    s.Quiet (t.endFrame f d) := by
  refine h.trans ?_
  unfold endFrame
  simp

@[simp] theorem quiet_beginFrame {s t : State} (h : s.Quiet t) (e : Entry) :
    s.Quiet (t.beginFrame e) := by
  refine h.trans ?_
  unfold beginFrame
  simp

@[simp] theorem quiet_sendGap {s t : State} (h : s.Quiet t) :
    s.Quiet (t.sendGap) := by
  refine h.trans ?_
  unfold sendGap
  simp

theorem walk_quiet (k : Nat) : ∀ t : State, t.Quiet (t.walk k) := by
  induction k with
  | zero => exact fun t => .refl t
  | succ k ih =>
    intro t
    unfold walk
    split
    · simp
    · simp only []
      split
      · simp
      · exact Quiet.trans (by simp) (ih _)

@[simp] theorem quiet_walkOn {s t : State} (h : s.Quiet t) :
    s.Quiet (t.walkOn) := by
  refine h.trans ?_
  exact walk_quiet _ _

@[simp] theorem quiet_exportBlockDone {s t : State} (h : s.Quiet t) (g : Bool) :
    s.Quiet (t.exportBlockDone g) := by
  refine h.trans ?_
  unfold exportBlockDone
  simp only []
  (repeat' split) <;> simp (maxDischargeDepth := 60)

@[simp] theorem quiet_stallEnd {s t : State} (h : s.Quiet t) :
    s.Quiet (t.stallEnd) := by
  refine h.trans ?_
  unfold stallEnd
  simp only []
  split <;> simp

@[simp] theorem quiet_exporterTick {s t : State} (h : s.Quiet t) :
    s.Quiet (t.exporterTick) := by
  refine h.trans ?_
  unfold exporterTick
  simp only []
  (repeat' split) <;> simp (maxDischargeDepth := 60)

@[simp] theorem quiet_startExport {s t : State} (h : s.Quiet t) (n a b g : Nat) :
    s.Quiet (t.startExport n a b g) := by
  refine h.trans ?_
  unfold startExport
  simp

@[simp] theorem quiet_modifyWrite {s t : State} (h : s.Quiet t) (l : Fin 8) (n : Nat) (f : FrameWrite → FrameWrite) :
    s.Quiet (t.modifyWrite l n f) := by
  refine h.trans ?_
  unfold modifyWrite
  simp

@[simp] theorem quiet_blockDelivered {s t : State} (h : s.Quiet t) (l : Fin 8) (d : BlockData) :
    s.Quiet (t.blockDelivered l d) := by
  refine h.trans ?_
  unfold blockDelivered
  simp only []
  (repeat' split) <;> simp (maxDischargeDepth := 60)

@[simp] theorem quiet_finishWrite {s t : State} (h : s.Quiet t) (l : Fin 8) (n : Nat) :
    s.Quiet (t.finishWrite l n) := by
  refine h.trans ?_
  unfold finishWrite
  (repeat' split) <;> simp (maxDischargeDepth := 60)

@[simp] theorem quiet_endGood {s t : State} (h : s.Quiet t) (l : Fin 8) (g : Option Nat) (n : Nat) :
    s.Quiet (t.endGood l g n) := by
  refine h.trans ?_
  unfold endGood
  simp

@[simp] theorem quiet_frameEnds {s t : State} (h : s.Quiet t) (l : Fin 8) (x : FrameEnd) :
    s.Quiet (t.frameEnds l x) := by
  refine h.trans ?_
  unfold frameEnds
  (repeat' split) <;> simp (maxDischargeDepth := 60)

@[simp] theorem quiet_postReadError {s t : State} (h : s.Quiet t) (l : Fin 8) (a b k r : Nat) :
    s.Quiet (t.postReadError l a b k r) := by
  refine h.trans ?_
  unfold postReadError
  simp

@[simp] theorem quiet_fetchCompleted {s t : State} (h : s.Quiet t) (c : Fin 4) (f : FrameRef) :
    s.Quiet (t.fetchCompleted c f) := by
  refine h.trans ?_
  unfold fetchCompleted
  simp

@[simp] theorem quiet_fetchFailed {s t : State} (h : s.Quiet t) (c : Fin 4) (f : FrameRef) :
    s.Quiet (t.fetchFailed c f) := by
  refine h.trans ?_
  unfold fetchFailed
  simp (maxDischargeDepth := 60)

@[simp] theorem quiet_streamBlock {s t : State} (h : s.Quiet t) (c : Fin 4) (d : BlockData) :
    s.Quiet (t.streamBlock c d) := by
  refine h.trans ?_
  unfold streamBlock
  simp

@[simp] theorem quiet_fetchBlockDone {s t : State} (h : s.Quiet t) (c : Fin 4) (b i : Nat) (g : Bool) :
    s.Quiet (t.fetchBlockDone c b i g) := by
  refine h.trans ?_
  unfold fetchBlockDone
  (repeat' split) <;> simp (maxDischargeDepth := 60)

@[simp] theorem quiet_exportReadDone {s t : State} (h : s.Quiet t) (b : Nat) (g : Bool) :
    s.Quiet (t.exportReadDone b g) := by
  refine h.trans ?_
  unfold exportReadDone
  (repeat' split) <;> simp (maxDischargeDepth := 60)

@[simp] theorem quiet_dropWorking {s t : State} (h : s.Quiet t) (n : Nat) :
    s.Quiet (t.dropWorking n) := by
  refine h.trans ?_
  unfold dropWorking
  simp

@[simp] theorem quiet_markIgnored {s t : State} (h : s.Quiet t) (m : Fin 8) (w : Nat) (r : MarkReason) (d : List Byte) :
    s.Quiet (t.markIgnored m w r d) := by
  refine h.trans ?_
  unfold markIgnored
  simp

@[simp] theorem quiet_markTaken {s t : State} (h : s.Quiet t) (m : Fin 8) (a b c : Nat) (o : LockOutcome) (w : Bool) :
    s.Quiet (t.markTaken m a b c o w) := by
  refine h.trans ?_
  unfold markTaken
  simp

@[simp] theorem quiet_setWorking {s t : State} (h : s.Quiet t) (b : LineBinding) (w : Nat) :
    s.Quiet (t.setWorking b w) := by
  refine h.trans ?_
  unfold setWorking
  simp

end Sys2Proof.Machine.State
end

