-- ==== Sys2Proof/Laws/QuietCommands.lean ====
section
/-!
SUPPORT. What the commands and the operator events do to the state is quiet (Safety.lean), one lemma each.
-/

namespace Sys2Proof.Machine

@[simp] theorem State.accept_state (s : State) (b : List Byte) : (s.accept b).state = s := rfl
@[simp] theorem State.accept_status (s : State) (b : List Byte) : (s.accept b).status = .ok := rfl
@[simp] theorem State.accept_body (s : State) (b : List Byte) : (s.accept b).body = b := rfl
@[simp] theorem State.refuse_state (s : State) (st : Status) : (s.refuse st).state = s := rfl
@[simp] theorem State.refuse_status (s : State) (st : Status) : (s.refuse st).status = st := rfl
@[simp] theorem State.refuse_body (s : State) (st : Status) : (s.refuse st).body = [] := rfl

namespace State

/-- Lock admission is quiet when it is granted. -/
theorem quiet_admit {s t u : State} (h : s.Quiet t) {l : Fin 8} {r : LfnRange} (e : t.admitLock l r = some u) : s.Quiet u := by
  unfold admitLock at e
  simp only [] at e
  split at e
  · exact absurd e (by simp)
  · injection e with e
    subst e
    simpa using h

theorem quiet_lockForExport {s t u : State} (h : s.Quiet t) {n : Nat} (e : t.lockForExport n = some u) : s.Quiet u := by
  unfold lockForExport at e
  simp only [] at e
  split at e
  · injection e with e
    subst e
    exact quiet_setClip h _ _
  · split at e
    · exact absurd e (by simp)
    · rw [Option.map_eq_some_iff] at e
      obtain ⟨v, hv, e⟩ := e
      subst e
      exact quiet_setClip (quiet_admit h hv) _ _

@[simp] theorem quiet_askLock {s t : State} (h : s.Quiet t) (n : Nat) : s.Quiet (t.askLock n).1 := by
  unfold askLock
  simp only []
  split
  · exact h
  · rename_i u e
    rw [Option.bind_eq_some_iff] at e
    obtain ⟨r, _, hr⟩ := e
    exact quiet_setClip (quiet_admit h hr) _ _

@[simp] theorem quiet_repoint {s t : State} (h : s.Quiet t) (n : Nat) (c : Clip) : s.Quiet (t.repoint n c).1 := by
  refine h.trans ?_
  unfold repoint
  simp only []
  split
  · exact quiet_askLock (quiet_setClip (quiet_relax (.refl _) _ _) _ _) _
  · exact quiet_setClip (.refl _) _ _

@[simp] theorem quiet_createByLine {s t : State} (h : s.Quiet t) (n : Nat) (c : Clip) (b : Bool) :
    s.Quiet (t.createByLine n c b).1 := by
  refine h.trans ?_
  unfold createByLine
  simp only []
  split <;> simp

theorem quiet_fold2 {α β : Type} {f : State × β → α → State × β} {s : State} {p : State × β} (h : s.Quiet p.1)
    (hf : ∀ (p : State × β) a, p.1.Quiet (f p a).1) (l : List α) : s.Quiet (l.foldl f p).1 := h.trans (.foldl_fst hf l p)

theorem quiet_owned {s t : State} (h : s.Quiet t) (x : Header) (n : Nat) {run : Fin 4 → Answer}
    (hr : ∀ c, s.Quiet (run c).state) : s.Quiet (t.owned x n run).state := by
  unfold owned
  split
  · exact h
  · split
    · exact hr _
    · exact h

theorem quiet_withClip {s t : State} (h : s.Quiet t) (n : Nat) {run : Clip → Answer} (hr : ∀ c, s.Quiet (run c).state) :
    s.Quiet (t.withClip n run).state := by
  unfold withClip
  split
  · exact h
  · split
    · exact h
    · exact hr _

theorem quiet_withEdit {s t : State} (h : s.Quiet t) (n v : Nat) {run : Clip → Answer} (hr : ∀ c, s.Quiet (run c).state) :
    s.Quiet (t.withEdit n v run).state :=
  quiet_withClip h n fun c => by
    split
    · exact h
    · exact hr c

theorem quiet_markAction {s t : State} (h : s.Quiet t) (m : Fin 8) {run : Fin 8 → Nat → State}
    (hr : ∀ l n, s.Quiet (run l n)) : s.Quiet (t.markAction m run) := by
  unfold markAction
  simp only []
  split
  · exact quiet_markIgnored h _ _ _ _
  · exact hr _ _

theorem quiet_channelAction {s t : State} (h : s.Quiet t) (m : Fin 8) {run : Fin 4 → Answer}
    (hr : ∀ c, s.Quiet (run c).state) : s.Quiet (t.channelAction m run) := by
  unfold channelAction
  simp only []
  split
  · exact h
  · split
    · exact hr _
    · exact quiet_markIgnored (hr _) _ _ _ _

theorem syncOne_quiet (st : Fin 16) (f : SpeedField) (n : Nat) (r : RoundMode) (a : State × List Nat) (c : Fin 4) :
    a.1.Quiet (syncOne st f n r a c).1 := by
  unfold syncOne
  split <;> simp

theorem recStartOne_quiet (a : State × List Nat) (l : Fin 8) : a.1.Quiet (recStartOne a l).1 := by
  unfold recStartOne
  simp only []
  split <;> simp

theorem recStopOne_quiet (a : State × List Nat) (l : Fin 8) : a.1.Quiet (recStopOne a l).1 := by
  unfold recStopOne
  split <;> simp

@[simp] theorem quiet_takeReply {s t : State} (h : s.Quiet t) (c : Fin 4) :
    s.Quiet (t.takeReply c).state := by
  refine h.trans ?_
  unfold takeReply
  simp

@[simp] theorem quiet_positionReply {s t : State} (h : s.Quiet t) (c : Fin 4) :
    s.Quiet (t.positionReply c).state := by
  refine h.trans ?_
  unfold positionReply
  simp

@[simp] theorem quiet_targetReply {s t : State} (h : s.Quiet t) (c : Fin 4) :
    s.Quiet (t.targetReply c).state := by
  refine h.trans ?_
  unfold targetReply
  simp

@[simp] theorem quiet_flagsReply {s t : State} (h : s.Quiet t) (c : Fin 4) :
    s.Quiet (t.flagsReply c).state := by
  refine h.trans ?_
  unfold flagsReply
  simp

@[simp] theorem quiet_heldReply {s t : State} (h : s.Quiet t) (l : Fin 8) :
    s.Quiet (t.heldReply l).state := by
  refine h.trans ?_
  unfold heldReply
  simp

@[simp] theorem quiet_markReply {s t : State} (h : s.Quiet t) (n : Nat) (b : Bool) :
    s.Quiet (t.markReply n b).state := by
  refine h.trans ?_
  unfold markReply
  simp

@[simp] theorem quiet_takeChannel {s t : State} (h : s.Quiet t) (c : Fin 4) (st : Fin 16) (v : Nat) :
    s.Quiet (t.takeChannel c st v).state := by
  refine h.trans ?_
  unfold takeChannel
  simp only []
  (repeat' split) <;> simp (maxDischargeDepth := 60)

@[simp] theorem quiet_cueClipRequest {s t : State} (h : s.Quiet t) (c : Fin 4) (n o : Nat) :
    s.Quiet (t.cueClipRequest c n o).state := by
  refine h.trans ?_
  unfold cueClipRequest
  split <;> simp

@[simp] theorem quiet_cueLaneRequest {s t : State} (h : s.Quiet t) (c : Fin 4) (l : Fin 8) (b : Bool) (n : Nat) :
    s.Quiet (t.cueLaneRequest c l b n).state := by
  refine h.trans ?_
  unfold cueLaneRequest
  (repeat' split) <;> simp (maxDischargeDepth := 60)

@[simp] theorem quiet_liveRequest {s t : State} (h : s.Quiet t) (c : Fin 4) (l : Fin 8) (n : Nat) :
    s.Quiet (t.liveRequest c l n).state := by
  refine h.trans ?_
  unfold liveRequest
  split <;> simp

@[simp] theorem quiet_playRequest {s t : State} (h : s.Quiet t) (c : Fin 4) (f : SpeedField) (n : Nat) (r : RoundMode) :
    s.Quiet (t.playRequest c f n r).state := by
  refine h.trans ?_
  unfold playRequest
  simp only []
  (repeat' split) <;> simp (maxDischargeDepth := 60)

@[simp] theorem quiet_pauseRequest {s t : State} (h : s.Quiet t) (c : Fin 4) :
    s.Quiet (t.pauseRequest c).state := by
  refine h.trans ?_
  unfold pauseRequest
  simp only []
  split <;> simp

@[simp] theorem quiet_speedRequest {s t : State} (h : s.Quiet t) (c : Fin 4) (f : SpeedField) (n : Nat) :
    s.Quiet (t.speedRequest c f n).state := by
  refine h.trans ?_
  unfold speedRequest
  simp only []
  (repeat' split) <;> simp (maxDischargeDepth := 60)

@[simp] theorem quiet_stepRequest {s t : State} (h : s.Quiet t) (c : Fin 4) (n : Int) :
    s.Quiet (t.stepRequest c n).state := by
  refine h.trans ?_
  unfold stepRequest
  simp only []
  (repeat' split) <;> simp (maxDischargeDepth := 60)

@[simp] theorem quiet_continueRequest {s t : State} (h : s.Quiet t) (c : Fin 4) :
    s.Quiet (t.continueRequest c).state := by
  refine h.trans ?_
  unfold continueRequest
  simp only []
  (repeat' split) <;> simp (maxDischargeDepth := 60)

@[simp] theorem quiet_snapLaneRequest {s t : State} (h : s.Quiet t) (c : Fin 4) (l : Fin 8) (n : Nat) :
    s.Quiet (t.snapLaneRequest c l n).state := by
  refine h.trans ?_
  unfold snapLaneRequest
  split <;> simp

@[simp] theorem quiet_snapClipRequest {s t : State} (h : s.Quiet t) (c : Fin 4) (n o : Nat) :
    s.Quiet (t.snapClipRequest c n o).state := by
  refine h.trans ?_
  unfold snapClipRequest
  split <;> simp

@[simp] theorem quiet_resumeRequest {s t : State} (h : s.Quiet t) (c : Fin 4) (n : Nat) :
    s.Quiet (t.resumeRequest c n).state := by
  refine h.trans ?_
  unfold resumeRequest
  simp only []
  (repeat' split) <;> simp (maxDischargeDepth := 60)

@[simp] theorem quiet_syncRequest {s t : State} (h : s.Quiet t) (x : Header) (m : BitVec 8) (p : PlayFields) :
    s.Quiet (t.syncRequest x m p).state := by
  refine h.trans ?_
  unfold syncRequest
  split
  · exact quiet_fold2 (p := (t, [])) (.refl _) (syncOne_quiet _ _ _ _) _
  · split
    · exact quiet_foldl (.refl _) (fun u a => by simp) _
    · exact .refl _

@[simp] theorem quiet_bankWriteRequest {s t : State} (h : s.Quiet t) (b f n : Nat) (r : List SegmentFields) :
    s.Quiet (t.bankWriteRequest b f n r).state := by
  refine h.trans ?_
  unfold bankWriteRequest
  split
  · split
    · exact .refl _
    · split
      · exact .refl _
      · exact quiet_foldl (.refl _) (fun u a => by simp) _
  all_goals exact .refl _

@[simp] theorem quiet_runRequest {s t : State} (h : s.Quiet t) (c : Fin 4) (b : Fin 8) (n : Nat) :
    s.Quiet (t.runRequest c b n).state := by
  refine h.trans ?_
  unfold runRequest
  simp only []
  (repeat' split) <;> simp (maxDischargeDepth := 60)

@[simp] theorem quiet_segueRequest {s t : State} (h : s.Quiet t) (c : Fin 4) (q : SegueRequest) :
    s.Quiet (t.segueRequest c q).state := by
  refine h.trans ?_
  unfold segueRequest
  simp only []
  split <;> simp

@[simp] theorem quiet_laneConfigRequest {s t : State} (h : s.Quiet t) (f : LaneFields) :
    s.Quiet (t.laneConfigRequest f).state := by
  refine h.trans ?_
  unfold laneConfigRequest
  simp only []
  (repeat' split) <;> simp (maxDischargeDepth := 60)

@[simp] theorem quiet_putMarked {s t : State} (h : s.Quiet t) (n : Nat) (m : Marked) :
    s.Quiet (t.putMarked n m).state := by
  refine h.trans ?_
  unfold putMarked
  simp

@[simp] theorem quiet_createByMark {s t : State} (h : s.Quiet t) (n : Nat) (a : PointSource) (f : Option (Fin 8)) (v e l : Nat) :
    s.Quiet (t.createByMark n a f v e l).state := by
  refine h.trans ?_
  unfold createByMark
  (repeat' split) <;> simp (maxDischargeDepth := 60)

@[simp] theorem quiet_markExisting {s t : State} (h : s.Quiet t) (n : Nat) (a : PointSource) (f : Option (Fin 8)) (o : Bool) (l : Nat) :
    s.Quiet (t.markExisting n a f o l).state := by
  refine h.trans ?_
  unfold markExisting
  simp only []
  (repeat' split) <;> simp (maxDischargeDepth := 60)

@[simp] theorem quiet_clipMarkRequest {s t : State} (h : s.Quiet t) (f : MarkFields) (l : Nat) :
    s.Quiet (t.clipMarkRequest f l).state := by
  refine h.trans ?_
  unfold clipMarkRequest
  (repeat' split) <;> simp (maxDischargeDepth := 60)

@[simp] theorem quiet_createBySpan {s t : State} (h : s.Quiet t) (n : Nat) (l : Fin 8) (f : SpanFields) (v : Nat) :
    s.Quiet (t.createBySpan n l f v).state := by
  refine h.trans ?_
  unfold createBySpan
  (repeat' split) <;> simp (maxDischargeDepth := 60)

@[simp] theorem quiet_spanExisting {s t : State} (h : s.Quiet t) (n : Nat) (l : Fin 8) (f : SpanFields) (v : Nat) :
    s.Quiet (t.spanExisting n l f v).state := by
  refine h.trans ?_
  unfold spanExisting
  simp only []
  (repeat' split) <;> simp (maxDischargeDepth := 60)

@[simp] theorem quiet_lockRequest {s t : State} (h : s.Quiet t) (n : Nat) (c : Clip) :
    s.Quiet (t.lockRequest n c).state := by
  refine h.trans ?_
  unfold lockRequest
  split
  · exact .refl _
  · split
    · simp
    · split
      · simp
      · split
        · exact .refl _
        · split
          · exact .refl _
          · exact quiet_heldReply (quiet_setClip (quiet_admit (.refl _) (by assumption)) _ _) _

@[simp] theorem quiet_unlockRequest {s t : State} (h : s.Quiet t) (n : Nat) (c : Clip) :
    s.Quiet (t.unlockRequest n c).state := by
  refine h.trans ?_
  unfold unlockRequest
  split <;> simp

@[simp] theorem quiet_deleteRequest {s t : State} (h : s.Quiet t) (n : Nat) (c : Clip) :
    s.Quiet (t.deleteRequest n c).state := by
  refine h.trans ?_
  unfold deleteRequest
  (repeat' split) <;> simp (maxDischargeDepth := 60)

@[simp] theorem quiet_lineConfigRequest {s t : State} (h : s.Quiet t) (f : LineFields) :
    s.Quiet (t.lineConfigRequest f).state := by
  refine h.trans ?_
  unfold lineConfigRequest
  simp only []
  (repeat' split) <;> simp (maxDischargeDepth := 60)

@[simp] theorem quiet_jogConfigRequest {s t : State} (h : s.Quiet t) (f : JogFields) :
    s.Quiet (t.jogConfigRequest f).state := by
  refine h.trans ?_
  unfold jogConfigRequest
  (repeat' split) <;> simp (maxDischargeDepth := 60)

@[simp] theorem quiet_leverConfigRequest {s t : State} (h : s.Quiet t) (f : LeverFields) :
    s.Quiet (t.leverConfigRequest f).state := by
  refine h.trans ?_
  unfold leverConfigRequest
  (repeat' split) <;> simp (maxDischargeDepth := 60)

@[simp] theorem quiet_exportStartRequest {s t : State} (h : s.Quiet t) (n a b g v : Nat) :
    s.Quiet (t.exportStartRequest n a b g v).state := by
  refine h.trans ?_
  unfold exportStartRequest
  simp only []
  repeat' split
  all_goals first
    | exact .refl _
    | exact quiet_startExport (quiet_lockForExport (.refl _) (by assumption)) _ _ _ _

@[simp] theorem quiet_cueConfigRequest {s t : State} (h : s.Quiet t) (f : CueFields) :
    s.Quiet (t.cueConfigRequest f).state := by
  refine h.trans ?_
  unfold cueConfigRequest
  (repeat' split) <;> simp (maxDischargeDepth := 60)

@[simp] theorem quiet_cueFireRequest {s t : State} (h : s.Quiet t) (k : Fin 8) :
    s.Quiet (t.cueFireRequest k).state := by
  refine h.trans ?_
  unfold cueFireRequest
  split <;> simp

@[simp] theorem quiet_markInCreates {s t : State} (h : s.Quiet t) (m l : Fin 8) (n : Nat) :
    s.Quiet (t.markInCreates m l n) := by
  refine h.trans ?_
  unfold markInCreates
  simp only []
  (repeat' split) <;> simp (maxDischargeDepth := 60)

@[simp] theorem quiet_markInReplaces {s t : State} (h : s.Quiet t) (m l : Fin 8) (k : Nat) (c : Clip) (n : Nat) :
    s.Quiet (t.markInReplaces m l k c n) := by
  refine h.trans ?_
  unfold markInReplaces
  simp only []
  (repeat' split) <;> simp (maxDischargeDepth := 60)

@[simp] theorem quiet_markInAction {s t : State} (h : s.Quiet t) (m l : Fin 8) (n : Nat) :
    s.Quiet (t.markInAction m l n) := by
  refine h.trans ?_
  unfold markInAction
  (repeat' split) <;> simp (maxDischargeDepth := 60)

@[simp] theorem quiet_markOutAction {s t : State} (h : s.Quiet t) (m l : Fin 8) (n : Nat) :
    s.Quiet (t.markOutAction m l n) := by
  refine h.trans ?_
  unfold markOutAction
  simp only []
  (repeat' split) <;> simp (maxDischargeDepth := 60)

@[simp] theorem quiet_markSnapAction {s t : State} (h : s.Quiet t) (m l : Fin 8) (n : Nat) :
    s.Quiet (t.markSnapAction m l n) := by
  refine h.trans ?_
  unfold markSnapAction
  simp only []
  (repeat' split) <;> simp (maxDischargeDepth := 60)

@[simp] theorem quiet_lineAction {s t : State} (h : s.Quiet t) (m : Fin 8) :
    s.Quiet (t.lineAction m) := by
  refine h.trans ?_
  unfold lineAction
  simp only []
  split <;>
    first
    | simp
    | exact quiet_markAction (by simp) _ fun _ _ => by simp
    | exact quiet_channelAction (by simp) _ fun _ => by simp

@[simp] theorem quiet_lineInput {s t : State} (h : s.Quiet t) (m : Fin 8) (b : Bool) :
    s.Quiet (t.lineInput m b) := by
  refine h.trans ?_
  unfold lineInput
  simp only []
  (repeat' split) <;> simp (maxDischargeDepth := 60)

@[simp] theorem quiet_lineTick {s t : State} (h : s.Quiet t) (m : Fin 8) :
    s.Quiet (t.lineTick m) := by
  refine h.trans ?_
  unfold lineTick
  simp

@[simp] theorem quiet_jogTick {s t : State} (h : s.Quiet t) (j : Fin 4) :
    s.Quiet (t.jogTick j) := by
  refine h.trans ?_
  unfold jogTick
  simp

@[simp] theorem quiet_deliverJog {s t : State} (h : s.Quiet t) (j : Fin 4) :
    s.Quiet (t.deliverJog j) := by
  refine h.trans ?_
  unfold deliverJog
  simp only []
  split <;> simp

@[simp] theorem quiet_nextConversion {s t : State} (h : s.Quiet t) :
    s.Quiet (t.nextConversion) := by
  refine h.trans ?_
  unfold nextConversion
  split <;> exact .of_eq rfl rfl rfl rfl rfl rfl rfl

@[simp] theorem quiet_skipLevers {s t : State} (h : s.Quiet t) :
    s.Quiet (t.skipLevers) := by
  refine h.trans ?_
  unfold skipLevers
  exact quiet_foldl (.refl _) (fun u a => by simp) _

@[simp] theorem quiet_leverTick {s t : State} (h : s.Quiet t) :
    s.Quiet (t.leverTick) := by
  refine h.trans ?_
  unfold leverTick
  simp

@[simp] theorem quiet_leverResult {s t : State} (h : s.Quiet t) (n : Nat) :
    s.Quiet (t.leverResult n) := by
  refine h.trans ?_
  unfold leverResult
  (repeat' split) <;> simp (maxDischargeDepth := 60)

@[simp] theorem quiet_deliverLever {s t : State} (h : s.Quiet t) (v : Fin 4) :
    s.Quiet (t.deliverLever v) := by
  refine h.trans ?_
  unfold deliverLever
  simp only []
  split <;> simp

@[simp] theorem quiet_tickAction {s t : State} (h : s.Quiet t) (a : TickAction) :
    s.Quiet (t.tickAction a) := by
  refine h.trans ?_
  unfold tickAction
  split <;> simp

@[simp] theorem quiet_blocksTick {s t : State} (h : s.Quiet t) (o : List TickAction) :
    s.Quiet (t.blocksTick o) := by
  refine h.trans ?_
  unfold blocksTick
  exact quiet_foldl (by simp) (fun u a => by simp) _

end State

end Sys2Proof.Machine
end

