-- ==== Sys2Proof/Laws/Ops.lean ====
section
/-!
SUPPORT. Sparse tables, the store and the clip records; and what the shared operations with a choice in them leave alone, field by
field, so that no proof unfolds them.
-/

namespace Sys2Proof.Machine

/-! ### Sparse tables -/

theorem Sparse.lookup_insert {α : Type} (t : List (Nat × α)) (n m : Nat) (v : α) :
    Sparse.lookup (Sparse.insert t n v) m = if n = m then some v else Sparse.lookup t m := by
  induction t with
  | nil => simp [Sparse.insert, Sparse.lookup]
  | cons e t ih =>
    obtain ⟨k, w⟩ := e
    unfold Sparse.insert
    split
    · simp [Sparse.lookup]
    · split
      · rename_i h; subst h; simp only [Sparse.lookup]; split <;> rfl
      · simp only [Sparse.lookup, ih]
        split
        · rename_i h1 h2; subst h2; rw [if_neg h1]
        · rfl

theorem Sparse.lookup_erase {α : Type} (t : List (Nat × α)) (n m : Nat) :
    Sparse.lookup (Sparse.erase t n) m = if n = m then none else Sparse.lookup t m := by
  induction t with
  | nil => simp [Sparse.erase, Sparse.lookup]
  | cons e t ih =>
    obtain ⟨k, w⟩ := e
    unfold Sparse.erase at ih ⊢
    rw [List.filter_cons]
    by_cases h : k = n
    · subst h
      simp only [bne_self_eq_false, Bool.false_eq_true, if_false, ih, Sparse.lookup]
      split <;> rfl
    · simp only [bne_iff_ne, ne_eq, h, not_false_eq_true, if_true, Sparse.lookup, ih]
      split
      · rename_i h1; subst h1; rw [if_neg (Ne.symm h)]
      · rfl

theorem Sparse.mem_insert {α : Type} {t : List (Nat × α)} {n : Nat} {v : α} {e : Nat × α} (h : e ∈ Sparse.insert t n v) :
    e = (n, v) ∨ e ∈ t := by
  induction t with
  | nil => simpa [Sparse.insert] using h
  | cons a t ih =>
    obtain ⟨k, w⟩ := a
    unfold Sparse.insert at h
    split at h
    · simpa using h
    · split at h
      · rcases List.mem_cons.mp h with h | h
        · exact Or.inl h
        · exact Or.inr (List.mem_cons_of_mem _ h)
      · rcases List.mem_cons.mp h with h | h
        · exact Or.inr (h ▸ List.mem_cons_self ..)
        · rcases ih h with h | h
          · exact Or.inl h
          · exact Or.inr (List.mem_cons_of_mem _ h)

theorem Sparse.sorted_insert {α : Type} {t : List (Nat × α)} (n : Nat) (v : α) (h : Sparse.Sorted t) :
    Sparse.Sorted (Sparse.insert t n v) := by
  induction t with
  | nil => simp [Sparse.insert]
  | cons a t ih =>
    obtain ⟨k, w⟩ := a
    have h1 := List.pairwise_cons.mp h
    unfold Sparse.insert
    split
    · rename_i hn
      refine List.pairwise_cons.mpr ⟨fun e he => ?_, h⟩
      rcases List.mem_cons.mp he with he | he
      · subst he; exact hn
      · exact Nat.lt_trans hn (h1.1 e he)
    · split
      · rename_i hk
        refine List.pairwise_cons.mpr ⟨fun e he => ?_, h1.2⟩
        exact hk ▸ h1.1 e he
      · rename_i h2 h3
        refine List.pairwise_cons.mpr ⟨fun e he => ?_, ih h1.2⟩
        rcases Sparse.mem_insert he with he | he
        · subst he; show k < n; omega
        · exact h1.1 e he

theorem Sparse.sorted_erase {α : Type} {t : List (Nat × α)} (n : Nat) (h : Sparse.Sorted t) :
    Sparse.Sorted (Sparse.erase t n) := List.Pairwise.filter _ h

/-! ### The frame store -/

/-- A write of a block of the store keeps the store's one form. -/
theorem writeBlock_wf (s : State) (b : Nat) (d : BlockData) (h : Memory.wf s.store) (hb : b < 262144) :
    Memory.wf (s.writeBlock b d).store := by
  refine ⟨Sparse.sorted_insert b d h.1, fun e he => ?_⟩
  rcases Sparse.mem_insert he with he | he
  · subst he; exact hb
  · exact h.2 e he

/-- A block reads as what was last written to it. -/
theorem readBlock_writeBlock (s : State) (a b : Nat) (d : BlockData) :
    (s.writeBlock a d).readBlock b = if a = b then d else s.readBlock b := by
  unfold State.readBlock State.writeBlock
  simp only [Sparse.lookup_insert]
  split <;> simp

/-! ### Clip records -/

theorem clip_setClip (s : State) (n m : Nat) (c : Clip) :
    (s.setClip n c).clip m = if n = m then (if c.state = .free then Clip.free else c) else s.clip m := by
  unfold State.setClip State.clip
  split
  · simp only [Sparse.lookup_erase]; split <;> simp
  · simp only [Sparse.lookup_insert]; split <;> simp

theorem clip_modifyClip (s : State) (n m : Nat) (f : Clip → Clip) (hf : (f (s.clip n)).state = .free → (s.clip n).state = .free) :
    (s.modifyClip n f).clip m = if n = m ∧ (s.clip n).state ≠ .free then f (s.clip n) else s.clip m := by
  unfold State.modifyClip
  split
  · rename_i h; simp [h]
  · rename_i h
    rw [clip_setClip]
    by_cases hm : n = m
    · subst hm
      rw [if_pos rfl, if_neg (fun g => h (hf g)), if_pos ⟨rfl, h⟩]
    · rw [if_neg hm, if_neg (fun g => hm g.1)]

/-! ### Channel records -/

theorem cueFollows_channels (s : State) (c : Fin 4) (p : Bool) (k : Fin 8) : (s.cueFollows c p k).channels = s.channels := by
  unfold State.cueFollows; simp only []; split <;> rfl

/-- What a fold of one operation over a list leaves alone. -/
theorem foldl_keep {α β : Type} (g : State → β) {f : State → α → State} (h : ∀ s a, g (f s a) = g s) (l : List α) (s : State) :
    g (l.foldl f s) = g s := by
  induction l generalizing s with
  | nil => rfl
  | cons a l ih => exact (ih _).trans (h s a)

theorem setChannel_channels (s : State) (c : Fin 4) (x : Channel) : (s.setChannel c x).channels = s.channels.set c x := by
  unfold State.setChannel
  simp only []
  split
  · rfl
  · exact foldl_keep State.channels (fun s k => cueFollows_channels s _ _ k) _ _

theorem channel_setChannel (s : State) (c d : Fin 4) (x : Channel) :
    (s.setChannel c x).channel d = if c = d then x else s.channel d := by
  unfold State.channel
  simp only [setChannel_channels]
  by_cases h : c = d
  · subst h; simp
  · have : c.val ≠ d.val := fun e => h (Fin.ext e)
    simp [h, this]

@[simp] theorem channel_setChannel_same (s : State) (c : Fin 4) (x : Channel) : (s.setChannel c x).channel c = x := by
  rw [channel_setChannel, if_pos rfl]

/-! ### What the operations with a choice leave alone -/

@[simp] theorem State.post_resetHeld (s : State) (k : NoticeClass) (a b : Nat) (d : List Byte) : (s.post k a b d).resetHeld = s.resetHeld := by
  unfold State.post; simp only []; split <;> [rfl; split <;> rfl]
@[simp] theorem State.post_refu (s : State) (k : NoticeClass) (a b : Nat) (d : List Byte) : (s.post k a b d).refu = s.refu := by
  unfold State.post; simp only []; split <;> [rfl; split <;> rfl]
@[simp] theorem State.post_lanes (s : State) (k : NoticeClass) (a b : Nat) (d : List Byte) : (s.post k a b d).lanes = s.lanes := by
  unfold State.post; simp only []; split <;> [rfl; split <;> rfl]
@[simp] theorem State.post_clips (s : State) (k : NoticeClass) (a b : Nat) (d : List Byte) : (s.post k a b d).clips = s.clips := by
  unfold State.post; simp only []; split <;> [rfl; split <;> rfl]
@[simp] theorem State.post_marks (s : State) (k : NoticeClass) (a b : Nat) (d : List Byte) : (s.post k a b d).marks = s.marks := by
  unfold State.post; simp only []; split <;> [rfl; split <;> rfl]
@[simp] theorem State.post_jogs (s : State) (k : NoticeClass) (a b : Nat) (d : List Byte) : (s.post k a b d).jogs = s.jogs := by
  unfold State.post; simp only []; split <;> [rfl; split <;> rfl]
@[simp] theorem State.post_levers (s : State) (k : NoticeClass) (a b : Nat) (d : List Byte) : (s.post k a b d).levers = s.levers := by
  unfold State.post; simp only []; split <;> [rfl; split <;> rfl]
@[simp] theorem State.post_scanList (s : State) (k : NoticeClass) (a b : Nat) (d : List Byte) : (s.post k a b d).scanList = s.scanList := by
  unfold State.post; simp only []; split <;> [rfl; split <;> rfl]
@[simp] theorem State.post_underWay (s : State) (k : NoticeClass) (a b : Nat) (d : List Byte) : (s.post k a b d).underWay = s.underWay := by
  unfold State.post; simp only []; split <;> [rfl; split <;> rfl]
@[simp] theorem State.post_channels (s : State) (k : NoticeClass) (a b : Nat) (d : List Byte) : (s.post k a b d).channels = s.channels := by
  unfold State.post; simp only []; split <;> [rfl; split <;> rfl]
@[simp] theorem State.post_outPorts (s : State) (k : NoticeClass) (a b : Nat) (d : List Byte) : (s.post k a b d).outPorts = s.outPorts := by
  unfold State.post; simp only []; split <;> [rfl; split <;> rfl]
@[simp] theorem State.post_banks (s : State) (k : NoticeClass) (a b : Nat) (d : List Byte) : (s.post k a b d).banks = s.banks := by
  unfold State.post; simp only []; split <;> [rfl; split <;> rfl]
@[simp] theorem State.post_xfer (s : State) (k : NoticeClass) (a b : Nat) (d : List Byte) : (s.post k a b d).xfer = s.xfer := by
  unfold State.post; simp only []; split <;> [rfl; split <;> rfl]
@[simp] theorem State.post_store (s : State) (k : NoticeClass) (a b : Nat) (d : List Byte) : (s.post k a b d).store = s.store := by
  unfold State.post; simp only []; split <;> [rfl; split <;> rfl]
@[simp] theorem State.post_storeEpoch (s : State) (k : NoticeClass) (a b : Nat) (d : List Byte) : (s.post k a b d).storeEpoch = s.storeEpoch := by
  unfold State.post; simp only []; split <;> [rfl; split <;> rfl]
@[simp] theorem State.post_exporter (s : State) (k : NoticeClass) (a b : Nat) (d : List Byte) : (s.post k a b d).exporter = s.exporter := by
  unfold State.post; simp only []; split <;> [rfl; split <;> rfl]
@[simp] theorem State.post_xrdy (s : State) (k : NoticeClass) (a b : Nat) (d : List Byte) : (s.post k a b d).xrdy = s.xrdy := by
  unfold State.post; simp only []; split <;> [rfl; split <;> rfl]
@[simp] theorem State.post_cues (s : State) (k : NoticeClass) (a b : Nat) (d : List Byte) : (s.post k a b d).cues = s.cues := by
  unfold State.post; simp only []; split <;> [rfl; split <;> rfl]
@[simp] theorem State.post_emitted (s : State) (k : NoticeClass) (a b : Nat) (d : List Byte) : (s.post k a b d).emitted = s.emitted := by
  unfold State.post; simp only []; split <;> [rfl; split <;> rfl]
@[simp] theorem State.post_pending (s : State) (k : NoticeClass) (a b : Nat) (d : List Byte) : (s.post k a b d).pending = s.pending := by
  unfold State.post; simp only []; split <;> [rfl; split <;> rfl]

@[simp] theorem State.setClip_resetHeld (s : State) (n : Nat) (c : Clip) : (s.setClip n c).resetHeld = s.resetHeld := by
  unfold State.setClip; split <;> rfl
@[simp] theorem State.setClip_refu (s : State) (n : Nat) (c : Clip) : (s.setClip n c).refu = s.refu := by
  unfold State.setClip; split <;> rfl
@[simp] theorem State.setClip_lanes (s : State) (n : Nat) (c : Clip) : (s.setClip n c).lanes = s.lanes := by
  unfold State.setClip; split <;> rfl
@[simp] theorem State.setClip_marks (s : State) (n : Nat) (c : Clip) : (s.setClip n c).marks = s.marks := by
  unfold State.setClip; split <;> rfl
@[simp] theorem State.setClip_jogs (s : State) (n : Nat) (c : Clip) : (s.setClip n c).jogs = s.jogs := by
  unfold State.setClip; split <;> rfl
@[simp] theorem State.setClip_levers (s : State) (n : Nat) (c : Clip) : (s.setClip n c).levers = s.levers := by
  unfold State.setClip; split <;> rfl
@[simp] theorem State.setClip_scanList (s : State) (n : Nat) (c : Clip) : (s.setClip n c).scanList = s.scanList := by
  unfold State.setClip; split <;> rfl
@[simp] theorem State.setClip_underWay (s : State) (n : Nat) (c : Clip) : (s.setClip n c).underWay = s.underWay := by
  unfold State.setClip; split <;> rfl
@[simp] theorem State.setClip_channels (s : State) (n : Nat) (c : Clip) : (s.setClip n c).channels = s.channels := by
  unfold State.setClip; split <;> rfl
@[simp] theorem State.setClip_outPorts (s : State) (n : Nat) (c : Clip) : (s.setClip n c).outPorts = s.outPorts := by
  unfold State.setClip; split <;> rfl
@[simp] theorem State.setClip_banks (s : State) (n : Nat) (c : Clip) : (s.setClip n c).banks = s.banks := by
  unfold State.setClip; split <;> rfl
@[simp] theorem State.setClip_xfer (s : State) (n : Nat) (c : Clip) : (s.setClip n c).xfer = s.xfer := by
  unfold State.setClip; split <;> rfl
@[simp] theorem State.setClip_store (s : State) (n : Nat) (c : Clip) : (s.setClip n c).store = s.store := by
  unfold State.setClip; split <;> rfl
@[simp] theorem State.setClip_storeEpoch (s : State) (n : Nat) (c : Clip) : (s.setClip n c).storeEpoch = s.storeEpoch := by
  unfold State.setClip; split <;> rfl
@[simp] theorem State.setClip_exporter (s : State) (n : Nat) (c : Clip) : (s.setClip n c).exporter = s.exporter := by
  unfold State.setClip; split <;> rfl
@[simp] theorem State.setClip_xrdy (s : State) (n : Nat) (c : Clip) : (s.setClip n c).xrdy = s.xrdy := by
  unfold State.setClip; split <;> rfl
@[simp] theorem State.setClip_cues (s : State) (n : Nat) (c : Clip) : (s.setClip n c).cues = s.cues := by
  unfold State.setClip; split <;> rfl
@[simp] theorem State.setClip_link (s : State) (n : Nat) (c : Clip) : (s.setClip n c).link = s.link := by
  unfold State.setClip; split <;> rfl
@[simp] theorem State.setClip_emitted (s : State) (n : Nat) (c : Clip) : (s.setClip n c).emitted = s.emitted := by
  unfold State.setClip; split <;> rfl
@[simp] theorem State.setClip_fresh (s : State) (n : Nat) (c : Clip) : (s.setClip n c).fresh = s.fresh := by
  unfold State.setClip; split <;> rfl
@[simp] theorem State.setClip_pending (s : State) (n : Nat) (c : Clip) : (s.setClip n c).pending = s.pending := by
  unfold State.setClip; split <;> rfl

@[simp] theorem State.modifyClip_resetHeld (s : State) (n : Nat) (f : Clip → Clip) : (s.modifyClip n f).resetHeld = s.resetHeld := by
  unfold State.modifyClip; split <;> simp
@[simp] theorem State.modifyClip_refu (s : State) (n : Nat) (f : Clip → Clip) : (s.modifyClip n f).refu = s.refu := by
  unfold State.modifyClip; split <;> simp
@[simp] theorem State.modifyClip_lanes (s : State) (n : Nat) (f : Clip → Clip) : (s.modifyClip n f).lanes = s.lanes := by
  unfold State.modifyClip; split <;> simp
@[simp] theorem State.modifyClip_marks (s : State) (n : Nat) (f : Clip → Clip) : (s.modifyClip n f).marks = s.marks := by
  unfold State.modifyClip; split <;> simp
@[simp] theorem State.modifyClip_jogs (s : State) (n : Nat) (f : Clip → Clip) : (s.modifyClip n f).jogs = s.jogs := by
  unfold State.modifyClip; split <;> simp
@[simp] theorem State.modifyClip_levers (s : State) (n : Nat) (f : Clip → Clip) : (s.modifyClip n f).levers = s.levers := by
  unfold State.modifyClip; split <;> simp
@[simp] theorem State.modifyClip_scanList (s : State) (n : Nat) (f : Clip → Clip) : (s.modifyClip n f).scanList = s.scanList := by
  unfold State.modifyClip; split <;> simp
@[simp] theorem State.modifyClip_underWay (s : State) (n : Nat) (f : Clip → Clip) : (s.modifyClip n f).underWay = s.underWay := by
  unfold State.modifyClip; split <;> simp
@[simp] theorem State.modifyClip_channels (s : State) (n : Nat) (f : Clip → Clip) : (s.modifyClip n f).channels = s.channels := by
  unfold State.modifyClip; split <;> simp
@[simp] theorem State.modifyClip_outPorts (s : State) (n : Nat) (f : Clip → Clip) : (s.modifyClip n f).outPorts = s.outPorts := by
  unfold State.modifyClip; split <;> simp
@[simp] theorem State.modifyClip_banks (s : State) (n : Nat) (f : Clip → Clip) : (s.modifyClip n f).banks = s.banks := by
  unfold State.modifyClip; split <;> simp
@[simp] theorem State.modifyClip_xfer (s : State) (n : Nat) (f : Clip → Clip) : (s.modifyClip n f).xfer = s.xfer := by
  unfold State.modifyClip; split <;> simp
@[simp] theorem State.modifyClip_store (s : State) (n : Nat) (f : Clip → Clip) : (s.modifyClip n f).store = s.store := by
  unfold State.modifyClip; split <;> simp
@[simp] theorem State.modifyClip_storeEpoch (s : State) (n : Nat) (f : Clip → Clip) : (s.modifyClip n f).storeEpoch = s.storeEpoch := by
  unfold State.modifyClip; split <;> simp
@[simp] theorem State.modifyClip_exporter (s : State) (n : Nat) (f : Clip → Clip) : (s.modifyClip n f).exporter = s.exporter := by
  unfold State.modifyClip; split <;> simp
@[simp] theorem State.modifyClip_xrdy (s : State) (n : Nat) (f : Clip → Clip) : (s.modifyClip n f).xrdy = s.xrdy := by
  unfold State.modifyClip; split <;> simp
@[simp] theorem State.modifyClip_cues (s : State) (n : Nat) (f : Clip → Clip) : (s.modifyClip n f).cues = s.cues := by
  unfold State.modifyClip; split <;> simp
@[simp] theorem State.modifyClip_link (s : State) (n : Nat) (f : Clip → Clip) : (s.modifyClip n f).link = s.link := by
  unfold State.modifyClip; split <;> simp
@[simp] theorem State.modifyClip_emitted (s : State) (n : Nat) (f : Clip → Clip) : (s.modifyClip n f).emitted = s.emitted := by
  unfold State.modifyClip; split <;> simp
@[simp] theorem State.modifyClip_fresh (s : State) (n : Nat) (f : Clip → Clip) : (s.modifyClip n f).fresh = s.fresh := by
  unfold State.modifyClip; split <;> simp
@[simp] theorem State.modifyClip_pending (s : State) (n : Nat) (f : Clip → Clip) : (s.modifyClip n f).pending = s.pending := by
  unfold State.modifyClip; split <;> simp

@[simp] theorem State.moveRole_resetHeld (s : State) (a b : Source) : (s.moveRole a b).resetHeld = s.resetHeld := by
  unfold State.moveRole State.takeClip State.leaveClip; cases a <;> cases b <;> simp
@[simp] theorem State.moveRole_refu (s : State) (a b : Source) : (s.moveRole a b).refu = s.refu := by
  unfold State.moveRole State.takeClip State.leaveClip; cases a <;> cases b <;> simp
@[simp] theorem State.moveRole_lanes (s : State) (a b : Source) : (s.moveRole a b).lanes = s.lanes := by
  unfold State.moveRole State.takeClip State.leaveClip; cases a <;> cases b <;> simp
@[simp] theorem State.moveRole_marks (s : State) (a b : Source) : (s.moveRole a b).marks = s.marks := by
  unfold State.moveRole State.takeClip State.leaveClip; cases a <;> cases b <;> simp
@[simp] theorem State.moveRole_jogs (s : State) (a b : Source) : (s.moveRole a b).jogs = s.jogs := by
  unfold State.moveRole State.takeClip State.leaveClip; cases a <;> cases b <;> simp
@[simp] theorem State.moveRole_levers (s : State) (a b : Source) : (s.moveRole a b).levers = s.levers := by
  unfold State.moveRole State.takeClip State.leaveClip; cases a <;> cases b <;> simp
@[simp] theorem State.moveRole_scanList (s : State) (a b : Source) : (s.moveRole a b).scanList = s.scanList := by
  unfold State.moveRole State.takeClip State.leaveClip; cases a <;> cases b <;> simp
@[simp] theorem State.moveRole_underWay (s : State) (a b : Source) : (s.moveRole a b).underWay = s.underWay := by
  unfold State.moveRole State.takeClip State.leaveClip; cases a <;> cases b <;> simp
@[simp] theorem State.moveRole_channels (s : State) (a b : Source) : (s.moveRole a b).channels = s.channels := by
  unfold State.moveRole State.takeClip State.leaveClip; cases a <;> cases b <;> simp
@[simp] theorem State.moveRole_outPorts (s : State) (a b : Source) : (s.moveRole a b).outPorts = s.outPorts := by
  unfold State.moveRole State.takeClip State.leaveClip; cases a <;> cases b <;> simp
@[simp] theorem State.moveRole_banks (s : State) (a b : Source) : (s.moveRole a b).banks = s.banks := by
  unfold State.moveRole State.takeClip State.leaveClip; cases a <;> cases b <;> simp
@[simp] theorem State.moveRole_xfer (s : State) (a b : Source) : (s.moveRole a b).xfer = s.xfer := by
  unfold State.moveRole State.takeClip State.leaveClip; cases a <;> cases b <;> simp
@[simp] theorem State.moveRole_store (s : State) (a b : Source) : (s.moveRole a b).store = s.store := by
  unfold State.moveRole State.takeClip State.leaveClip; cases a <;> cases b <;> simp
@[simp] theorem State.moveRole_storeEpoch (s : State) (a b : Source) : (s.moveRole a b).storeEpoch = s.storeEpoch := by
  unfold State.moveRole State.takeClip State.leaveClip; cases a <;> cases b <;> simp
@[simp] theorem State.moveRole_exporter (s : State) (a b : Source) : (s.moveRole a b).exporter = s.exporter := by
  unfold State.moveRole State.takeClip State.leaveClip; cases a <;> cases b <;> simp
@[simp] theorem State.moveRole_xrdy (s : State) (a b : Source) : (s.moveRole a b).xrdy = s.xrdy := by
  unfold State.moveRole State.takeClip State.leaveClip; cases a <;> cases b <;> simp
@[simp] theorem State.moveRole_cues (s : State) (a b : Source) : (s.moveRole a b).cues = s.cues := by
  unfold State.moveRole State.takeClip State.leaveClip; cases a <;> cases b <;> simp
@[simp] theorem State.moveRole_link (s : State) (a b : Source) : (s.moveRole a b).link = s.link := by
  unfold State.moveRole State.takeClip State.leaveClip; cases a <;> cases b <;> simp
@[simp] theorem State.moveRole_emitted (s : State) (a b : Source) : (s.moveRole a b).emitted = s.emitted := by
  unfold State.moveRole State.takeClip State.leaveClip; cases a <;> cases b <;> simp
@[simp] theorem State.moveRole_fresh (s : State) (a b : Source) : (s.moveRole a b).fresh = s.fresh := by
  unfold State.moveRole State.takeClip State.leaveClip; cases a <;> cases b <;> simp
@[simp] theorem State.moveRole_pending (s : State) (a b : Source) : (s.moveRole a b).pending = s.pending := by
  unfold State.moveRole State.takeClip State.leaveClip; cases a <;> cases b <;> simp

@[simp] theorem State.setFlag_resetHeld (s : State) (c : Fin 4) (g : Flag) : (s.setFlag c g).resetHeld = s.resetHeld := by
  unfold State.setFlag; simp only []; split <;> [rfl; split <;> simp]
@[simp] theorem State.setFlag_refu (s : State) (c : Fin 4) (g : Flag) : (s.setFlag c g).refu = s.refu := by
  unfold State.setFlag; simp only []; split <;> [rfl; split <;> simp]
@[simp] theorem State.setFlag_lanes (s : State) (c : Fin 4) (g : Flag) : (s.setFlag c g).lanes = s.lanes := by
  unfold State.setFlag; simp only []; split <;> [rfl; split <;> simp]
@[simp] theorem State.setFlag_clips (s : State) (c : Fin 4) (g : Flag) : (s.setFlag c g).clips = s.clips := by
  unfold State.setFlag; simp only []; split <;> [rfl; split <;> simp]
@[simp] theorem State.setFlag_marks (s : State) (c : Fin 4) (g : Flag) : (s.setFlag c g).marks = s.marks := by
  unfold State.setFlag; simp only []; split <;> [rfl; split <;> simp]
@[simp] theorem State.setFlag_jogs (s : State) (c : Fin 4) (g : Flag) : (s.setFlag c g).jogs = s.jogs := by
  unfold State.setFlag; simp only []; split <;> [rfl; split <;> simp]
@[simp] theorem State.setFlag_levers (s : State) (c : Fin 4) (g : Flag) : (s.setFlag c g).levers = s.levers := by
  unfold State.setFlag; simp only []; split <;> [rfl; split <;> simp]
@[simp] theorem State.setFlag_scanList (s : State) (c : Fin 4) (g : Flag) : (s.setFlag c g).scanList = s.scanList := by
  unfold State.setFlag; simp only []; split <;> [rfl; split <;> simp]
@[simp] theorem State.setFlag_underWay (s : State) (c : Fin 4) (g : Flag) : (s.setFlag c g).underWay = s.underWay := by
  unfold State.setFlag; simp only []; split <;> [rfl; split <;> simp]
@[simp] theorem State.setFlag_outPorts (s : State) (c : Fin 4) (g : Flag) : (s.setFlag c g).outPorts = s.outPorts := by
  unfold State.setFlag; simp only []; split <;> [rfl; split <;> simp]
@[simp] theorem State.setFlag_banks (s : State) (c : Fin 4) (g : Flag) : (s.setFlag c g).banks = s.banks := by
  unfold State.setFlag; simp only []; split <;> [rfl; split <;> simp]
@[simp] theorem State.setFlag_xfer (s : State) (c : Fin 4) (g : Flag) : (s.setFlag c g).xfer = s.xfer := by
  unfold State.setFlag; simp only []; split <;> [rfl; split <;> simp]
@[simp] theorem State.setFlag_store (s : State) (c : Fin 4) (g : Flag) : (s.setFlag c g).store = s.store := by
  unfold State.setFlag; simp only []; split <;> [rfl; split <;> simp]
@[simp] theorem State.setFlag_storeEpoch (s : State) (c : Fin 4) (g : Flag) : (s.setFlag c g).storeEpoch = s.storeEpoch := by
  unfold State.setFlag; simp only []; split <;> [rfl; split <;> simp]
@[simp] theorem State.setFlag_exporter (s : State) (c : Fin 4) (g : Flag) : (s.setFlag c g).exporter = s.exporter := by
  unfold State.setFlag; simp only []; split <;> [rfl; split <;> simp]
@[simp] theorem State.setFlag_xrdy (s : State) (c : Fin 4) (g : Flag) : (s.setFlag c g).xrdy = s.xrdy := by
  unfold State.setFlag; simp only []; split <;> [rfl; split <;> simp]
@[simp] theorem State.setFlag_cues (s : State) (c : Fin 4) (g : Flag) : (s.setFlag c g).cues = s.cues := by
  unfold State.setFlag; simp only []; split <;> [rfl; split <;> simp]
@[simp] theorem State.setFlag_emitted (s : State) (c : Fin 4) (g : Flag) : (s.setFlag c g).emitted = s.emitted := by
  unfold State.setFlag; simp only []; split <;> [rfl; split <;> simp]
@[simp] theorem State.setFlag_pending (s : State) (c : Fin 4) (g : Flag) : (s.setFlag c g).pending = s.pending := by
  unfold State.setFlag; simp only []; split <;> [rfl; split <;> simp]

@[simp] theorem State.setChannel_resetHeld (s : State) (c : Fin 4) (x : Channel) : (s.setChannel c x).resetHeld = s.resetHeld := by
  unfold State.setChannel; simp only []; split; · rfl
  · exact foldl_keep State.resetHeld (fun s k => by unfold State.cueFollows; simp only []; split <;> rfl) _ _
@[simp] theorem State.setChannel_refu (s : State) (c : Fin 4) (x : Channel) : (s.setChannel c x).refu = s.refu := by
  unfold State.setChannel; simp only []; split; · rfl
  · exact foldl_keep State.refu (fun s k => by unfold State.cueFollows; simp only []; split <;> rfl) _ _
@[simp] theorem State.setChannel_lanes (s : State) (c : Fin 4) (x : Channel) : (s.setChannel c x).lanes = s.lanes := by
  unfold State.setChannel; simp only []; split; · rfl
  · exact foldl_keep State.lanes (fun s k => by unfold State.cueFollows; simp only []; split <;> rfl) _ _
@[simp] theorem State.setChannel_clips (s : State) (c : Fin 4) (x : Channel) : (s.setChannel c x).clips = s.clips := by
  unfold State.setChannel; simp only []; split; · rfl
  · exact foldl_keep State.clips (fun s k => by unfold State.cueFollows; simp only []; split <;> rfl) _ _
@[simp] theorem State.setChannel_marks (s : State) (c : Fin 4) (x : Channel) : (s.setChannel c x).marks = s.marks := by
  unfold State.setChannel; simp only []; split; · rfl
  · exact foldl_keep State.marks (fun s k => by unfold State.cueFollows; simp only []; split <;> rfl) _ _
@[simp] theorem State.setChannel_jogs (s : State) (c : Fin 4) (x : Channel) : (s.setChannel c x).jogs = s.jogs := by
  unfold State.setChannel; simp only []; split; · rfl
  · exact foldl_keep State.jogs (fun s k => by unfold State.cueFollows; simp only []; split <;> rfl) _ _
@[simp] theorem State.setChannel_levers (s : State) (c : Fin 4) (x : Channel) : (s.setChannel c x).levers = s.levers := by
  unfold State.setChannel; simp only []; split; · rfl
  · exact foldl_keep State.levers (fun s k => by unfold State.cueFollows; simp only []; split <;> rfl) _ _
@[simp] theorem State.setChannel_scanList (s : State) (c : Fin 4) (x : Channel) : (s.setChannel c x).scanList = s.scanList := by
  unfold State.setChannel; simp only []; split; · rfl
  · exact foldl_keep State.scanList (fun s k => by unfold State.cueFollows; simp only []; split <;> rfl) _ _
@[simp] theorem State.setChannel_underWay (s : State) (c : Fin 4) (x : Channel) : (s.setChannel c x).underWay = s.underWay := by
  unfold State.setChannel; simp only []; split; · rfl
  · exact foldl_keep State.underWay (fun s k => by unfold State.cueFollows; simp only []; split <;> rfl) _ _
@[simp] theorem State.setChannel_outPorts (s : State) (c : Fin 4) (x : Channel) : (s.setChannel c x).outPorts = s.outPorts := by
  unfold State.setChannel; simp only []; split; · rfl
  · exact foldl_keep State.outPorts (fun s k => by unfold State.cueFollows; simp only []; split <;> rfl) _ _
@[simp] theorem State.setChannel_banks (s : State) (c : Fin 4) (x : Channel) : (s.setChannel c x).banks = s.banks := by
  unfold State.setChannel; simp only []; split; · rfl
  · exact foldl_keep State.banks (fun s k => by unfold State.cueFollows; simp only []; split <;> rfl) _ _
@[simp] theorem State.setChannel_xfer (s : State) (c : Fin 4) (x : Channel) : (s.setChannel c x).xfer = s.xfer := by
  unfold State.setChannel; simp only []; split; · rfl
  · exact foldl_keep State.xfer (fun s k => by unfold State.cueFollows; simp only []; split <;> rfl) _ _
@[simp] theorem State.setChannel_store (s : State) (c : Fin 4) (x : Channel) : (s.setChannel c x).store = s.store := by
  unfold State.setChannel; simp only []; split; · rfl
  · exact foldl_keep State.store (fun s k => by unfold State.cueFollows; simp only []; split <;> rfl) _ _
@[simp] theorem State.setChannel_storeEpoch (s : State) (c : Fin 4) (x : Channel) : (s.setChannel c x).storeEpoch = s.storeEpoch := by
  unfold State.setChannel; simp only []; split; · rfl
  · exact foldl_keep State.storeEpoch (fun s k => by unfold State.cueFollows; simp only []; split <;> rfl) _ _
@[simp] theorem State.setChannel_exporter (s : State) (c : Fin 4) (x : Channel) : (s.setChannel c x).exporter = s.exporter := by
  unfold State.setChannel; simp only []; split; · rfl
  · exact foldl_keep State.exporter (fun s k => by unfold State.cueFollows; simp only []; split <;> rfl) _ _
@[simp] theorem State.setChannel_xrdy (s : State) (c : Fin 4) (x : Channel) : (s.setChannel c x).xrdy = s.xrdy := by
  unfold State.setChannel; simp only []; split; · rfl
  · exact foldl_keep State.xrdy (fun s k => by unfold State.cueFollows; simp only []; split <;> rfl) _ _
@[simp] theorem State.setChannel_link (s : State) (c : Fin 4) (x : Channel) : (s.setChannel c x).link = s.link := by
  unfold State.setChannel; simp only []; split; · rfl
  · exact foldl_keep State.link (fun s k => by unfold State.cueFollows; simp only []; split <;> rfl) _ _
@[simp] theorem State.setChannel_emitted (s : State) (c : Fin 4) (x : Channel) : (s.setChannel c x).emitted = s.emitted := by
  unfold State.setChannel; simp only []; split; · rfl
  · exact foldl_keep State.emitted (fun s k => by unfold State.cueFollows; simp only []; split <;> rfl) _ _
@[simp] theorem State.setChannel_fresh (s : State) (c : Fin 4) (x : Channel) : (s.setChannel c x).fresh = s.fresh := by
  unfold State.setChannel; simp only []; split; · rfl
  · exact foldl_keep State.fresh (fun s k => by unfold State.cueFollows; simp only []; split <;> rfl) _ _
@[simp] theorem State.setChannel_pending (s : State) (c : Fin 4) (x : Channel) : (s.setChannel c x).pending = s.pending := by
  unfold State.setChannel; simp only []; split; · rfl
  · exact foldl_keep State.pending (fun s k => by unfold State.cueFollows; simp only []; split <;> rfl) _ _

@[simp] theorem State.queueReply_resetHeld (s : State) (a k : Byte) (t : Status) (b : List Byte) : (s.queueReply a k t b).resetHeld = s.resetHeld := by
  rfl
@[simp] theorem State.queueReply_refu (s : State) (a k : Byte) (t : Status) (b : List Byte) : (s.queueReply a k t b).refu = s.refu := by
  rfl
@[simp] theorem State.queueReply_lanes (s : State) (a k : Byte) (t : Status) (b : List Byte) : (s.queueReply a k t b).lanes = s.lanes := by
  rfl
@[simp] theorem State.queueReply_clips (s : State) (a k : Byte) (t : Status) (b : List Byte) : (s.queueReply a k t b).clips = s.clips := by
  rfl
@[simp] theorem State.queueReply_marks (s : State) (a k : Byte) (t : Status) (b : List Byte) : (s.queueReply a k t b).marks = s.marks := by
  rfl
@[simp] theorem State.queueReply_jogs (s : State) (a k : Byte) (t : Status) (b : List Byte) : (s.queueReply a k t b).jogs = s.jogs := by
  rfl
@[simp] theorem State.queueReply_levers (s : State) (a k : Byte) (t : Status) (b : List Byte) : (s.queueReply a k t b).levers = s.levers := by
  rfl
@[simp] theorem State.queueReply_scanList (s : State) (a k : Byte) (t : Status) (b : List Byte) : (s.queueReply a k t b).scanList = s.scanList := by
  rfl
@[simp] theorem State.queueReply_underWay (s : State) (a k : Byte) (t : Status) (b : List Byte) : (s.queueReply a k t b).underWay = s.underWay := by
  rfl
@[simp] theorem State.queueReply_channels (s : State) (a k : Byte) (t : Status) (b : List Byte) : (s.queueReply a k t b).channels = s.channels := by
  rfl
@[simp] theorem State.queueReply_outPorts (s : State) (a k : Byte) (t : Status) (b : List Byte) : (s.queueReply a k t b).outPorts = s.outPorts := by
  rfl
@[simp] theorem State.queueReply_banks (s : State) (a k : Byte) (t : Status) (b : List Byte) : (s.queueReply a k t b).banks = s.banks := by
  rfl
@[simp] theorem State.queueReply_xfer (s : State) (a k : Byte) (t : Status) (b : List Byte) : (s.queueReply a k t b).xfer = s.xfer := by
  rfl
@[simp] theorem State.queueReply_store (s : State) (a k : Byte) (t : Status) (b : List Byte) : (s.queueReply a k t b).store = s.store := by
  rfl
@[simp] theorem State.queueReply_storeEpoch (s : State) (a k : Byte) (t : Status) (b : List Byte) : (s.queueReply a k t b).storeEpoch = s.storeEpoch := by
  rfl
@[simp] theorem State.queueReply_exporter (s : State) (a k : Byte) (t : Status) (b : List Byte) : (s.queueReply a k t b).exporter = s.exporter := by
  rfl
@[simp] theorem State.queueReply_xrdy (s : State) (a k : Byte) (t : Status) (b : List Byte) : (s.queueReply a k t b).xrdy = s.xrdy := by
  rfl
@[simp] theorem State.queueReply_cues (s : State) (a k : Byte) (t : Status) (b : List Byte) : (s.queueReply a k t b).cues = s.cues := by
  rfl
@[simp] theorem State.queueReply_emitted (s : State) (a k : Byte) (t : Status) (b : List Byte) : (s.queueReply a k t b).emitted = s.emitted := by
  rfl
@[simp] theorem State.queueReply_pending (s : State) (a k : Byte) (t : Status) (b : List Byte) : (s.queueReply a k t b).pending = s.pending := by
  rfl

/-! ### Time at the Reference Unit (R1, R8) -/

@[simp] theorem State.elapse_refu (s : State) (elapsed : Nat) : (s.elapse elapsed).refu = s.refu.elapse elapsed := rfl

@[simp] theorem State.elapse_resetHeld (s : State) (elapsed : Nat) : (s.elapse elapsed).resetHeld = s.resetHeld := rfl

@[simp] theorem State.elapse_zero (s : State) : s.elapse 0 = s := rfl

/-- What the blocks do at a tick leaves the Reference Unit alone. -/
@[simp] theorem State.blocksTick_refu (s : State) (order : List TickAction) : (s.blocksTick order).refu = s.refu :=
  (State.quiet_blocksTick (.refl s) order).refu

@[simp] theorem State.blocksTick_resetHeld (s : State) (order : List TickAction) : (s.blocksTick order).resetHeld = s.resetHeld :=
  (State.quiet_blocksTick (.refl s) order).resetHeld

/-- An expiry before the timer's time does not take place (R8). -/
theorem State.windowTimer_of_lt {s : State} (h : s.refu.interval < s.refu.expiry) (order : List TickAction) :
    s.windowTimer order = s := by
  have : ¬s.refu.expiry ≤ s.refu.interval := Nat.not_le.mpr h
  simp [State.windowTimer, Refu.due, this]

theorem State.windowTimer_of_le {s : State} (h : s.refu.expiry ≤ s.refu.interval) (order : List TickAction) :
    s.windowTimer order = s.timerExpires.blocksTick order := by
  simp [State.windowTimer, Refu.due, h]

theorem State.referencePulse_of_lt {s : State} (h : s.refu.interval + s.refu.config.w < s.refu.config.n) (order : List TickAction) :
    s.referencePulse order = s.earlyPulse := by
  simp [State.referencePulse, Refu.early, h]

theorem State.referencePulse_of_le {s : State} (h : s.refu.config.n ≤ s.refu.interval + s.refu.config.w) (order : List TickAction) :
    s.referencePulse order = s.onTimePulse.blocksTick order := by
  have : ¬s.refu.interval + s.refu.config.w < s.refu.config.n := Nat.not_lt.mpr h
  simp [State.referencePulse, Refu.early, this]

end Sys2Proof.Machine
end

