-- ==== Sys2Proof/Laws/Closes.lean ====
section
/-!
SUPPORT. The closes a lane makes, at a planned out and at the lock ceiling: what becomes of each clip, which notices go out, and that
nothing else changes (spec/02, R36, R37, R42; spec/03, R47).
-/

namespace Sys2Proof.Machine

/-! ### What a close leaves alone -/

/-- Clips and notices apart, nothing has changed. -/
def State.OnlyClips (s t : State) : Prop := { t with clips := s.clips, link := s.link, fresh := s.fresh } = s

namespace State.OnlyClips

theorem refl (s : State) : s.OnlyClips s := rfl

theorem trans {s t u : State} (h : s.OnlyClips t) (k : t.OnlyClips u) : s.OnlyClips u := by
  unfold State.OnlyClips at *
  rw [← k] at h
  exact h

theorem lanes {s t : State} (h : s.OnlyClips t) : t.lanes = s.lanes := by
  unfold State.OnlyClips at h
  have k := congrArg State.lanes h
  exact k

theorem lane {s t : State} (h : s.OnlyClips t) (l : Fin 8) : t.lane l = s.lane l := by
  unfold State.lane; rw [h.lanes]

theorem entryTimecode {s t : State} (h : s.OnlyClips t) (l : Fin 8) (n : Nat) : t.entryTimecode l n = s.entryTimecode l n := by
  unfold State.entryTimecode; rw [h.lane]

theorem setClip (s : State) (n : Nat) (c : Clip) : s.OnlyClips (s.setClip n c) := by
  unfold State.setClip; split <;> rfl

theorem post (s : State) (k : NoticeClass) (a b : Nat) (d : List Byte) : s.OnlyClips (s.post k a b d) := by
  unfold State.post; simp only []; (repeat' split) <;> rfl

theorem closeClip (s : State) (n out : Nat) : s.OnlyClips (s.closeClip n out) := by
  unfold State.closeClip State.modifyClip
  split
  · rfl
  · exact setClip ..

theorem closePlannedClip (s : State) (l : Fin 8) (n : Nat) : s.OnlyClips (s.closePlannedClip l n) := by
  unfold State.closePlannedClip
  split
  · rfl
  · exact (closeClip ..).trans (post ..)

theorem closeAtCeiling (s : State) (l : Fin 8) (out arrival n : Nat) : s.OnlyClips (s.closeAtCeiling l out arrival n) :=
  (closeClip ..).trans (post ..)

theorem foldl {α : Type} {f : State → α → State} (h : ∀ t a, State.OnlyClips t (f t a)) (l : List α) (s : State) :
    s.OnlyClips (l.foldl f s) := by
  induction l generalizing s with
  | nil => rfl
  | cons a l ih => exact (h s a).trans (ih _)

theorem closePlanned (s : State) (l : Fin 8) (bound : Nat) : s.OnlyClips (s.closePlanned l bound) :=
  foldl (fun t n => closePlannedClip t l n) _ _

theorem closeBelow (s : State) (l : Fin 8) (bound : Nat) : s.OnlyClips (s.closeBelow l bound) := by
  cases bound with
  | zero => exact refl s
  | succ b => exact closePlanned s l b

end State.OnlyClips

/-! ### What becomes of each clip -/

/-- The record of a clip that its lane closes at `out` (R47). -/
abbrev State.closedAt (s : State) (c : Clip) (out : Nat) : Clip :=
  { c with state := .closed, out := some out, planned := none, outTc := s.entryTimecode c.lane out }

theorem clip_closeClip (s : State) (n m out : Nat) :
    (s.closeClip n out).clip m = if n = m ∧ (s.clip n).state ≠ .free then s.closedAt (s.clip n) out else s.clip m :=
  clip_modifyClip s n m _ fun h => by simp at h

theorem clip_post (s : State) (k : NoticeClass) (a b : Nat) (d : List Byte) (n : Nat) : (s.post k a b d).clip n = s.clip n := by
  unfold State.clip; rw [State.post_clips]

/-- Operations on one clip each, taken over a list that names no clip twice, change each clip named once. -/
theorem clip_foldl {f : State → Nat → State} {g : State → Clip → Clip} (only : ∀ t n, State.OnlyClips t (f t n))
    (change : ∀ t n m, (f t n).clip m = if n = m then g t (t.clip m) else t.clip m)
    (same : ∀ s t c, State.OnlyClips s t → g t c = g s c) (ns : List Nat) (hn : ns.Nodup) (s : State) (m : Nat) :
    (ns.foldl f s).clip m = if m ∈ ns then g s (s.clip m) else s.clip m := by
  induction ns generalizing s with
  | nil => simp
  | cons n ns ih =>
    have hd := List.nodup_cons.mp hn
    rw [List.foldl_cons, ih hd.2, change, same s (f s n) _ (only s n)]
    by_cases hm : n = m
    · subst hm; simp [hd.1]
    · have : m ≠ n := fun e => hm e.symm
      simp [hm, this]

theorem clipsOf_nodup {s : State} (h : Sparse.Sorted s.clips) (l : Fin 8) (p : Clip → Bool) : (s.clipsOf l p).Nodup := by
  refine List.Pairwise.map _ (R := fun a b => a.1 < b.1) (fun a b => Nat.ne_of_lt) (List.Pairwise.filter _ h)

theorem Sparse.lookup_of_mem {α : Type} {t : List (Nat × α)} (h : Sparse.Sorted t) {n : Nat} {v : α} (hm : (n, v) ∈ t) :
    Sparse.lookup t n = some v := by
  induction t with
  | nil => cases hm
  | cons e t ih =>
    obtain ⟨k, w⟩ := e
    have hp := List.pairwise_cons.mp h
    rcases List.mem_cons.mp hm with hm | hm
    · cases hm; simp [Sparse.lookup]
    · have : k < n := hp.1 _ hm
      simp [Sparse.lookup, Nat.ne_of_lt this, ih hp.2 hm]

theorem Sparse.mem_of_lookup {α : Type} {t : List (Nat × α)} {n : Nat} {v : α} (h : Sparse.lookup t n = some v) : (n, v) ∈ t := by
  induction t with
  | nil => cases h
  | cons e t ih =>
    obtain ⟨k, w⟩ := e
    unfold Sparse.lookup at h
    split at h
    · rename_i hk; cases h; simp [hk]
    · exact List.mem_cons_of_mem _ (ih h)

/-- The listed clips of a lane with a property, read through the records; no FREE record has it. -/
theorem mem_clipsOf {s : State} (h : Sparse.Sorted s.clips) (l : Fin 8) {p : Clip → Bool} (hp : p Clip.free = false) (n : Nat) :
    n ∈ s.clipsOf l p ↔ (s.clip n).lane = l ∧ p (s.clip n) = true := by
  unfold State.clipsOf State.clip
  simp only [List.mem_map, List.mem_filter, Bool.and_eq_true, beq_iff_eq, Prod.exists, exists_and_right, exists_eq_right]
  constructor
  · rintro ⟨c, hc, hl⟩
    rw [Sparse.lookup_of_mem h hc]; exact hl
  · intro hl
    cases hk : Sparse.lookup s.clips n with
    | none => rw [hk] at hl; simp [hp] at hl
    | some c => rw [hk] at hl; exact ⟨c, Sparse.mem_of_lookup hk, hl⟩

/-- The planned-out closes of a lane, clip by clip (R37): each OPEN clip whose planned out is at or below the bound closes there. -/
theorem clip_closePlanned {s : State} (h : Sparse.Sorted s.clips) (l : Fin 8) (bound n : Nat) :
    (s.closePlanned l bound).clip n = match (s.clip n).planned with
      | none => s.clip n
      | some q => if (s.clip n).lane = l ∧ (s.clip n).state = .opened ∧ q ≤ bound then s.closedAt (s.clip n) q else s.clip n := by
  let p : Clip → Bool := fun c => c.state == .opened && c.planned.any fun q => q ≤ bound
  let g : State → Clip → Clip := fun t c => match c.planned with
    | none => c
    | some q => if c.state ≠ .free then t.closedAt c q else c
  have hm := mem_clipsOf h l (p := p) rfl n
  have hf : (s.closePlanned l bound).clip n = if n ∈ s.clipsOf l p then g s (s.clip n) else s.clip n := by
    refine clip_foldl (g := g) (fun t n => .closePlannedClip t l n) (fun t n m => ?_) (fun s t c k => ?_) _ (clipsOf_nodup h l p) s n
    · unfold State.closePlannedClip
      cases hq : (t.clip n).planned with
      | none =>
        by_cases hnm : n = m
        · subst hnm; simp [g, hq]
        · simp [hnm]
      | some q =>
        by_cases hnm : n = m
        · subst hnm
          by_cases hs : (t.clip n).state = .free <;> simp [g, hq, clip_post, clip_closeClip, hs]
        · simp [hnm, clip_post, clip_closeClip]
    · cases hq : c.planned with
      | none => simp [g, hq]
      | some q => simp [g, hq, State.closedAt, k.entryTimecode]
  rw [hf]
  cases hq : (s.clip n).planned with
  | none =>
    have : n ∉ s.clipsOf l p := fun k => by simpa [p, hq] using (hm.mp k).2
    simp [this]
  | some q =>
    by_cases k : (s.clip n).lane = l ∧ (s.clip n).state = .opened ∧ q ≤ bound
    · rw [if_pos (hm.mpr ⟨k.1, by simp [p, k.2, hq]⟩)]
      simp [g, hq, k]
    · have hc : n ∉ s.clipsOf l p := fun hc => k ⟨(hm.mp hc).1, by simpa [p, hq] using (hm.mp hc).2⟩
      rw [if_neg hc]
      exact (if_neg k).symm

/-- The closes of a lane's tick, clip by clip (R23, R37): each OPEN clip whose planned out is below the bound closes there. -/
theorem clip_closeBelow {s : State} (h : Sparse.Sorted s.clips) (l : Fin 8) (bound n : Nat) :
    (s.closeBelow l bound).clip n = match (s.clip n).planned with
      | none => s.clip n
      | some q => if (s.clip n).lane = l ∧ (s.clip n).state = .opened ∧ q < bound then s.closedAt (s.clip n) q else s.clip n := by
  cases bound with
  | zero =>
    cases hq : (s.clip n).planned <;> simp [State.closeBelow]
  | succ b =>
    unfold State.closeBelow
    rw [clip_closePlanned h]
    simp only [Nat.lt_succ_iff]

/-- The closes at the lock ceiling, clip by clip (R36): each clip of the list closes at `out`. -/
theorem clip_foldl_closeAtCeiling {s : State} (l : Fin 8) (out arrival : Nat) {ns : List Nat} (hn : ns.Nodup) (n : Nat) :
    (ns.foldl (fun t n => t.closeAtCeiling l out arrival n) s).clip n =
      if n ∈ ns ∧ (s.clip n).state ≠ .free then s.closedAt (s.clip n) out else s.clip n := by
  rw [clip_foldl (g := fun t c => if c.state ≠ .free then t.closedAt c out else c) (fun t n => .closeAtCeiling t l out arrival n)
    (fun t n m => ?_) (fun s t c k => ?_) ns hn s n]
  · by_cases h : n ∈ ns <;> simp [h]
  · unfold State.closeAtCeiling
    by_cases hnm : n = m
    · subst hnm; simp [clip_post, clip_closeClip]
    · simp [hnm, clip_post, clip_closeClip]
  · simp [State.closedAt, k.entryTimecode]

/-! ### The notices of the closes, and of clips becoming ABSENT -/

@[simp] theorem State.posts_nil (s : State) : s.posts [] = s := rfl

@[simp] theorem State.posts_cons (s : State) (n : NoticeClass × Nat × Nat × List Byte)
    (ns : List (NoticeClass × Nat × Nat × List Byte)) : s.posts (n :: ns) = (s.post n.1 n.2.1 n.2.2.1 n.2.2.2).posts ns := rfl

@[simp] theorem State.posts_append (s : State) (a b : List (NoticeClass × Nat × Nat × List Byte)) :
    s.posts (a ++ b) = (s.posts a).posts b := List.foldl_append ..

/-- Notices change the notice queue and the count of fresh values alone. -/
theorem State.posts_same (s : State) (ns : List (NoticeClass × Nat × Nat × List Byte)) :
    { s.posts ns with link := s.link, fresh := s.fresh } = s := by
  induction ns generalizing s with
  | nil => rfl
  | cons n ns ih =>
    have h := congrArg (fun t : State => { t with link := s.link, fresh := s.fresh }) (ih (s.post n.1 n.2.1 n.2.2.1 n.2.2.2))
    refine Eq.trans h ?_
    unfold State.post; simp only []; (repeat' split) <;> rfl

/-- A notice does not look at the clips, nor does it change them. -/
theorem State.post_withClips (s : State) (clips : List (Nat × Clip)) (k : NoticeClass) (a b : Nat) (d : List Byte) :
    { s with clips }.post k a b d = { s.post k a b d with clips } := by
  unfold State.post; simp only []; (repeat' split) <;> first | rfl | contradiction

theorem State.posts_withClips (s : State) (clips : List (Nat × Clip)) (ns : List (NoticeClass × Nat × Nat × List Byte)) :
    { s with clips }.posts ns = { s.posts ns with clips } := by
  induction ns generalizing s with
  | nil => rfl
  | cons n ns ih => rw [posts_cons, posts_cons, post_withClips, ih]

/-- Operations that each change the clip named and post one CLIP notice of its record: over a list that names no clip twice, the notices
are those of the records before. -/
theorem posts_foldl {f : State → Nat → State} {code : Nat} {p : Clip → Prop} {d : Clip → List Byte}
    (one : ∀ t n, p (t.clip n) → { f t n with clips := t.clips } = t.post .clip code n (d (t.clip n)))
    (other : ∀ t n m, n ≠ m → (f t n).clip m = t.clip m) (ns : List Nat) (hn : ns.Nodup) (s : State)
    (hp : ∀ n ∈ ns, p (s.clip n)) :
    { ns.foldl f s with clips := s.clips } = s.posts (ns.map fun n => (.clip, code, n, d (s.clip n))) := by
  induction ns generalizing s with
  | nil => rfl
  | cons n ns ih =>
    have hd := List.nodup_cons.mp hn
    have same : ∀ m ∈ ns, (f s n).clip m = s.clip m := fun m hm => other s n m fun h => hd.1 (h ▸ hm)
    have hm : ns.map (fun m => (NoticeClass.clip, code, m, d ((f s n).clip m))) =
        ns.map fun m => (NoticeClass.clip, code, m, d (s.clip m)) := List.map_congr_left fun m hm => by rw [same m hm]
    have h := congrArg (fun t : State => { t with clips := s.clips })
      (ih hd.2 (f s n) fun m hm => by rw [same m hm]; exact hp m (List.mem_cons_of_mem _ hm))
    simp only [List.foldl_cons, List.map_cons, State.posts_cons] at h ⊢
    rw [hm] at h
    rw [h, ← State.posts_withClips, one s n (hp n List.mem_cons_self)]

/-- The notices of the listed clips of a lane with a property are those of their records. -/
theorem map_clipsOf {s : State} (h : Sparse.Sorted s.clips) (l : Fin 8) (p : Clip → Bool) (code : Nat) (d : Clip → List Byte) :
    ((s.clipsOf l p).map fun n => (NoticeClass.clip, code, n, d (s.clip n))) =
      s.clipNotices code fun c => if c.lane = l ∧ p c = true then some (d c) else none := by
  have hc : ∀ e ∈ s.clips, s.clip e.1 = e.2 := fun e he => by
    unfold State.clip; rw [Sparse.lookup_of_mem h (n := e.1) (v := e.2) he]; rfl
  unfold State.clipsOf State.clipNotices
  generalize s.clips = clips at hc
  induction clips with
  | nil => rfl
  | cons e t ih =>
    have ht := ih fun x hx => hc x (List.mem_cons_of_mem _ hx)
    by_cases hl : e.2.lane = l ∧ p e.2 = true
    · rw [List.filter_cons_of_pos (by simpa using hl), List.map_cons, List.map_cons, ht, hc e List.mem_cons_self,
        List.filterMap_cons_some (b := (.clip, code, e.1, d e.2)) (by simp [hl])]
    · rw [List.filter_cons_of_neg (by simpa using hl), ht, List.filterMap_cons_none (by simp [hl])]

/-- A change to a record changes the clips alone. -/
theorem modifyClip_withClips (s : State) (n : Nat) (f : Clip → Clip) : { s.modifyClip n f with clips := s.clips } = s := by
  unfold State.modifyClip State.setClip
  (repeat' split) <;> rfl

/-- The notices of the planned-out closes (R37, R42). -/
theorem closePlanned_posts {s : State} (h : Sparse.Sorted s.clips) (l : Fin 8) (bound : Nat) :
    { s.closePlanned l bound with clips := s.clips } = s.posts (s.clipNotices 0 fun c => c.planned.bind fun q =>
      if c.lane = l ∧ c.state = .opened ∧ q ≤ bound then some (leBytes 1 l.val ++ lfnBytes q) else none) := by
  unfold State.closePlanned
  rw [posts_foldl (f := fun t n => t.closePlannedClip l n) (code := 0) (p := fun c => ∃ q, c.planned = some q)
    (d := fun c => leBytes 1 l.val ++ lfnBytes (c.planned.getD 0)) ?_ ?_ _ (clipsOf_nodup h l _) s ?_]
  · rw [map_clipsOf h l _ 0 fun c => leBytes 1 l.val ++ lfnBytes (c.planned.getD 0)]
    congr 1
    unfold State.clipNotices
    refine List.filterMap_congr fun e _ => ?_
    cases hq : e.2.planned with
    | none => simp [hq]
    | some q => simp [hq]
  · rintro t n ⟨q, hq⟩
    unfold State.closePlannedClip
    rw [hq]
    simp only [Option.getD_some]
    rw [← State.post_withClips]
    congr 1
    exact modifyClip_withClips t n _
  · intro t n m hnm
    unfold State.closePlannedClip
    split
    · rfl
    · rw [clip_post, clip_closeClip, if_neg fun k => hnm k.1]
  · intro n hn
    have hc := ((mem_clipsOf h l (by rfl) n).mp hn).2
    cases hq : (s.clip n).planned with
    | none => simp [hq] at hc
    | some q => exact ⟨q, rfl⟩

/-- The notices of clips becoming ABSENT (R38, R42). -/
theorem foldl_makeAbsent_posts {s : State} (h : Sparse.Sorted s.clips) (l : Fin 8) (p : Clip → Bool) (lfn cause : Nat) :
    { (s.clipsOf l p).foldl (fun t n => t.makeAbsent l lfn cause n) s with clips := s.clips } =
      s.posts (s.clipNotices 1 fun c =>
        if c.lane = l ∧ p c = true then some (leBytes 1 l.val ++ lfnBytes lfn ++ leBytes 1 cause) else none) := by
  rw [posts_foldl (f := fun t n => t.makeAbsent l lfn cause n) (code := 1) (p := fun _ => True)
    (d := fun _ => leBytes 1 l.val ++ lfnBytes lfn ++ leBytes 1 cause) ?_ ?_ _ (clipsOf_nodup h l _) s fun _ _ => trivial,
    map_clipsOf h l p 1 fun _ => leBytes 1 l.val ++ lfnBytes lfn ++ leBytes 1 cause]
  · intro t n _
    unfold State.makeAbsent
    rw [← State.post_withClips, modifyClip_withClips]
  · intro t n m hnm
    unfold State.makeAbsent
    rw [clip_post, clip_modifyClip t n m _ fun h => by simp at h, if_neg fun k => hnm k.1]

/-- The notices of the closes at the lock ceiling (R36, R42). -/
theorem foldl_closeAtCeiling_posts {s : State} (h : Sparse.Sorted s.clips) (l : Fin 8) (p : Clip → Bool) (out arrival : Nat) :
    { (s.clipsOf l p).foldl (fun t n => t.closeAtCeiling l out arrival n) s with clips := s.clips } =
      s.posts (s.clipNotices 2 fun c =>
        if c.lane = l ∧ p c = true then some (leBytes 1 l.val ++ lfnBytes out ++ lfnBytes arrival) else none) := by
  rw [posts_foldl (f := fun t n => t.closeAtCeiling l out arrival n) (code := 2) (p := fun _ => True)
    (d := fun _ => leBytes 1 l.val ++ lfnBytes out ++ lfnBytes arrival) ?_ ?_ _ (clipsOf_nodup h l _) s fun _ _ => trivial,
    map_clipsOf h l p 2 fun _ => leBytes 1 l.val ++ lfnBytes out ++ lfnBytes arrival]
  · intro t n _
    unfold State.closeAtCeiling
    rw [← State.post_withClips]
    congr 1
    exact modifyClip_withClips t n _
  · intro t n m hnm
    unfold State.closeAtCeiling
    rw [clip_post, clip_closeClip, if_neg fun k => hnm k.1]

end Sys2Proof.Machine
end

