-- ==== Sys2Proof/Laws/Commands.lean ====
section
/-!
SUPPORT. The reply queue and the taking of a command frame: what each does, once.
-/

namespace Sys2Proof.Machine

/-! ### The reply queue (R196) -/

theorem startReply_replies_length (k : Link) : k.startReply.replies.length = k.replies.length := by
  unfold Link.startReply; split <;> rename_i h <;> simp [h]

/-- Starting a reply leaves alone the notices, the stations, the class levels, the receiver, and the sampled straps. -/
theorem startReply_keeps (k : Link) :
    k.startReply.notices = k.notices ∧ k.startReply.stations = k.stations ∧ k.startReply.levels = k.levels ∧
      k.startReply.receiver = k.receiver ∧ k.startReply.unitAddress = k.unitAddress ∧ k.startReply.linkRate = k.linkRate := by
  unfold Link.startReply; split <;> simp

theorem queueReply_replies_length (s : State) (a k : Byte) (t : Status) (b : List Byte) :
    (s.queueReply a k t b).link.replies.length = s.link.replies.length + 1 := by
  unfold State.queueReply
  simp only []
  split
  · simp [startReply_replies_length]
  · simp

/-- A queued reply leaves the rest of the Link Interface alone but for the two markers. -/
theorem queueReply_keeps (s : State) (a k : Byte) (t : Status) (b : List Byte) :
    (s.queueReply a k t b).link.notices = s.link.notices ∧ (s.queueReply a k t b).link.stations = s.link.stations ∧
      (s.queueReply a k t b).link.levels = s.link.levels ∧ (s.queueReply a k t b).link.receiver = s.link.receiver ∧
      (s.queueReply a k t b).link.unitAddress = s.link.unitAddress ∧
      (s.queueReply a k t b).link.linkRate = s.link.linkRate := by
  unfold State.queueReply
  simp only []
  split
  · obtain ⟨h1, h2, h3, h4, h5, h6⟩ :=
      startReply_keeps { s.link with replies := s.link.replies ++ [{ tag := a, kind := k, status := t, body := b, indicator := none }] }
    exact ⟨h1, h2, h3, h4, h5, h6⟩
  · exact ⟨rfl, rfl, rfl, rfl, rfl, rfl⟩

/-! ### Taking a command (R192, R193) -/

/-- A command that is taken is executed, and its reply queued (R192 check 7). -/
theorem takeCommand_ready {s : State} {h : Header} {k : Kind} (r : s.Ready h k) (run : Nat → State → Answer) :
    s.takeCommand k h run =
      (run (s.effective h) s).state.queueReply h.tag k.code (run (s.effective h) s).status (run (s.effective h) s).body := by
  obtain ⟨h1, h2, h3, h4⟩ := r
  unfold State.takeCommand
  rw [if_neg (by simp [h1]), if_neg (by simp [h2]), if_neg (by omega), if_neg]
  rintro ⟨hz, hp⟩
  have := h4 hz
  omega

/-- A broadcast command that is taken is executed without a reply (R193). -/
theorem takeCommand_readyAll {s : State} {h : Header} {k : Kind} (r : s.ReadyAll h k) (run : Nat → State → Answer) :
    s.takeCommand k h run = (run (s.effective h) s).state := by
  obtain ⟨h1, h2, h3⟩ := r
  unfold State.takeCommand
  rw [if_neg (by simp [h1]), if_pos h2, if_pos h3]

/-- What holds before a command and is kept by its execution, by a queued reply and by a discarded frame, holds after it. -/
theorem takeCommand_keeps (P : State → Prop) {s : State} (k : Kind) (h : Header) (run : Nat → State → Answer) (hs : P s)
    (hrun : ∀ n, P (run n s).state) (hreply : ∀ u tag kind st body, P u → P (u.queueReply tag kind st body))
    (hdrop : P s.discardFrame) : P (s.takeCommand k h run) := by
  unfold State.takeCommand
  split
  · exact hs
  · split
    · split
      · exact hrun _
      · exact hs
    · split
      · exact hdrop
      · split
        · exact hreply _ _ _ _ _ hs
        · exact hreply _ _ _ _ _ (hrun _)

/-! ### One step -/

/-- An event at the front of the queue is taken with the queue's rest left to wait. -/
theorem step_front {s : State} {c : Instr} {rest : List Instr} (h : s.pending = c :: rest) :
    step s = exec c { s with pending := rest } := by
  unfold step; rw [h]

theorem step_idle {s : State} (h : s.pending = []) : step s = .next s := by
  unfold step; rw [h]

end Sys2Proof.Machine
end

