-- ==== Sys2Proof/Laws/Ports.lean ====
section
/-!
SUPPORT. The frames at an ingest port: what going on to the next frame and a frame end do (spec/08, R156 to R158; log 25).
-/

namespace Sys2Proof.Machine

/-! ### Going on to the next frame -/

theorem Lane.passed_eq_append (x : Lane) : x.unended ++ x.port.taken.toList = x.passed := by
  unfold Lane.passed PortFrame.taken
  cases x.port <;> simp

@[simp] theorem Lane.nextFrame_eq (x : Lane) (p : PortFrame) : x.nextFrame p = { x with port := p, unended := x.passed } := by
  rw [Lane.nextFrame, Lane.passed_eq_append]

/-! ### Frame ends -/

@[simp] theorem Lane.takenFrame_none (x : Lane) : x.takenFrame none = x.port.taken := rfl

@[simp] theorem Lane.frameEnded_none (x : Lane) : x.frameEnded none = { x with port := .idle } := rfl

/-- The frame that a frame end is for, by the lane's own account of it. -/
theorem Lane.ends.takenFrame_eq {x : Lane} {frame : Option Nat} {lfn n : Nat} {port : PortFrame} {unended : List TakenFrame}
    (h : x.ends frame lfn n port unended) : x.takenFrame frame = some { lfn, blocks := n } := by
  rcases h with ⟨hf, hp, -, -⟩ | ⟨rfl, -, -, older, newer, hu, hn, -⟩
  · rcases hf with rfl | ⟨rfl, hn⟩
    · simp [hp, PortFrame.taken]
    · have ho : x.unended.find? (fun f => f.lfn == lfn) = none := List.find?_eq_none.mpr fun f hf => by simpa using hn f hf
      simp [Lane.takenFrame, hp, PortFrame.taken, ho]
  · have ho : older.find? (fun f => f.lfn == lfn) = none :=
      List.find?_eq_none.mpr fun f hf => by simpa using hn f (List.mem_append_left _ hf)
    simp [Lane.takenFrame, hu, ho]

/-- What a frame end leaves at the port. -/
theorem Lane.ends.frameEnded_eq {x : Lane} {frame : Option Nat} {lfn n : Nat} {port : PortFrame} {unended : List TakenFrame}
    (h : x.ends frame lfn n port unended) : x.frameEnded frame = { x with port, unended } := by
  rcases h with ⟨hf, hp, rfl, rfl⟩ | ⟨rfl, hp, rfl, older, newer, hu, hn, rfl⟩
  · rcases hf with rfl | ⟨rfl, hn⟩
    · simp
    · have hk : x.unended.filter (fun f => f.lfn != lfn) = x.unended := List.filter_eq_self.mpr fun f hf => by simpa using hn f hf
      simp [Lane.frameEnded, hp, PortFrame.taken, hk]
  · have ho : (older ++ newer).filter (fun f => f.lfn != lfn) = older ++ newer :=
      List.filter_eq_self.mpr fun f hf => by simpa using hn f hf
    have hk : x.unended.filter (fun f => f.lfn != lfn) = older ++ newer := by
      rw [hu, ← ho]; simp
    have ht : (x.port.taken.any fun f => f.lfn == lfn) = false := by
      cases hx : x.port with
      | idle => rfl
      | dropping => rfl
      | taking m k =>
        have : m ≠ lfn := fun e => hp k (by rw [hx, e])
        simp [PortFrame.taken, this]
    simp [Lane.frameEnded, hk, ht]

/-- A frame end in terms of `Lane.ends`: the one lemma about it. -/
theorem State.frameEnds_of_ends {s : State} {l : Fin 8} {frame : Option Nat} {lfn n : Nat} {port : PortFrame}
    {unended : List TakenFrame} (h : (s.lane l).ends frame lfn n port unended) (fault : Bool) :
    s.frameEnds l { frame, streamFault := fault } =
      let t := s.setLane l { s.lane l with port, unended }
      if fault || n != (s.lane l).s then t.damageFrame l lfn
      else (t.modifyWrite l lfn fun w => { w with ended := true }).finishWrite l lfn := by
  simp [State.frameEnds, State.endDamaged, State.endGood, State.modifyLane, h.takenFrame_eq, h.frameEnded_eq]

end Sys2Proof.Machine
end

