-- ==== Sys2Proof/WellFormed.lean ====
section
/-!
DEFINITION. Which commands can be sent at all: every field of a host command fits the bytes R205 gives it, and an event's operands
lie in the range its rule gives. A value that fits its bytes and not its range is well-formed, and is refused (log 13).
-/

namespace Sys2Proof

/-- The number fits in `w` bytes. -/
def fits (w n : Nat) : Bool := decide (n < 256 ^ w)

/-- The signed number fits in `w` bytes of two's complement. -/
def fitsSigned (w : Nat) (i : Int) : Bool := decide (-(256 ^ w / 2 : Nat) ≤ i) && decide (i < (256 ^ w / 2 : Nat))

def LaneFields.wf (f : LaneFields) : Bool :=
  fits 1 f.lane && fits 1 f.enable && fits 1 f.p && fits 1 f.s && fits 4 f.k && fits 4 f.base && fits 2 f.h

def MarkFields.wf (f : MarkFields) : Bool :=
  fits 2 f.clip && fits 1 f.lane && fits 1 f.point && fits 1 f.source && fits 4 f.value && fits 1 f.vl && fits 1 f.el

def SpanFields.wf (f : SpanFields) : Bool :=
  fits 2 f.clip && fits 1 f.lane && fits 4 f.inLfn && fits 4 f.outLfn && fits 1 f.vl && fits 1 f.el

def LineFields.wf (f : LineFields) : Bool :=
  fits 1 f.line && fits 1 f.action && fits 1 f.bindKind && fits 1 f.bindChannel && fits 1 f.bindLane && fits 1 f.edge &&
    fits 1 f.holdOff && fits 2 f.preRoll && fits 2 f.postRoll && fits 1 f.vl && fits 1 f.el && fits 1 f.lockOnCreate &&
    fits 1 f.actingLevel && fits 1 f.snapLane && fits 2 f.snapDelay

def JogFields.wf (f : JogFields) : Bool :=
  fits 1 f.jog && fits 1 f.bindKind && fits 1 f.channel && fits 1 f.counts && fits 1 f.step && fits 1 f.takeover

def LeverFields.wf (f : LeverFields) : Bool :=
  fits 1 f.lever && fits 1 f.bindKind && fits 1 f.channel && fits 2 f.centre && fits 1 f.halfWidth && fits 1 f.takeover

def SnapFields.wf (f : SnapFields) : Bool :=
  fits 1 f.channel && fits 1 f.kind && fits 1 f.lane && fits 2 f.delay && fits 2 f.clip && fits 4 f.offset

def PlayFields.wf (f : PlayFields) : Bool :=
  fits 1 f.speedKind && fitsSigned 2 f.speed && fits 2 f.ramp && fits 1 f.round

/-- The number of a segment record is signed for SKIP alone (R205). -/
def SegmentFields.wf (f : SegmentFields) : Bool :=
  fits 2 f.clip && fits 1 f.hasStart && fits 4 f.start && fits 1 f.hasEnd && fits 4 f.endOffset && fitsSigned 2 f.speed &&
    fits 1 f.action && (if f.action = 3 then fitsSigned 1 f.number else decide (0 ≤ f.number) && decide (f.number < 256))

def CueFields.wf (f : CueFields) : Bool :=
  fits 1 f.line && fits 1 f.mode && fits 1 f.channel && fits 4 f.compareLfn && fits 1 f.direction && fits 1 f.rearm &&
    fits 1 f.action && fits 1 f.n && fits 1 f.idleLevel && fits 1 f.bank && fits 1 f.entry

/-- A completed frame has the characters its length character asks for, or stops at a length above 240 (R191). -/
def LinkFrame.wf (f : LinkFrame) : Bool :=
  let n := (f.chars.getD 4 0).toNat
  if f.lengthFault then f.chars.length == 5 && decide (240 < n) else f.chars.length == 7 + n && decide (n ≤ 240)

/-- The command or event is one that can come. -/
def Instr.wf (i : Instr) : Bool :=
  match i with
  | .powerOnReset => true
  | .resetRelease _ => true
  | .referencePulse elapsed _ => fits 4 elapsed
  | .windowTimerExpiry expiry => fits 4 expiry.elapsed
  | .holdoverLimit expiry => fits 4 expiry.elapsed
  | .holdOffEnd _ => true
  | .jogMotion _ => true
  | .leverResult value => decide (value ≤ 1023)
  | .leverMotion _ => true
  | .pulseEnd _ => true
  | .exportStall => true
  | .signalChange _ _ => true
  | .frameArrival _ => true
  | .ingestBlockDelivered _ _ => true
  | .frameEnd _ ended => ended.frame.all (fits 4)
  | .blockCompletion _ => true
  | .xrdyAsserted => true
  | .xrdyDeasserted => true
  | .markEdge _ _ => true
  | .jogEdge _ _ _ => true
  | .linkCharacter _ _ => true
  | .frameRefused frame => frame.wf
  | .replySent => true
  | .poll _ => true
  | .unitStatus _ => true
  | .unitReset _ => true
  | .stationSet _ station ceiling => fits 1 station && fits 1 ceiling
  | .noticeLevels _ levels => levels.length == 11 && levels.all (fits 1)
  | .refConfig _ n w f => fits 2 n && fits 2 w && fits 1 f
  | .timeSet _ hh mm ss ff => fits 1 hh && fits 1 mm && fits 1 ss && fits 1 ff
  | .laneConfig _ f => f.wf
  | .recStart _ _ => true
  | .recStop _ _ => true
  | .indexRead _ lane startLfn => fits 1 lane && fits 4 startLfn
  | .laneStatus _ lane => fits 1 lane
  | .clipMark _ f => f.wf
  | .clipSpan _ f => f.wf
  | .clipLock _ clip => fits 2 clip
  | .clipUnlock _ clip => fits 2 clip
  | .clipDelete _ clip => fits 2 clip
  | .clipRights _ clip vl el => fits 2 clip && fits 1 vl && fits 1 el
  | .clipLabel _ clip length text => fits 2 clip && text.length == length && decide (length ≤ 237)
  | .clipRead _ clip => fits 2 clip
  | .clipNext _ clip => fits 2 clip
  | .rightsProbe _ clip => fits 2 clip
  | .lineConfig _ f => f.wf
  | .jogConfig _ f => f.wf
  | .jogStatus _ jog => fits 1 jog
  | .leverConfig _ f => f.wf
  | .curveLoad _ lever points => fits 1 lever && points.length == 17 && points.all (fitsSigned 2)
  | .leverStatus _ lever => fits 1 lever
  | .channelTake _ channel => fits 1 channel
  | .channelRelease _ channel => fits 1 channel
  | .cueClip _ channel clip offset => fits 1 channel && fits 2 clip && fits 4 offset
  | .cueLane _ channel lane newest lfn => fits 1 channel && fits 1 lane && fits 1 newest && fits 4 lfn
  | .live _ channel lane delay => fits 1 channel && fits 1 lane && fits 2 delay
  | .play _ channel f => fits 1 channel && f.wf
  | .pause _ channel => fits 1 channel
  | .speed _ channel kind value ramp => fits 1 channel && fits 1 kind && fitsSigned 2 value && fits 2 ramp
  | .stepFrames _ channel count => fits 1 channel && fitsSigned 2 count
  | .continuePlay _ channel => fits 1 channel
  | .snap _ f => f.wf
  | .resume _ channel => fits 1 channel
  | .saveDiscard _ channel => fits 1 channel
  | .syncPlay _ _ f => f.wf
  | .channelStatus _ channel => fits 1 channel
  | .flagsClear _ channel _ => fits 1 channel
  | .flagEnables _ channel _ => fits 1 channel
  | .bankWrite _ bank first count records =>
    fits 1 bank && fits 1 first && decide (count ≤ 14) && records.length == count && records.all SegmentFields.wf
  | .bankRead _ bank first count => fits 1 bank && fits 1 first && fits 1 count
  | .runOrder _ channel bank entry => fits 1 channel && fits 1 bank && fits 1 entry
  | .segue _ channel kind number => fits 1 channel && fits 1 kind && fits 1 number
  | .exportStart _ clip a b tag => fits 2 clip && fits 4 a && fits 4 b && fits 4 tag
  | .exportAbort _ => true
  | .exportConfig _ limit => fits 1 limit
  | .exportStatus _ => true
  | .cueLineConfig _ f => f.wf
  | .cueLineFire _ line => fits 1 line
  | .cueLineStatus _ line => fits 1 line

end Sys2Proof
end

