-- ==== Sys2Proof/Tests/Slice0.lean ====
section
/-!
SUPPORT. Small tests: an ill-formed command for each check of WellFormed, the CRC and sample frames, single steps on small states, and
for the statements' hypotheses states and operands that meet them.
-/

namespace Sys2Proof.Tests

-- One theorem after the other: each kernel evaluation at once would ask for a stack of its own.
set_option Elab.async false

open Sys2Proof.Machine

/-! ### Headers, and commands as they can come -/

/-- To this unit, from station 0 at level 0. -/
def unitHeader : Header := { broadcast := false, station := 0, claimed := 0, tag := 7 }

/-- To every unit, from station 0 at level 0. -/
def allHeader : Header := { broadcast := true, station := 0, claimed := 0, tag := 7 }

def laneFields : LaneFields := { lane := 0, enable := 1, p := 1, s := 128, k := 256, base := 0, h := 240 }
def markFields : MarkFields := { clip := 0, lane := 0, point := 0, source := 0, value := 5, vl := 3, el := 3 }
def spanFields : SpanFields := { clip := 0, lane := 0, inLfn := 5, outLfn := 6, vl := 3, el := 3 }
def lineFields : LineFields :=
  { line := 0, action := 1, bindKind := 1, bindChannel := 0, bindLane := 0, edge := 0, holdOff := 15, preRoll := 65535,
    postRoll := 65535, vl := 3, el := 3, lockOnCreate := 1, actingLevel := 3, snapLane := 7, snapDelay := 65535 }
def jogFields : JogFields := { jog := 0, bindKind := 0, channel := 3, counts := 4, step := 16, takeover := 1 }
def leverFields : LeverFields := { lever := 0, bindKind := 1, channel := 0, centre := 1023, halfWidth := 255, takeover := 0 }
def snapFields : SnapFields := { channel := 0, kind := 0, lane := 0, delay := 1, clip := 0, offset := 0 }
def playFields : PlayFields := { speedKind := 0, speed := 8192, ramp := 8192, round := 1 }
def segmentFields : SegmentFields :=
  { clip := 3, hasStart := 0, start := 0, hasEnd := 0, endOffset := 0, speed := -8192, action := 3, number := -16 }
def cueFields : CueFields :=
  { line := 7, mode := 1, channel := 3, compareLfn := 4294967295, direction := 2, rearm := 1, action := 0, n := 255,
    idleLevel := 1, bank := 7, entry := 31 }

/-! ### WellFormed refuses each ill-formed command -/

theorem test_wf_accepts :
    ([.laneConfig unitHeader laneFields, .clipMark unitHeader markFields, .clipSpan unitHeader spanFields,
      .lineConfig unitHeader lineFields, .jogConfig unitHeader jogFields, .leverConfig unitHeader leverFields,
      .snap unitHeader snapFields, .play unitHeader 0 playFields, .bankWrite unitHeader 0 0 1 [segmentFields],
      .cueLineConfig unitHeader cueFields, .frameRefused { chars := [0, 0, 0, 1, 0, 0, 0], lengthFault := false },
      .frameRefused { chars := [0, 0, 0, 1, 241], lengthFault := true },
      .frameEnd 7 { frame := some 4294967295, streamFault := false }] : List Instr).all Instr.wf = true := by decide +kernel

theorem test_wf_refuses_events :
    ([.referencePulse 4294967296 [], .windowTimerExpiry { elapsed := 4294967296, order := [] },
      .holdoverLimit { elapsed := 4294967296, order := [] }, .leverResult 1024,
      .frameEnd 7 { frame := some 4294967296, streamFault := false },
      .frameRefused { chars := [0, 0, 0, 1, 0, 0], lengthFault := false },
      .frameRefused { chars := [0, 0, 0, 1, 241] ++ List.replicate 243 0, lengthFault := false },
      .frameRefused { chars := [0, 0, 0, 1], lengthFault := true },
      .frameRefused { chars := [0, 0, 0, 1, 240], lengthFault := true }] : List Instr).all (fun i => !i.wf) = true := by
  decide +kernel

theorem test_wf_refuses_unit_commands :
    ([.stationSet unitHeader 256 0, .stationSet unitHeader 0 256, .noticeLevels unitHeader (List.replicate 10 0),
      .noticeLevels unitHeader (256 :: List.replicate 10 0), .refConfig unitHeader 65536 0 0, .refConfig unitHeader 0 65536 0,
      .refConfig unitHeader 0 0 256, .timeSet unitHeader 256 0 0 0, .timeSet unitHeader 0 256 0 0,
      .timeSet unitHeader 0 0 256 0, .timeSet unitHeader 0 0 0 256, .indexRead unitHeader 256 0,
      .indexRead unitHeader 0 4294967296, .laneStatus unitHeader 256] : List Instr).all (fun i => !i.wf) = true := by
  decide +kernel

theorem test_wf_refuses_lane_fields :
    ([{ laneFields with lane := 256 }, { laneFields with enable := 256 }, { laneFields with p := 256 },
      { laneFields with s := 256 }, { laneFields with k := 4294967296 }, { laneFields with base := 4294967296 },
      { laneFields with h := 65536 }] : List LaneFields).all (fun f => !(Instr.laneConfig unitHeader f).wf) = true := by
  decide +kernel

theorem test_wf_refuses_mark_fields :
    ([{ markFields with clip := 65536 }, { markFields with lane := 256 }, { markFields with point := 256 },
      { markFields with source := 256 }, { markFields with value := 4294967296 }, { markFields with vl := 256 },
      { markFields with el := 256 }] : List MarkFields).all (fun f => !(Instr.clipMark unitHeader f).wf) = true := by
  decide +kernel

theorem test_wf_refuses_span_fields :
    ([{ spanFields with clip := 65536 }, { spanFields with lane := 256 }, { spanFields with inLfn := 4294967296 },
      { spanFields with outLfn := 4294967296 }, { spanFields with vl := 256 },
      { spanFields with el := 256 }] : List SpanFields).all (fun f => !(Instr.clipSpan unitHeader f).wf) = true := by
  decide +kernel

theorem test_wf_refuses_clip_commands :
    ([.clipLock unitHeader 65536, .clipUnlock unitHeader 65536, .clipDelete unitHeader 65536, .clipRights unitHeader 65536 0 0,
      .clipRights unitHeader 1 256 0, .clipRights unitHeader 1 0 256, .clipLabel unitHeader 65536 0 [],
      .clipLabel unitHeader 1 1 [], .clipLabel unitHeader 1 238 (List.replicate 238 65), .clipRead unitHeader 65536,
      .clipNext unitHeader 65536, .rightsProbe unitHeader 65536] : List Instr).all (fun i => !i.wf) = true := by
  decide +kernel

theorem test_wf_refuses_line_fields :
    ([{ lineFields with line := 256 }, { lineFields with action := 256 }, { lineFields with bindKind := 256 },
      { lineFields with bindChannel := 256 }, { lineFields with bindLane := 256 }, { lineFields with edge := 256 },
      { lineFields with holdOff := 256 }, { lineFields with preRoll := 65536 }, { lineFields with postRoll := 65536 },
      { lineFields with vl := 256 }, { lineFields with el := 256 }, { lineFields with lockOnCreate := 256 },
      { lineFields with actingLevel := 256 }, { lineFields with snapLane := 256 },
      { lineFields with snapDelay := 65536 }] : List LineFields).all (fun f => !(Instr.lineConfig unitHeader f).wf) = true := by
  decide +kernel

theorem test_wf_refuses_jog_and_lever_commands :
    ([.jogConfig unitHeader { jogFields with jog := 256 }, .jogConfig unitHeader { jogFields with bindKind := 256 },
      .jogConfig unitHeader { jogFields with channel := 256 }, .jogConfig unitHeader { jogFields with counts := 256 },
      .jogConfig unitHeader { jogFields with step := 256 }, .jogConfig unitHeader { jogFields with takeover := 256 },
      .leverConfig unitHeader { leverFields with lever := 256 }, .leverConfig unitHeader { leverFields with bindKind := 256 },
      .leverConfig unitHeader { leverFields with channel := 256 }, .leverConfig unitHeader { leverFields with centre := 65536 },
      .leverConfig unitHeader { leverFields with halfWidth := 256 },
      .leverConfig unitHeader { leverFields with takeover := 256 }, .jogStatus unitHeader 256, .leverStatus unitHeader 256,
      .curveLoad unitHeader 256 (List.replicate 17 0), .curveLoad unitHeader 0 (List.replicate 16 0),
      .curveLoad unitHeader 0 (32768 :: List.replicate 16 0)] : List Instr).all (fun i => !i.wf) = true := by
  decide +kernel

theorem test_wf_refuses_channel_commands :
    ([.channelTake unitHeader 256, .channelRelease unitHeader 256, .cueClip unitHeader 256 1 0, .cueClip unitHeader 0 65536 0,
      .cueClip unitHeader 0 1 4294967296, .cueLane unitHeader 256 0 0 0, .cueLane unitHeader 0 256 0 0,
      .cueLane unitHeader 0 0 256 0, .cueLane unitHeader 0 0 0 4294967296, .live unitHeader 256 0 0, .live unitHeader 0 256 0,
      .live unitHeader 0 0 65536, .play unitHeader 256 playFields, .pause unitHeader 256, .speed unitHeader 256 0 0 1,
      .speed unitHeader 0 256 0 1, .speed unitHeader 0 0 (-32769) 1, .speed unitHeader 0 0 0 65536,
      .stepFrames unitHeader 256 0, .stepFrames unitHeader 0 32768, .continuePlay unitHeader 256, .resume unitHeader 256,
      .saveDiscard unitHeader 256, .channelStatus unitHeader 256, .flagsClear unitHeader 256 0,
      .flagEnables unitHeader 256 0] : List Instr).all (fun i => !i.wf) = true := by
  decide +kernel

theorem test_wf_refuses_play_fields :
    ([{ playFields with speedKind := 256 }, { playFields with speed := 32768 }, { playFields with ramp := 65536 },
      { playFields with round := 256 }] : List PlayFields).all
        (fun f => !(Instr.play unitHeader 0 f).wf && !(Instr.syncPlay unitHeader 0 f).wf) = true := by
  decide +kernel

theorem test_wf_refuses_snap_fields :
    ([{ snapFields with channel := 256 }, { snapFields with kind := 256 }, { snapFields with lane := 256 },
      { snapFields with delay := 65536 }, { snapFields with clip := 65536 },
      { snapFields with offset := 4294967296 }] : List SnapFields).all (fun f => !(Instr.snap unitHeader f).wf) = true := by
  decide +kernel

theorem test_wf_refuses_bank_writes :
    ([.bankWrite unitHeader 256 0 0 [], .bankWrite unitHeader 0 256 0 [],
      .bankWrite unitHeader 0 0 15 (List.replicate 15 segmentFields), .bankWrite unitHeader 0 0 1 []] : List Instr).all
        (fun i => !i.wf) = true ∧
    ([{ segmentFields with clip := 65536 }, { segmentFields with hasStart := 256 }, { segmentFields with start := 4294967296 },
      { segmentFields with hasEnd := 256 }, { segmentFields with endOffset := 4294967296 },
      { segmentFields with speed := 32768 }, { segmentFields with action := 256 }, { segmentFields with number := -129 },
      { segmentFields with action := 4, number := -1 }, { segmentFields with action := 4, number := 256 }] :
        List SegmentFields).all (fun f => !(Instr.bankWrite unitHeader 0 0 1 [f]).wf) = true := by
  decide +kernel

theorem test_wf_refuses_order_and_export_commands :
    ([.bankRead unitHeader 256 0 1, .bankRead unitHeader 0 256 1, .bankRead unitHeader 0 0 256, .runOrder unitHeader 256 0 0,
      .runOrder unitHeader 0 256 0, .runOrder unitHeader 0 0 256, .segue unitHeader 256 0 0, .segue unitHeader 0 256 0,
      .segue unitHeader 0 0 256, .exportStart unitHeader 65536 0 0 0, .exportStart unitHeader 1 4294967296 0 0,
      .exportStart unitHeader 1 0 4294967296 0, .exportStart unitHeader 1 0 0 4294967296, .exportConfig unitHeader 256,
      .cueLineFire unitHeader 256, .cueLineStatus unitHeader 256] : List Instr).all (fun i => !i.wf) = true := by
  decide +kernel

theorem test_wf_refuses_cue_fields :
    ([{ cueFields with line := 256 }, { cueFields with mode := 256 }, { cueFields with channel := 256 },
      { cueFields with compareLfn := 4294967296 }, { cueFields with direction := 256 }, { cueFields with rearm := 256 },
      { cueFields with action := 256 }, { cueFields with n := 256 }, { cueFields with idleLevel := 256 },
      { cueFields with bank := 256 }, { cueFields with entry := 256 }] : List CueFields).all
        (fun f => !(Instr.cueLineConfig unitHeader f).wf) = true := by
  decide +kernel

/-! ### The CRC and bodies of frames (R191, R204, R205) -/

theorem test_crc :
    crc [0x31, 0x32, 0x33, 0x34, 0x35, 0x36, 0x37, 0x38, 0x39] = 0x29B1 ∧
      crcBytes [0x31, 0x32, 0x33, 0x34, 0x35, 0x36, 0x37, 0x38, 0x39] = [0xB1, 0x29] := by decide +kernel

theorem test_frame_header : headerOf [0x0F, 0x35, 0x77] = { broadcast := true, station := 5, claimed := 3, tag := 0x77 } := by
  decide +kernel

theorem test_frame_bodies :
    decodeBody .refConfig unitHeader [0x20, 0x4E, 0xC8, 0x00, 0x19] = .refConfig unitHeader 20000 200 25 ∧
      decodeBody .live unitHeader [0x02, 0x05, 0x34, 0x12] = .live unitHeader 2 5 0x1234 ∧
      decodeBody .speed unitHeader [0x01, 0x00, 0x00, 0xFF, 0x00, 0x20] = .speed unitHeader 1 0 (-256) 8192 ∧
      decodeBody .clipLabel unitHeader [0xFF, 0x03, 0x02, 0x41, 0x42] = .clipLabel unitHeader 1023 2 [0x41, 0x42] := by
  decide +kernel

/-- A row of the table gives no bits to a command, so no word spells one. -/
theorem test_no_word_spells_a_command : decodeTableWord 32 0xDEADBEEF = none := by decide

/-! ### A small state, sound in every way the invariants ask -/

def entry (lfn slot : Nat) (status : EntryStatus) : Entry :=
  { lfn, slot, status, rpn := 1, timecode := { hh := 0, mm := 0, ss := 1, ff := lfn }, phase := 0, readCount := 0 }

/-- Recording at P = 2 and S = 2, LFN 7 under delivery with one of its blocks brought. -/
def recording : Lane :=
  { Lane.powerOn with
    state := .recording, p := 2, s := 2, k := 20, base := 100, h := 4, signal := true,
    entries := [entry 5 0 .good, entry 6 1 .good, entry 7 2 .writing],
    freeSlots := [3, 4, 5, 6, 7, 8, 9, 10, 11, 12, 13, 14, 15, 16, 17, 18, 19], held := 1, periodBase := 7, arrivals := 1,
    newestAssigned := some 7, accepted := 3, port := .taking 7 1 }

/-- Stopped and empty. -/
def stopped : Lane :=
  { Lane.powerOn with
    state := .stopped, p := 1, s := 1, k := 17, base := 200, h := 1, port := .dropping,
    freeSlots := [0, 1, 2, 3, 4, 5, 6, 7, 8, 9, 10, 11, 12, 13, 14, 15, 16] }

def clip (state : ClipState) (inLfn : Nat) (out planned : Option Nat) : Clip := { Clip.free with state, inLfn, out, planned }

/-- The frame write of LFN 7. -/
def write : FrameWrite :=
  { lfn := 7, slot := 2, firstBlock := 104, size := 2, granted := 0, done := 0, waiting := [9], ended := false }

/-- Playing clip 1, frame 5 on air. -/
def playing : Channel :=
  { Channel.reset with
    state := .playing, owner := some 0, level := 0, source := .clip 1, position := 5 * 256, current := 256, target := 256,
    onAir := some { lane := 0, lfn := 5, slot := 0 } }

/-- Cued at frame 6 of lane 0. -/
def cued : Channel :=
  { Channel.reset with state := .cued, owner := some 0, level := 0, source := .lane 0, position := 6 * 256 }

def sample : State :=
  { State.reset with
    lanes := (State.reset.lanes.set 0 recording).set 1 stopped
    clips := [(1, { clip .closed 5 (some 6) none with useCount := 1 }), (2, clip .opened 6 none none),
      (3, { clip .closed 5 (some 5) none with opLock := true }), (4, clip .absent 1 (some 2) none),
      (5, clip .opened 6 none (some 8))]
    marks := State.reset.marks.set 0
      { MarkLine.powerOn with action := .markIn, binding := .lane 0, edge := .rising, workingClip := 2 }
    channels := (State.reset.channels.set 0 playing).set 1 cued
    xfer := { State.reset.xfer with ingest := State.reset.xfer.ingest.set 0 [write] } }

theorem sample_lanes_sound : (sample.lane 0).sound ∧ (sample.lane 1).sound := by
  refine ⟨⟨?_, ?_, ?_, ?_, ?_, ?_, ?_, ?_, ?_, ?_⟩, ⟨?_, ?_, ?_, ?_, ?_, ?_, ?_, ?_, ?_, ?_⟩⟩ <;> decide +kernel

theorem sample_clips_sound : sample.clipsSound := by
  constructor <;> decide +kernel

theorem sample_uses_sound : sample.usesSound := by
  refine ⟨fun n => ?_, ?_, ?_, ?_⟩
  · by_cases h : n ≤ 5
    · revert n; decide +kernel
    · have e : sample.clip n = Clip.free := by
        simp [State.clip, sample, Sparse.lookup, show ¬ 1 = n by omega, show ¬ 2 = n by omega, show ¬ 3 = n by omega,
          show ¬ 4 = n by omega, show ¬ 5 = n by omega]
      have r : sample.roles n = if (1 : Nat) = n then 1 else 0 := by
        have h0 : (sample.channel 0).source = .clip 1 := by decide +kernel
        have h1 : (sample.channel 1).source = .lane 0 := by decide +kernel
        have h2 : (sample.channel 2).source = .none := by decide +kernel
        have h3 : (sample.channel 3).source = .none := by decide +kernel
        have hs : ∀ c, (sample.channel c).saved = none := by decide +kernel
        have he : sample.exporter.state = .idle := by decide +kernel
        by_cases g : 1 = n <;> simp [State.roles, allChannels, h0, h1, h2, h3, hs, he, g]
      rw [e, r, if_neg (by omega)]; rfl
  all_goals decide +kernel

theorem sample_is_ready (k : Kind) : sample.Ready unitHeader k := ⟨rfl, rfl, by decide, fun _ => by decide +kernel⟩

theorem sample_is_ready_for_all (k : Kind) (h : k ∈ [Kind.timeSet, .recStart, .recStop, .syncPlay]) :
    sample.ReadyAll allHeader k := by
  refine ⟨rfl, rfl, ?_⟩; revert h; revert k; decide

/-! ### States and operands that meet the statements' hypotheses, clause by clause -/

def reply (indicator : Option Byte) : Reply := { tag := 1, kind := 1, status := .ok, body := [0], indicator }

/-- Four replies queued, the first being sent. -/
def full : State := { sample with link := { sample.link with replies := reply (some 0) :: List.replicate 3 (reply none) } }

def notice : Notice := { cls := .mark, code := 0, subject := 0, rpn := 0, data := [] }

theorem meets_StepTakesTheFrontEvent :
    ({ sample with pending := [.replySent] } : State).pending = .replySent :: [] ∧ sample.pending = [] := by decide

theorem meets_EventsKeepTheQueueAndWaitForRelease :
    exec .xrdyDeasserted sample = .next sample ∧ ({ sample with resetHeld := true } : State).resetHeld = true ∧
      Instr.replySent ≠ .powerOnReset ∧ (∀ x, Instr.replySent ≠ .resetRelease x) ∧ Instr.replySent ≠ .xrdyAsserted ∧
      Instr.replySent ≠ .xrdyDeasserted := by
  refine ⟨rfl, rfl, ?_, ?_, ?_, ?_⟩ <;> intros <;> simp

theorem meets_HostCommandsAreCheckedThenAnswered :
    commandOf (.poll allHeader) = some (.poll, allHeader) ∧ sample.resetHeld = false ∧ full.resetHeld = false ∧
      allHeader.broadcast = true ∧ Kind.poll ∉ [Kind.timeSet, .recStart, .recStop, .syncPlay] ∧
      unitHeader.broadcast = false ∧ 4 ≤ full.link.replies.length ∧ sample.link.replies.length < 4 ∧
      0 < max ({ unitHeader with claimed := 1 } : Header).claimed.val sample.link.stations[unitHeader.station] := by
  refine ⟨rfl, rfl, rfl, rfl, ?_, rfl, ?_, ?_, ?_⟩ <;> decide +kernel

theorem meets_RepliesAreQueuedAndSentInOrder :
    full.link.replies ≠ [] ∧ sample.link.replies = [] ∧ full.resetHeld = false ∧
      full.link.replies = reply (some 0) :: List.replicate 3 (reply none) ∧ (reply (some 0)).indicator = some 0 := by
  decide +kernel

theorem meets_PostedNoticesJoinTheQueue :
    sample.link.levels[NoticeClass.cue.number] = 15 ∧ sample.link.levels[NoticeClass.mark.number] ≠ 15 ∧
      ({ sample.link with notices := List.replicate 63 notice } : Link).notices.length < 64 ∧
      64 ≤ ({ sample.link with notices := List.replicate 64 notice } : Link).notices.length := by decide +kernel

theorem meets_PollReturnsTheMostUrgent :
    ({ sample with link := { sample.link with notices := List.replicate 9 notice } } : State).Ready unitHeader .poll ∧
      ∀ n ∈ List.replicate 9 notice, sample.link.levels[n.cls.number] ≤ 15 :=
  ⟨⟨rfl, rfl, by decide, fun h => by revert h; decide⟩, by decide +kernel⟩

theorem meets_StationsAndNoticeLevelsAreReplaced :
    (∃ o : Fin 16, (sample.link.stations.set 15 3)[o] = 0) ∧ 15 < 16 ∧ 3 < 4 ∧
      (∀ o : Fin 16, (sample.link.stations.set 0 3)[o] ≠ 0) ∧
      (∀ i : Fin 11, (Vector.replicate 11 15)[i] ≤ 15) ∧ (∃ i : Fin 11, 15 < (Vector.replicate 11 16)[i]) := by
  decide +kernel

/-- A POLL frame to unit 0 but for its last character, which is `pollEnd`. -/
def pollStart : List Byte := [0, 0, 7, 1, 0] ++ (crcBytes [0, 0, 7, 1, 0]).take 1

def pollEnd : Byte := (crcBytes [0, 0, 7, 1, 0]).getD 1 0

theorem meets_ReceivedFramesRunTheirCommand :
    (0x00 : Byte).toNat = sample.link.unitAddress.val ∧ (0x01 : Byte).toNat ≠ sample.link.unitAddress.val ∧
      sample.link.receiver = .hunt ∧ ¬(pollStart.length = 4 ∧ 240 < pollEnd.toNat) ∧ 5 ≤ (pollStart ++ [pollEnd]).length ∧
      (pollStart ++ [pollEnd]).length = 7 + ((pollStart ++ [pollEnd]).getD 4 0).toNat ∧
      (pollStart ++ [pollEnd]).drop 5 = crcBytes ((pollStart ++ [pollEnd]).take 5) ∧
      Kind.poll.code = (pollStart ++ [pollEnd]).getD 3 0 ∧ Kind.poll.bodyLength [] = 0 ∧
      wholeFrame { chars := [0, 0, 7, 1] ++ [241], lengthFault := true } sample.link.unitAddress = true ∧
      true = decide (([0, 0, 7, 1] : List Byte).length = 4 ∧ 240 < (241 : Byte).toNat) := by decide +kernel

theorem test_a_received_poll_is_answered :
    (∃ s, exec (.linkCharacter false pollEnd) { sample with link := { sample.link with receiver := .receiving pollStart } } =
      .next s ∧ s.link.receiver = .hunt ∧ s.link.replies.length = 1) := ⟨_, rfl, by decide +kernel, by decide +kernel⟩

def framed (chars : List Byte) : LinkFrame := { chars := chars ++ crcBytes chars, lengthFault := false }

theorem meets_FaultyFramesAreAnswered :
    (∀ f ∈ [{ chars := [0, 0, 7, 1, 241], lengthFault := true }, { chars := [0, 0, 7, 1, 0, 0, 0], lengthFault := false },
        framed [0, 0, 7, 0xFF, 0], framed [0, 0, 7, 1, 1, 0], framed [0, 0x10, 7, 3, 0], framed [0x0F, 0, 7, 1, 0]],
        wholeFrame f sample.link.unitAddress = true) ∧
      crcFault [0, 0, 7, 1, 0, 0, 0] = true ∧ crcFault (framed [0, 0, 7, 0xFF, 0]).chars = false ∧ kindOf 0xFF = none ∧
      kindOf 1 = some .poll ∧ Kind.poll.bodyLength [0] ≠ 1 ∧ kindOf 3 = some .unitReset ∧ Kind.unitReset.levelZero = true ∧
      0 < sample.effective (headerOf (framed [0, 0x10, 7, 3, 0]).chars) ∧
      (headerOf (framed [0x0F, 0, 7, 1, 0]).chars).broadcast = true ∧ Kind.poll.broadcast = false := by decide +kernel

theorem meets_ResetPinHoldsAndReleasesThePart : State.powerOn.resetHeld = true := rfl

def inState (state : RefState) (holdover : Nat) : State := { sample with refu := { sample.refu with state, holdover } }

/-- LOCKED, 150 µs after a tick, with the window closing at N + W. -/
def locked : State :=
  { sample with refu := { sample.refu with state := .locked, interval := 150, expiry := 20200 } }

theorem meets_ReferencePulsesAreEarlyOrOnTime :
    sample.refu.interval + 19799 + sample.refu.config.w < sample.refu.config.n ∧
      sample.refu.config.n ≤ sample.refu.interval + 19800 + sample.refu.config.w ∧
      locked.refu.interval + 19649 + locked.refu.config.w < locked.refu.config.n ∧
      locked.refu.config.n ≤ locked.refu.interval + 19650 + locked.refu.config.w ∧
      sample.refu.interval + 20000 = sample.refu.expiry ∧ locked.refu.interval + 20050 = locked.refu.expiry := by decide

theorem meets_ExpiriesTickByTheirState :
    (inState .locked 0).refu.state = .locked ∧ (inState .holdover 248).refu.state = .holdover ∧
      (inState .holdover 248).refu.holdover < 249 ∧ 249 ≤ (inState .holdover 249).refu.holdover ∧
      sample.refu.state = .freeRun ∧ sample.refu.interval + 19999 < sample.refu.expiry ∧
      sample.refu.expiry ≤ sample.refu.interval + 20000 := by decide

/-- A pulse and the expiry at one instant, in either order: one tick (R8). -/
theorem test_a_pulse_and_the_expiry_make_one_tick :
    let pulseFirst := ((locked.elapse 20050).referencePulse []).windowTimer []
    let expiryFirst := ((locked.elapse 20050).windowTimer []).referencePulse []
    (pulseFirst.refu.rpn = 1 ∧ pulseFirst.refu.state = .locked) ∧ expiryFirst.refu.rpn = 1 ∧
      expiryFirst.refu.state = .holdover := by decide +kernel

/-- The first tick after an acquisition restart comes N + W after the early pulse (R6). -/
theorem test_a_restart_replaces_the_expiry :
    let s := (sample.elapse 5000).referencePulse []
    s.refu.expiry = 25200 ∧ ((s.elapse 15000).windowTimer []).refu.rpn = 0 ∧
      ((s.elapse 20200).windowTimer []).refu.rpn = 1 := by decide +kernel

/-- The listed actions come first, each at its first place, and every other block after them (log 8). -/
theorem test_a_tick_keeps_the_given_order :
    (tickSchedule [.channel 2, .lane 1, .channel 2, .jogMotion 0]).take 4 = [.channel 2, .lane 1, .jogMotion 0, .lane 0] ∧
      (tickSchedule [.channel 2, .lane 1, .channel 2, .jogMotion 0]).length = 35 := by decide +kernel

theorem meets_TimeAndConfigurationMoveAtTheTick :
    sample.refu.timecode.ss < 60 ∧ sample.refu.timecode.mm < 60 ∧ sample.refu.timecode.hh < 24 ∧
      sample.refu.waiting = none ∧ 4 * 2000 < 10000 ∧ ¬4 * 2000 < 8000 ∧
      59 ≤ 59 ∧ 24 < (sample.refu.pending.getD sample.refu.config).f ∧
      ¬25 < (sample.refu.pending.getD sample.refu.config).f := by decide

/-! ### Lanes -/

/-- The greatest lane that fits beside the sample's two, for lane 7. -/
def widest : LaneFields := { lane := 7, enable := 1, p := 8, s := 3, k := 65536, base := 217, h := 65520 }

theorem meets_LaneConfigStartsTheLaneAfresh :
    Sparse.Sorted sample.clips ∧ widest.k % 256 = 0 ∧ widest.h ≤ widest.k - 16 ∧ (sample.lane 7).state = .off ∧
      (∀ c, (sample.channel c).source = .none ∨ (sample.channel c).source = .clip 1 ∨ (sample.channel c).source = .lane 0) ∧
      (∀ c, (sample.channel c).saved = none ∧ (sample.channel c).fetch = none) ∧ sample.exporter.state = .idle ∧
      (∀ e ∈ sample.clips, e.2.lane ≠ 7 ∧ e.2.lane ≠ 1) ∧ widest.base + widest.k * widest.s ≤ 262144 ∧
      (∀ m, m ≠ 7 → (sample.lane m).state ≠ .off → widest.base + widest.k * widest.s ≤ (sample.lane m).base ∨
        (sample.lane m).base + (sample.lane m).k * (sample.lane m).s ≤ widest.base) ∧
      widest.k + (20 + 17) ≤ 131072 := by decide +kernel

/-- The refusals of LANE CONFIG, in the order of its checks, and its enable off. -/
theorem meets_LaneConfigRefusals :
    7 < { widest with lane := 8 }.lane ∧ ¬{ widest with k := 255 }.k % 256 = 0 ∧ ¬({ widest with h := 65521 }.h ≤ widest.k - 16) ∧
      (sample.lane 0).state = .recording ∧
      (let t := sample.setLane 0 { recording with state := .stopped }
      (t.lane 0).state = .stopped ∧ (t.channel 0).source = .clip 1 ∧ (t.clip 1).lane = 0) ∧
      (let t := sample.setClip 6 { clip .closed 0 (some 0) none with lane := 1, opLock := true }
      (t.lane 1).state = .stopped ∧ (t.clip 6).lane = 1 ∧ (t.clip 6).opLock = true) ∧
      262144 < { widest with base := 218 * 300 + 138 }.base + widest.k * widest.s ∧
      (sample.lane 1).base + (sample.lane 1).k * (sample.lane 1).s = widest.base ∧
      (let t := sample.setLane 1 { stopped with k := 65536 }
      (t.lane 1).base + (t.lane 1).k * (t.lane 1).s ≤ 65800 ∧ 65800 + 65536 * 1 ≤ 262144 ∧
        131072 < 65536 + ((t.lane 0).k + (t.lane 1).k)) ∧
      { widest with enable := 0 }.enable = 0 := by decide +kernel

theorem test_a_lane_is_turned_off :
    let s := sample.setClip 6 { clip .closed 0 (some 0) none with lane := 1 }
    ∃ t, exec (.laneConfig unitHeader { widest with lane := 1, enable := 0, p := 99 }) s = .next t ∧
      (t.lane 1).state = .off ∧ (t.lane 1).k = 0 ∧ (t.lane 1).freeSlots = [] ∧ (t.clip 6).state = .absent ∧
      t.clip 1 = sample.clip 1 ∧ t.lane 0 = sample.lane 0 := by
  refine ⟨_, rfl, ?_⟩; decide +kernel

theorem meets_RecStartAndStopActOnTheNamedLanes :
    (sample.lane 1).state = .stopped ∧ (sample.lane 1).periodBase + (sample.lane 1).arrivals + (sample.lane 1).p - 1 ≤
      4294967295 ∧ (sample.lane 0).state = .recording ∧ (0x03 : BitVec 8).getLsbD 1 = true := by decide +kernel

/-- LFNs up to 4,294,967,292 have passed, 7 the last assigned, and the next period would not fit. -/
def exhausted (state : LaneState) : State :=
  sample.setLane 0 { recording with state, periodBase := 4294967293, arrivals := 0 }

theorem meets_TicksBeginALanesNextPeriod :
    Sparse.Sorted sample.clips ∧ 1 ≤ (sample.lane 0).p ∧ (sample.lane 1).state = .stopped ∧
      ((sample.lane 2).state = .off ∧ (sample.lane 2).p = 0) ∧ ((exhausted .stopping).lane 0).state = .stopping ∧
      Sparse.Sorted (exhausted .stopping).clips ∧ (sample.lane 0).state = .recording ∧
      (sample.lane 0).periodBase + 2 * (sample.lane 0).p - 1 ≤ 4294967295 ∧
      4294967295 < ({ recording with periodBase := 4294967293 } : Lane).periodBase + 2 * recording.p - 1 := by decide +kernel

theorem test_a_passed_planned_out_closes_at_a_recording_tick :
    ((sample.clip 5).planned = some 8 ∧ (((exhausted .recording).laneTick 0).clip 5).out = some 8) ∧
      (((exhausted .recording).laneTick 0).lane 0).state = .stopping := by decide +kernel

theorem test_a_tick_in_stopping_does_nothing : (exhausted .stopping).laneTick 0 = exhausted .stopping := by decide +kernel

/-- Every slot taken, and no entry that may go. -/
def jammed : Lane :=
  { recording with
    k := 3, h := 0, held := 0, freeSlots := [],
    entries := [{ entry 5 0 .good with readCount := 1 }, { entry 6 1 .good with readCount := 1 }, entry 7 2 .writing] }

/-- Two writes pending. -/
def busy : State :=
  sample.setLane 0 { recording with entries := [entry 5 0 .good, entry 6 1 .writing, entry 7 2 .writing] }

theorem meets_ArrivalsAreRecordedOrDiscarded :
    (sample.lane 1).state ≠ .recording ∧ ((sample.setLane 0 { recording with arrivals := 2 }).lane 0).arrivals = recording.p ∧
      (sample.lane 0).state = .recording ∧ (sample.lane 0).arrivals ≠ (sample.lane 0).p ∧ 2 ≤ (busy.lane 0).writing ∧
      (busy.lane 0).arrivals ≠ (busy.lane 0).p ∧ (sample.lane 0).writing < 2 ∧
      (((sample.setLane 0 { recording with arrivals := 2, newestAssigned := some 8 }).makeRoom 0).lane 0).freeSlots =
        3 :: [4, 5, 6, 7, 8, 9, 10, 11, 12, 13, 14, 15, 16, 17, 18, 19] ∧
      (((sample.setLane 0 { jammed with arrivals := 2, newestAssigned := some 8 }).makeRoom 0).lane 0).freeSlots = [] ∧
      jammed.writing < 2 ∧ Sparse.Sorted sample.clips := by decide +kernel

/-- LFN 8 falls in the range of clip 2, OPEN and locked, with the lane at its lock ceiling. -/
def ceiling : State := (sample.setLane 0 { recording with h := 1 }).setClip 2 { sample.clip 2 with opLock := true }

theorem test_a_clip_closes_at_the_ceiling :
    ceiling.lockedAt 0 8 = [2] ∧ (ceiling.lane 0).h ≤ (ceiling.lane 0).held ∧
      ((ceiling.frameArrives 0).clip 2).state = .closed ∧ ((ceiling.frameArrives 0).clip 2).out = some 7 ∧
      ((ceiling.frameArrives 0).clip 5).out = some 8 ∧ ((ceiling.frameArrives 0).lane 0).held = 1 := by decide +kernel

/-- LFN 7 has brought its two blocks and waits for its frame end, and the port has gone on to LFN 8. -/
def overtaken : State :=
  let lane := { recording with
    entries := recording.entries ++ [entry 8 3 .writing], freeSlots := recording.freeSlots.drop 1, arrivals := 2,
    newestAssigned := some 8, accepted := 4, port := .taking 8 2, unended := [{ lfn := 7, blocks := 2 }] }
  (sample.setLane 0 lane).setIngest 0
    [{ write with done := 2, waiting := [] }, { write with lfn := 8, slot := 3, firstBlock := 106, done := 2, waiting := [] }]

theorem test_the_newer_frame_may_complete_first :
    let t := overtaken.frameEnds 0 { frame := none, streamFault := false }
    (t.lane 0).newestGood = some 8 ∧ ((t.lane 0).entryAt 7).map Entry.status = some .writing ∧
      let u := t.frameEnds 0 { frame := some 7, streamFault := false }
      ((u.lane 0).entryAt 7).map Entry.status = some .good ∧ u.ingest 0 = [] ∧ (u.lane 0).unended = [] := by decide +kernel

/-- Every slot taken; LFN 5 is claimed, LFN 6 may go. -/
def crowded : Lane :=
  { recording with
    k := 3, h := 0, held := 0, freeSlots := [],
    entries := [{ entry 5 0 .good with readCount := 1 }, entry 6 1 .good, entry 7 2 .writing] }

theorem meets_EvictionTakesTheOldestUnprotected :
    (sample.lane 0).freeSlots ≠ [] ∧ crowded.sound ∧ crowded.freeSlots = [] ∧
      crowded.entries = [{ entry 5 0 .good with readCount := 1 }] ++ entry 6 1 .good :: [entry 7 2 .writing] ∧
      ({ entry 5 0 .good with readCount := 1 } : Entry).readCount ≠ 0 ∧ (entry 6 1 .good).status ≠ .writing ∧
      ∀ c ∈ sample.clips, ¬(c.2.locked = true ∧ c.2.lane = 0 ∧ c.2.covers 6 = true) := by
  refine ⟨by decide +kernel, ⟨?_, ?_, ?_, ?_, ?_, ?_, ?_, ?_, ?_, ?_⟩, ?_⟩ <;> decide +kernel

theorem meets_TheHeldCountFollowsLocks :
    sample.unheldIn 0 { lo := 6, hi := some 7 } = 2 ∧ (sample.lane 0).held + 2 ≤ (sample.lane 0).h ∧
      ({ recording with h := 2 } : Lane).h < recording.held + 2 := by decide +kernel

theorem meets_SignalAndDamageAreTakenByTheLane :
    (sample.lane 0).signal = true ∧ (sample.lane 1).signal = false ∧ (sample.lane 0).ends none 7 1 .idle [] ∧
      (sample.lane 0).ends (some 7) 7 1 .idle [] ∧ (overtaken.lane 0).ends (some 7) 7 2 (.taking 8 2) [] ∧
      1 ≠ (sample.lane 0).s ∧ (sample.lane 0).entries = [entry 5 0 .good, entry 6 1 .good] ++ entry 7 2 .writing :: [] ∧
      (entry 7 2 .writing).lfn = 7 ∧ (entry 7 2 .writing).status = .writing := by
  refine ⟨by decide +kernel, by decide +kernel, .inl ⟨.inl rfl, by decide +kernel⟩,
    .inl ⟨.inr ⟨rfl, by decide +kernel⟩, by decide +kernel⟩,
    .inr ⟨rfl, fun k h => ?_, rfl, [], [], rfl, by decide, rfl⟩, by decide +kernel⟩
  have e : (overtaken.lane 0).port = .taking 8 2 := by decide +kernel
  rw [e] at h; cases h

/-! ### Clips -/

theorem meets_ClipMarkCreatesOrMovesPoints :
    sample.names markFields 0 5 ∧ sample.names { markFields with source := 1, value := 0 } 0 5 ∧
      sample.names { markFields with source := 2 } 0 6 ∧ (sample.lane 0).admitsIn 5 ∧ (sample.lane 0).admitsIn 7 ∧
      (sample.lane 0).admitsOut 8 ∧ (sample.clip 6).state = .free ∧ (∀ m : Fin 6, 1 ≤ m.val → (sample.clip m.val).state ≠ .free) ∧
      (sample.clip 2).marked 7 0 5 { sample.clip 2 with inLfn := 5 } false ∧
      (sample.clip 1).marked 7 0 6 { sample.clip 1 with inLfn := 6 } false ∧
      (sample.clip 1).marked 7 0 7 { sample.clip 1 with inLfn := 6, out := some 7 } true ∧
      (sample.clip 4).marked 7 0 5 { sample.clip 4 with state := .opened, inLfn := 5, out := none, planned := none } false ∧
      (sample.clip 2).marked 7 1 8 { sample.clip 2 with planned := some 8 } false ∧
      (sample.clip 2).marked 7 1 7 { sample.clip 2 with state := .closed, out := some 7 } false ∧
      (sample.clip 2).marked 7 1 5 { sample.clip 2 with state := .closed, inLfn := 5, out := some 6 } true ∧
      (sample.lane 0).sound ∧ entry 7 2 .writing ∈ (sample.lane 0).entries ∧ (∀ e ∈ (sample.lane 0).entries, e.lfn ≠ 4) ∧
      sample.entryTimecode 0 7 = some { hh := 0, mm := 0, ss := 1, ff := 7 } := by
  refine ⟨.inl (by decide), .inr (.inl ⟨by decide, 0, { lane := 0, lfn := 5, slot := 0 }, by decide +kernel⟩),
    .inr (.inr (by decide +kernel)), ⟨_, _, _, rfl, rfl, by decide, by decide⟩, ⟨_, _, _, rfl, rfl, by decide, by decide⟩,
    ⟨_, _, rfl, by decide⟩, by decide +kernel, by decide +kernel, .inl (by decide +kernel),
    .inr (.inl ⟨rfl, rfl, ⟨6, by decide +kernel⟩, by decide +kernel⟩),
    .inr (.inr (.inl ⟨rfl, rfl, ⟨6, by decide +kernel⟩, rfl⟩)), .inr (.inr (.inr (.inl (by decide +kernel)))),
    .inr (.inr (.inr (.inr (.inl (by decide +kernel))))), .inr (.inr (.inr (.inr (.inr (.inl (by decide +kernel)))))),
    .inr (.inr (.inr (.inr (.inr (.inr (by decide +kernel)))))), sample_lanes_sound.1, by decide +kernel, by decide +kernel,
    by decide +kernel⟩

theorem meets_ClipSpanSetsBothPoints :
    spanFields.lane = (0 : Fin 8).val ∧ (sample.lane 0).newestAssigned = some 7 ∧ (sample.clip 6).state = .free ∧
      sample.effective unitHeader ≤ spanFields.el ∧ (sample.clip 1).state ≠ .free ∧
      sample.effective unitHeader ≤ (sample.clip 1).el ∧ (sample.clip 1).locked = false ∧ (sample.clip 1).lane = 0 ∧
      max 5 7 ≤ 7 ∧ ¬max 5 8 ≤ 7 := by decide +kernel

theorem meets_ClipLockAndUnlock :
    (sample.clip 1).state ≠ .free ∧ (sample.clip 1).state ≠ .absent ∧ sample.effective unitHeader ≤ (sample.clip 1).el ∧
      (sample.clip 1).opLock = false ∧ (sample.clip 1).exportLock = false ∧
      (sample.clip 1).range = some { lo := 5, hi := some 6 } ∧ sample.admitLock 0 { lo := 5, hi := some 6 } ≠ none ∧
      (sample.setLane 0 { recording with h := 1 }).admitLock 0 { lo := 5, hi := some 6 } = none ∧ (sample.clip 3).opLock = true ∧
      ((sample.setClip 1 { sample.clip 1 with exportLock := true }).clip 1).exportLock = true := by decide +kernel

theorem meets_ClipDeleteRightsAndLabel :
    (sample.clip 2).state ≠ .free ∧ (sample.clip 2).locked = false ∧ (sample.clip 2).useCount = 0 ∧
      sample.effective unitHeader ≤ (sample.clip 2).el ∧ (List.replicate 16 (0x7E : Byte)).length ≤ 16 ∧
      ∀ b ∈ List.replicate 16 (0x7E : Byte), 0x20 ≤ b.toNat ∧ b.toNat ≤ 0x7E := by decide +kernel

theorem meets_ClipEnumerationReadsTheTable :
    (sample.clip 2).state ≠ .free ∧ (∀ k, 1 < k → k < 2 → (sample.clip k).state = .free) ∧ (sample.clip 1023).state = .free ∧
      (∀ k, 5 < k → (sample.clip k).state = .free) ∧ sample.effective unitHeader ≤ (sample.clip 1).vl ∧ 1023 < 1024 ∧
      (sample.setClip 2 { sample.clip 2 with vl := 2, el := 0 }).Ready { unitHeader with claimed := 3 } .clipRead ∧
      ((sample.setClip 2 { sample.clip 2 with vl := 2, el := 0 }).clip 2).vl < sample.effective { unitHeader with claimed := 3 } := by
  refine ⟨by decide +kernel, fun k h1 h2 => absurd h2 (by omega), by decide +kernel, fun k h => ?_, by decide +kernel, by decide,
    ⟨by decide +kernel, rfl, by decide +kernel, fun h => by cases h⟩, by decide +kernel⟩
  simp [State.clip, sample, Sparse.lookup, show ¬ 1 = k by omega, show ¬ 2 = k by omega, show ¬ 3 = k by omega,
    show ¬ 4 = k by omega, show ¬ 5 = k by omega, Clip.free]

/-! ### Mark lines, jogs and levers -/

/-- The sample with its mark line 0, on lane 0, given an action and a working clip, or with line 0 on channel 0. -/
def lined (action : LineAction) (working : Nat) : State :=
  sample.setMark 0 { sample.mark 0 with action, workingClip := working }

def onChannel (action : LineAction) (working : Nat) (c : Fin 4) : State :=
  sample.setMark 0 { sample.mark 0 with action, workingClip := working, binding := .channel c }

theorem meets_MarkLinesAreConfiguredAndTakeEdges :
    lineFields.line = (0 : Fin 8).val ∧ lineFields.action = LineAction.markIn.code ∧ lineFields.bindKind = 1 ∧
      lineFields.bindLane = (0 : Fin 8).val ∧ lineFields.edge = 0 ∧ lineFields.holdOff ≤ 15 ∧ lineFields.preRoll ≤ 65535 ∧
      lineFields.postRoll ≤ 65535 ∧ lineFields.vl ≤ 3 ∧ lineFields.el ≤ lineFields.vl ∧ lineFields.lockOnCreate ≤ 1 ∧
      lineFields.actingLevel ≤ 3 ∧ lineFields.snapLane = (7 : Fin 8).val ∧ lineFields.snapDelay ≤ 65535 ∧
      (∀ k : Fin 8, k ≠ 0 → (sample.mark k).binding ≠ .lane 0) ∧
      (∀ k : Fin 8, k ≠ 1 → (sample.mark k).binding = .lane 0 → (sample.mark k).workingClip = 2) ∧
      (sample.mark 0).level = false ∧ (sample.mark 0).edge = .rising ∧ (sample.mark 0).action ≠ .none ∧
      (sample.mark 0).counter = 0 ∧ (sample.mark 1).action = .none ∧
      ((sample.setMark 0 { sample.mark 0 with counter := 15 }).mark 0).counter = 15 ∧
      ((sample.setMark 0 { sample.mark 0 with counter := 1 }).mark 0).counter = 1 := by decide +kernel

theorem meets_MarkActionsMarkAndLock :
    (sample.lane 0).newestGood = some 6 ∧ (sample.lane 0).newestAssigned = some 7 ∧ (sample.lane 0).entries ≠ [] ∧
      (sample.channel 0).onAir = some { lane := 0, lfn := 5, slot := 0 } ∧
      ((onChannel .markIn 0 0).mark 0).binding = .channel 0 ∧ ((lined .markIn 0).mark 0).workingClip = 0 ∧
      (sample.clip 2).state = .opened ∧ (sample.clip 2).lane = 0 ∧ (sample.mark 0).actingLevel ≤ (sample.mark 0).el ∧
      (sample.mark 0).actingLevel ≤ (sample.clip 2).el ∧ (sample.lane 0).admitsIn 6 ∧ (sample.lane 0).admitsOut 6 ∧
      (sample.lane 0).admitsOut (min 4294967295 (6 + (sample.mark 0).postRoll)) ∧ (sample.clip 6).state = .free ∧
      (∀ k : Fin 6, 1 ≤ k.val → (sample.clip k.val).state ≠ .free) ∧ (sample.clip 1).exportLock = false ∧
      (sample.clip 1).opLock = false ∧ (sample.clip 3).opLock = true ∧ (sample.clip 3).exportLock = false ∧
      (sample.clip 3).range = some { lo := 5, hi := some 5 } := by
  refine ⟨?_, ?_, ?_, ?_, ?_, ?_, ?_, ?_, ?_, ?_, ⟨_, _, _, rfl, rfl, by decide, by decide⟩, ⟨_, _, rfl, by decide⟩,
    ⟨_, _, rfl, by decide⟩, ?_, ?_, ?_, ?_, ?_, ?_, ?_⟩ <;> decide +kernel

/-- The Clip Table with no FREE record. -/
def fullTable : State := { sample with clips := (List.range' 1 1023).map fun n => (n, clip .opened 6 none none) }

theorem fullTable_has_no_free_record (n : Nat) (h1 : 1 ≤ n) (h2 : n ≤ 1023) : (fullTable.clip n).state ≠ .free := by
  have sorted : Sparse.Sorted fullTable.clips :=
    List.pairwise_map.2 (by simpa using List.pairwise_lt_range' (s := 1) (n := 1023))
  have listed : (n, clip .opened 6 none none) ∈ fullTable.clips :=
    List.mem_map.2 ⟨n, List.mem_range'_1.2 ⟨h1, by omega⟩, rfl⟩
  unfold State.clip
  rw [Sparse.lookup_of_mem sorted listed]
  decide

/-- Line 0 of the sample with acting level 3, and clip 2 out of its reach. -/
def humble (action : LineAction) (working el : Nat) : State :=
  (sample.setClip 2 { sample.clip 2 with el := 2 }).setMark 0 { sample.mark 0 with action, workingClip := working, actingLevel := 3, el }

/-- Frame 4, evicted below the floor, on air on channel 0, with line 0 bound to it. -/
def behind (action : LineAction) (working : Nat) : State :=
  (onChannel action working 0).setChannel 0 { playing with onAir := some { lane := 0, lfn := 4, slot := 9 } }

theorem meets_IgnoredMarkActionsAreReported :
    ((onChannel .markOut 0 1).mark 0).binding = .channel 1 ∧ ((onChannel .markOut 0 1).channel 1).onAir = none ∧
      ((onChannel .markOut 0 0).channel 0).onAir = some { lane := 0, lfn := 5, slot := 0 } ∧
      (((onChannel .markOut 0 0).setLane 0 { recording with entries := [] }).lane 0).entries = [] ∧
      ((onChannel .markOut 0 0).lane 0).entries ≠ [] ∧ ((onChannel .markOut 0 0).mark 0).workingClip = 0 ∧
      ((onChannel .markOut 1 0).clip 1).state ≠ .opened ∧ ((onChannel .markOut 2 0).clip 2).state = .opened ∧
      (((onChannel .markOut 2 0).setClip 2 { clip .opened 6 none none with lane := 1 }).clip 2).lane ≠ 0 ∧
      ((onChannel .continuePlay 0 0).mark 0).action = .continuePlay ∧
      ((sample.setMark 0 { sample.mark 0 with action := .markOut, binding := .lane 1 }).lane 1).newestGood = none := by
  decide +kernel

/-- The refusals of a mark action that has captured a frame, on a lane and on a channel. -/
theorem meets_IgnoredMarkActionsAfterTheCapture :
    ((lined .markOut 0).mark 0).binding = .lane 0 ∧ ((lined .markOut 0).lane 0).newestGood = some 6 ∧
      ((lined .markOut 0).mark 0).workingClip = 0 ∧
      (((lined .markOut 2).setClip 2 { clip .opened 6 none none with lane := 1 }).clip 2).lane ≠ 0 ∧
      ((humble .markOut 2 0).clip 2).state = .opened ∧ ((humble .markOut 2 0).clip 2).lane = 0 ∧
      ((humble .markOut 2 0).clip 2).el < ((humble .markOut 2 0).mark 0).actingLevel ∧
      ((humble .markIn 0 2).mark 0).el < ((humble .markIn 0 2).mark 0).actingLevel ∧
      ((behind .markOut 2).channel 0).onAir = some { lane := 0, lfn := 4, slot := 9 } ∧
      ((behind .markOut 2).lane 0).entries ≠ [] ∧ ¬((behind .markOut 2).lane 0).admitsIn 4 ∧
      ¬((behind .markOut 2).lane 0).admitsOut (min 4294967295 (4 + ((behind .markSnap 0).mark 0).postRoll)) ∧
      ((behind .markOut 2).channel 0).level ≤ ((behind .markOut 2).clip 2).el ∧
      ((behind .markIn 0).channel 0).level ≤ ((behind .markIn 0).mark 0).el ∧ (fullTable.mark 0).action = .markIn ∧
      (fullTable.mark 0).binding = .lane 0 ∧ (fullTable.lane 0).newestGood = some 6 ∧ (fullTable.lane 0).admitsIn 6 ∧
      (fullTable.lane 0).admitsOut 6 := by
  refine ⟨?_, ?_, ?_, ?_, ?_, ?_, ?_, ?_, ?_, ?_, ?_, ?_, ?_, ?_, ?_, ?_, ?_, ⟨_, _, _, rfl, rfl, by decide, by decide⟩,
    ⟨_, _, rfl, by decide⟩⟩
  case refine_11 => rintro ⟨e, rest, a, h, -, h', -⟩; cases h; exact absurd h' (by decide)
  case refine_12 => rintro ⟨e, rest, h, h'⟩; cases h; exact absurd h' (by decide +kernel)
  all_goals decide +kernel

def clicked (count : BitVec 16) (binding : Option (Fin 4)) : State :=
  sample.setJog 0 { sample.jog 0 with count, binding }

theorem meets_JogsCountEdgesAndGiveDetents :
    (sample.jog 0).a = false ∧ (sample.jog 0).b = false ∧ (sample.jog 0).counts = 4 ∧
      (false, false, true, false) ∈ [(false, false, true, false), (true, false, true, true), (true, true, false, true),
        (false, true, false, false)] ∧
      (false, true, false, false) ∈ [(false, false, true, false), (true, false, true, true), (true, true, false, true),
        (false, true, false, false)] ∧
      ((clicked 9 (some 2)).jog 0).count.toInt = 2 * 4 + (1 : BitVec 16).toInt ∧
      ((clicked 0x8000 none).jog 0).count.toInt = -8192 * 4 + (0 : BitVec 16).toInt := by decide +kernel

theorem test_a_tick_takes_whole_detents :
    (((clicked 0xFFF6 (some 2)).tickAction (.jog 0)).jog 0).count.toInt = -2 ∧
      (((clicked 0xFFF6 (some 2)).tickAction (.jog 0)).jog 0).motions =
        [{ channel := 2, detents := -2, step := 1, takeover := true }] := by decide +kernel

theorem meets_JogAndLeverCommandsConfigure :
    jogFields.bindKind = 0 ∧ jogFields.channel = (3 : Fin 4).val ∧ jogFields.takeover ≤ 1 ∧ jogFields.counts = 4 ∧
      jogFields.step ≤ 16 ∧ leverFields.bindKind = 1 ∧ leverFields.centre ≤ 1023 ∧ leverFields.halfWidth ≤ 255 ∧
      (List.replicate 17 (8192 : Int)).length = 17 ∧ ∀ p ∈ List.replicate 17 (8192 : Int), -8192 ≤ p ∧ p ≤ 8192 := by
  decide +kernel

/-- Lever 1 is being converted, 3 is still to be. -/
def scanning : State := { sample with underWay := some 1, scanList := [3] }

theorem meets_LeversAreScannedAndConverted :
    scanning.scanList.Nodup ∧ (∀ v, scanning.underWay = some v → v ∉ scanning.scanList) ∧ scanning.resetHeld = false ∧
      sample.scanList.Nodup ∧ (sample.lever 0).curve.length = 17 ∧ (sample.lever 0).centre = 512 ∧
      (sample.lever 0).halfWidth = 16 ∧ (sample.lever 0).convert 528 = (0, true) ∧ (529 : Nat) = 64 * 8 + 17 ∧
      (sample.lever 0).curve[8]? = some 0 ∧ (sample.lever 0).curve[9]? = some 256 ∧
      (sample.lever 0).convert 529 = (68, false) ∧ (1023 : Nat) = 64 * 15 + 63 ∧ (sample.lever 0).curve[15]? = some 1792 ∧
      (sample.lever 0).curve[16]? = some 2048 ∧ (sample.lever 0).convert 1023 = (2044, false) ∧
      (sample.lever 0).convert 0 = (-2048, false) ∧ (sample.lever 1).binding = some 1 := by decide +kernel

def jogWaits (c : Fin 4) (takeover : Bool) : State :=
  sample.setJog 0 { sample.jog 0 with motions := [{ channel := c, detents := -2, step := 16, takeover }] }

def leverWaits (c : Fin 4) (inBand : Bool) : State :=
  sample.setLever 0 { sample.lever 0 with motions := [{ channel := c, target := -300, inBand, takeover := true }] }

theorem meets_MotionsReachTheirChannel :
    ((jogWaits 0 true).jog 0).motions = [{ channel := 0, detents := -2, step := 16, takeover := true }] ∧
      ((leverWaits 0 false).lever 0).motions = [{ channel := 0, target := -300, inBand := false, takeover := true }] ∧
      (∃ t, exec (.jogMotion 0) (jogWaits 0 true) = .next t ∧ (t.channel 0).state = .jog ∧ (t.channel 0).jogAcc = -32) ∧
      (∃ t, exec (.jogMotion 0) (jogWaits 1 false) = .next t ∧ (t.channel 1).state = .cued) ∧
      (∃ t, exec (.leverMotion 0) (leverWaits 0 false) = .next t ∧ (t.channel 0).state = .shuttle ∧
        (t.channel 0).target = -300 ∧ (t.channel 0).current = 256) ∧
      (∃ t, exec (.leverMotion 0) (leverWaits 1 true) = .next t ∧ (t.channel 1).state = .cued) := by
  refine ⟨by decide +kernel, by decide +kernel, ⟨_, rfl, ?_⟩, ⟨_, rfl, ?_⟩, ⟨_, rfl, ?_⟩, ⟨_, rfl, ?_⟩⟩ <;> decide +kernel

/-! ### Channels and running orders -/

/-- A channel in the sample's place of channel 0. -/
def withChannel (x : Channel) : State := sample.setChannel 0 x

def segment (clip : Nat) (start : Nat) (action : EndKind) (number : Int) : Segment :=
  { clip, hasStart := true, start, hasEnd := false, endOffset := 0, speed := -256, action, number }

def order : Running := { bank := 2, entry := 4, startOffset := 0, endOffset := 1 }

def saved : SavedContext :=
  { state := .cued, source := .clip 2, position := 6 * 256, current := 0, target := 0, ramp := 1, round := .floor, running := none,
    hold := false }

/-- Entries of bank 2: clip 1 at 4, and at 5 to 10 an empty entry, a clip in no record, ABSENT, OPEN, and too short; 4 is active on
channel 0. -/
def ordered : State :=
  let banks := sample.banks
  let bank : Vector Segment 32 := banks[2]
  { withChannel { playing with running := some order } with
    banks := banks.set 2 ((((((bank.set 4 (segment 1 0 .chain 7)).set 6 (segment 6 0 .stop 0)).set 7 (segment 4 0 .stop 0)).set 8
      (segment 2 0 .stop 0)).set 9 (segment 1 2 .stop 0)).set 10 (segment 3 0 .stop 0)) }

theorem meets_ChannelsAreTakenReleasedAndFlagged :
    (sample.channel 0).owner = some unitHeader.station ∧ (sample.channel 2).owner = none ∧
      ((withChannel { playing with owner := some 5 }).channel 0).owner = some 5 ∧ (5 : Fin 16) ≠ unitHeader.station ∧
      sample.effective unitHeader = 0 ∧ 0 < sample.effective { unitHeader with claimed := 1 } ∧
      ({ playing with flags := 1, enables := 0x3F } : Channel).flags.getLsbD Flag.repeated.code = true ∧
      ({ playing with enables := 0x3F } : Channel).flags.getLsbD Flag.segue.code = false ∧
      ({ playing with enables := 0x3F } : Channel).enables.getLsbD Flag.segue.code = true ∧
      ((withChannel { cued with enables := 0x3F }).channel 0).onAir = none ∧
      ((withChannel { playing with enables := 0x3F }).channel 0).onAir = some { lane := 0, lfn := 5, slot := 0 } := by
  decide +kernel

theorem meets_RangesAndUsesFollowTheSource :
    (ordered.channel 0).source = .clip 1 ∧ (ordered.channel 0).running = some order ∧ (sample.channel 0).running = none ∧
      (sample.clip 1).state = .closed ∧ (sample.clip 1).out = some 6 ∧ (sample.clip 4).state = .absent ∧
      (sample.clip 4).out = some 2 ∧ (sample.clip 5).state = .opened ∧ (sample.clip 5).planned = some 8 ∧
      (sample.channel 1).source = .lane 0 ∧ sample.channelRange (ordered.channel 0) = (5, 6) ∧
      sample.channelRange (sample.channel 1) = (5, 6) ∧ (sample.clip 1).useCount = 1 ∧ (sample.clip 2).state ≠ .free := by
  decide +kernel

theorem meets_CuesParkAndLiveFollows :
    (sample.channel 0).owner = some unitHeader.station ∧ (sample.clip 2).state = .opened ∧ (sample.clip 1).state = .closed ∧
      (sample.channel 0).level ≤ (sample.clip 1).vl ∧
      sample.channelRange { sample.channel 0 with source := .clip 1, running := none } = (5, 6) ∧
      (sample.lane 0).newestGood = some 6 ∧ ((sample.lane 0).entries.head?.map Entry.lfn).getD 0 = 5 := by decide +kernel

theorem meets_OwnersSteerTheirChannel :
    (sample.channel 0).owner = some unitHeader.station ∧ (sample.channel 0).state = .playing ∧
      (sample.channel 1).owner = some unitHeader.station ∧ (sample.channel 1).state = .cued ∧
      (ordered.channel 0).running ≠ none ∧ (ordered.channel 0).owner = some unitHeader.station ∧
      percentInexact 2 3 = true ∧ percentInexact 2 3200 = true ∧ percentInexact 2 125 = false ∧
      ((withChannel { playing with state := .paused, running := some order, hold := true }).channel 0).hold = true ∧
      (sample.channel 0).source = .clip 1 ∧ (sample.channel 1).source = .lane 0 ∧
      ({ playing with state := .live, source := .live 0 1 } : Channel).source = .live 0 1 ∧
      sample.rateMultiple (sample.channel 0) = 2 ∧ (ordered.channel 0).running = some order ∧
      ordered.segmentSpeed (ordered.channel 0) = -256 := by
  decide +kernel

theorem test_step_is_clamped :
    ∃ t, exec (.stepFrames unitHeader 1 1000) sample = .next t ∧ (t.channel 1).position = 6 * 256 ∧ (t.channel 1).flags = 2 := by
  refine ⟨_, rfl, ?_⟩; decide +kernel

theorem meets_SyncPlayRollsCuedChannels :
    (0x0F : BitVec 8).getLsbD 1 = true ∧ (sample.channel 1).owner = some unitHeader.station ∧ (sample.channel 1).state = .cued ∧
      (0x0F : BitVec 8).getLsbD 0 = true ∧ (sample.channel 0).state ≠ .cued ∧
      ∃ t, exec (.syncPlay unitHeader 0x0F { speedKind := 1, speed := 3200, ramp := 8192, round := 1 }) sample = .next t ∧
        (t.channel 1).state = .playing ∧ (t.channel 1).target = 1638 ∧ t.channel 0 = sample.channel 0 ∧
        t.link.notices.map Notice.data = [[0x19, 0], [0x16, 0], [0x16, 0]] := by
  refine ⟨by decide +kernel, by decide +kernel, by decide +kernel, by decide +kernel, by decide +kernel, ⟨_, rfl, ?_⟩⟩
  decide +kernel

theorem test_a_broadcast_out_of_range_is_refused_by_notices :
    ∃ t, exec (.syncPlay allHeader 0x06 { speedKind := 2, speed := 0, ramp := 1, round := 0 }) sample = .next t ∧
      t.link.notices.map (fun n => (n.subject, n.data)) = [(1, [0x13, 0]), (2, [0x13, 0])] := by
  refine ⟨_, rfl, ?_⟩; decide +kernel

theorem meets_SnapSavesAndResumeRestores :
    (sample.channel 0).owner = some unitHeader.station ∧ (sample.channel 0).saved = none ∧
      ((withChannel { playing with saved := some saved }).channel 0).saved = some saved ∧ saved.source = .clip 2 ∧
      (sample.clip 2).state ≠ .absent ∧ (sample.channel 0).level ≤ (sample.clip 2).vl ∧
      ({ saved with source := .clip 4 } : SavedContext).source = .clip 4 ∧ (sample.clip 4).state = .absent ∧
      ((sample.setClip 2 { sample.clip 2 with vl := 0, el := 0 }).clip 2).vl < ({ playing with level := 3 } : Channel).level ∧
      (sample.lane 0).newestGood = some 6 := by decide +kernel

/-- A running order just begun, its speed changed by a command before the tick. -/
def starting : State := ordered.setChannel 0 { ordered.channel 0 with request := some .start, target := 512, ramp := 8192 }

theorem meets_ChannelTicksPresentAndMove :
    (sample.channel 2).state = .idle ∧ (sample.channel 0).state = .playing ∧ (sample.channel 0).running = none ∧
      ((sample.presentation 0).channel 0).state = .playing ∧ ((sample.presentation 0).channel 0).running = none ∧
      ({ playing with next := some { lane := 0, lfn := 6, slot := 1 } } : Channel).next =
        some { lane := 0, lfn := 6, slot := 1 } ∧
      ({ playing with fetch := some { lane := 0, lfn := 6, slot := 1 } } : Channel).fetch ≠ none ∧
      (sample.channelRange (sample.channel 0)).1 * 256 ≤ (sample.channel 0).position + 256 ∧
      (sample.channel 0).position + 256 ≤ 6 * 256 ∧
      max 5 (sample.channelRange (sample.channel 0)).2 * 256 < ({ playing with position := 1500 } : Channel).position + 256 ∧
      ({ playing with state := .live, source := .live 0 1 } : Channel).source = .live 0 1 ∧
      ((ordered.presentation 0).channel 0).state = .playing ∧ ((ordered.presentation 0).channel 0).running = some order ∧
      ({ playing with state := .jog, running := some order, jogAcc := -65536 } : Channel).running = some order ∧
      ((starting.presentation 0).channel 0).state = .playing ∧ ((starting.presentation 0).channel 0).running ≠ none ∧
      ((starting.presentation 0).channel 0).request = some .start := by
  decide +kernel

theorem test_start_discards_the_ramp_too :
    let t := (starting.tickAction (.channel 0)).channel 0
    t.current = 256 ∧ t.target = 512 ∧ t.position = 6 * 256 ∧ t.request = none := by decide +kernel

/-- Playing past the last frame of its segment, whose end action chains to an empty entry. -/
theorem test_a_tick_steps_the_running_order :
    let t := (ordered.setChannel 0 { ordered.channel 0 with position := 6 * 256 }).tickAction (.channel 0)
    (t.channel 0).state = .paused ∧ (t.channel 0).position = 6 * 256 ∧ (t.channel 0).lastFault = some .emptyEntry := by
  decide +kernel

theorem test_a_tick_asks_for_the_next_frame :
    ((sample.tickAction (.channel 0)).channel 0).position = 6 * 256 ∧
      ((sample.tickAction (.channel 0)).channel 0).fetch = some { lane := 0, lfn := 6, slot := 1 } ∧
      (((withChannel { playing with position := 6 * 256 }).tickAction (.channel 0)).channel 0).state = .paused := by
  decide +kernel

theorem meets_SelectionChoosesTheEntry :
    (sample.channel 2).source = .none ∧ sample.sourceLane (sample.channel 0).source = some 0 ∧ (sample.lane 0).sound ∧
      (sample.channel 0).fetch = none ∧
      entry 5 0 .good ∈ (sample.lane 0).entries ∧ entry 6 1 .good ∈ (sample.lane 0).entries ∧
      (sample.channelRange (sample.channel 0)) = (5, 6) ∧
      (∃ o, (sample.channel 0).onAir = some o ∧ o.lane = 0 ∧ o.lfn = 5) ∧
      (∀ e ∈ (sample.lane 0).entries, e.lfn ≤ 6 → e.status = .good → e = entry 5 0 .good ∨ e = entry 6 1 .good) := by
  refine ⟨by decide +kernel, by decide +kernel, sample_lanes_sound.1, by decide +kernel, by decide +kernel, by decide +kernel,
    by decide +kernel, ⟨_, rfl, rfl, rfl⟩, by decide +kernel⟩

def records : List Segment := [segment 1023 4294967295 .skip (-16), segment 1 0 .goto 31]

theorem meets_BankWriteReplacesInactiveEntries :
    1 ≤ records.length ∧ 30 + records.length ≤ 32 ∧
      (∀ g ∈ records, g.clip ≤ 1023 ∧ g.start ≤ 4294967295 ∧ g.endOffset ≤ 4294967295 ∧ -8192 ≤ g.speed ∧ g.speed ≤ 8192 ∧
        (g.action = .skip → -16 ≤ g.number ∧ g.number ≤ 15) ∧ (g.action = .goto → 0 ≤ g.number ∧ g.number ≤ 31) ∧
        (g.action = .chain → 0 ≤ g.number ∧ g.number ≤ 7)) ∧
      (∀ c, (sample.channel c).running = none) ∧ (ordered.channel 0).running = some order ∧ order.bank = 2 ∧
      3 ≤ order.entry.val ∧ order.entry.val < 3 + records.length := by decide +kernel

theorem meets_SeguesPassOrFailByTheirChecks :
    (ordered.segueCheck 0 2 4).toOption ≠ none ∧ (ordered.segueCheck 0 2 5).toOption = none ∧
      (ordered.segment 2 5).clip = 0 ∧ (ordered.clip (ordered.segment 2 6).clip).state = .free ∧
      (ordered.clip (ordered.segment 2 7).clip).state = .absent ∧ (ordered.clip (ordered.segment 2 8).clip).state = .opened ∧
      (ordered.clip (ordered.segment 2 4).clip).vl < 4 ∧ (ordered.segment 2 9).start = 2 := by decide +kernel

theorem meets_RunAndSegueCommandTheOrder :
    (ordered.channel 0).owner = some unitHeader.station ∧ (ordered.channel 0).state = .playing ∧
      (ordered.channel 0).running ≠ none ∧ (ordered.channel 1).running = none ∧
      (∃ f, ordered.segueCheck (ordered.channel 0).level 2 6 = .error f) ∧
      (∃ t, ordered.segueCheck (ordered.channel 0).level 2 4 = .ok t) ∧
      ((withChannel { Channel.reset with owner := some 0 }).channel 0).state = .idle :=
  ⟨by decide +kernel, by decide +kernel, by decide +kernel, by decide +kernel, ⟨_, rfl⟩, ⟨_, rfl⟩, by decide +kernel⟩

theorem meets_BoundaryStepsFollowTheOrder :
    (ordered.channel 0).running = some order ∧ (ordered.channel 0).state = .playing ∧ (ordered.channel 0).request = none ∧
      0 < (ordered.channel 0).current ∧ (((ordered.channelRange (ordered.channel 0)).2 * 256 : Nat) : Int) < 1537 ∧
      (ordered.channelRange (ordered.channel 0)).2 = 6 ∧
      (ordered.segment order.bank order.entry).action = .chain ∧
      (ordered.segment order.bank order.entry).number = (7 : Fin 8).val ∧
      ((ordered.setChannel 0 { playing with running := some order, request := some .start }).channel 0).request = some .start ∧
      ((ordered.setChannel 0 { playing with state := .shuttle, running := some order, request := some .next }).channel 0).state =
        .shuttle ∧
      (∀ q : List SegueRequest, q = [.next, .release, .goto 31, .chain 7] → ∀ r ∈ q,
        ((ordered.setChannel 0 { playing with running := some order, request := some r }).channel 0).request = some r) ∧
      (∀ k : List EndKind, k = [.next, .hold, .loop, .skip, .goto, .stop] → ∀ a ∈ k, (segment 1 0 a 3).action = a) := by
  refine ⟨?_, ?_, ?_, ?_, ?_, ?_, ?_, ?_, ?_, ?_, ?_, ?_⟩
  rotate_left 10
  · rintro q rfl; decide +kernel
  · rintro k rfl; decide +kernel
  all_goals decide +kernel

/-! ### Transfers and the export -/

/-- A fetch of the frame of LFN 6 on channel 1, with no block granted; two blocks are in it. -/
def fetch (granted done : Nat) : Fetch :=
  { frame := { lane := 0, lfn := 6, slot := 1 }, firstBlock := 102, size := 2, granted, done }

def read : BlockRead := { block := 100, lane := 0, lfn := 5, index := 0 }

/-- With no frame write, a fetch, an export block read, and a block in service. -/
def moving (f : Option Fetch) (r : Option BlockRead) (v : Option InService) : State :=
  { sample with
    xrdy := true,
    xfer := { sample.xfer with ingest := Vector.replicate 8 [], fetch := sample.xfer.fetch.set 1 f, exportRead := r, service := v } }

theorem meets_TheArbiterGrantsByClassAndTurn :
    (moving none none (some { block := 1, use := .orphanRead })).xfer.service ≠ none ∧ sample.xfer.service = none ∧
      sample.ingest 0 = [] ++ write :: [] ∧ write.waiting = 9 :: [] ∧
      (∀ m : Fin 8, (∃ w ∈ sample.ingest m, w.waiting ≠ []) →
        ((0 : Fin 8) - sample.xfer.lastLane - 1).val ≤ (m - sample.xfer.lastLane - 1).val) ∧
      (∀ l, ¬∃ w ∈ (moving (some (fetch 0 0)) none none).ingest l, w.waiting ≠ []) ∧
      (moving (some (fetch 0 0)) none none).fetchOf 1 = some (fetch 0 0) ∧ (fetch 0 0).granted < (fetch 0 0).size ∧
      (∀ e : Fin 4, e ≠ 1 → (moving (some (fetch 0 0)) none none).fetchOf e = none) ∧
      (∀ e, (moving none (some read) none).fetchOf e = none) ∧ (moving none (some read) none).xrdy = true ∧
      (moving none (some read) none).xfer.exportRead = some read ∧ (moving none none none).xfer.exportRead = none := by
  decide +kernel

theorem test_the_grant_goes_around :
    (sample.grant.xfer.service = some { block := 104, use := .write 0 7 9 } ∧ sample.grant.xfer.lastLane = 0) ∧
      ((moving (some (fetch 1 1)) (some read) none).grant.xfer.service = some { block := 103, use := .fetch 1 1 }) := by
  decide +kernel

theorem meets_IngestPortsFeedTheirWrites :
    sample.resetHeld = false ∧ (sample.lane 0).port = .taking 7 1 ∧ 1 < (sample.lane 0).s ∧
      (overtaken.lane 0).ends (some 7) 7 recording.s (.taking 8 2) [] ∧ (overtaken.lane 0).ends none 8 2 .idle [{ lfn := 7, blocks := 2 }] ∧
      overtaken.ingest 0 = [] ++ { write with done := 2, waiting := [] } ::
        [{ write with lfn := 8, slot := 3, firstBlock := 106, done := 2, waiting := [] }] ∧
      (sample.setLane 0 { recording with port := .taking 7 2 }).ingest 0 = [] ++ write :: [] ∧ write.lfn = 7 ∧
      write.done ≠ write.size ∧ ({ write with done := 2 } : FrameWrite).done = write.size ∧
      ((sample.setLane 0 { recording with port := .taking 7 2 }).lane 0).port = .taking 7 recording.s ∧
      (sample.lane 1).port = .dropping ∧ (sample.lane 2).port = .idle ∧ (∀ f ∈ (sample.lane 1).unended, f.lfn ≠ 0) := by
  refine ⟨by decide +kernel, by decide +kernel, by decide +kernel,
    .inr ⟨rfl, fun k h => ?_, rfl, [], [], rfl, by decide, rfl⟩, .inl ⟨.inl rfl, by decide +kernel⟩, by decide +kernel⟩
  have e : (overtaken.lane 0).port = .taking 8 2 := by decide +kernel
  rw [e] at h; cases h

theorem meets_BlockCompletionsReachTheirRequester :
    ({ block := 262144, use := .orphanRead } : InService).block ≥ 262144 ∧ sample.grant.ingest 0 =
        [] ++ { write with granted := 1, waiting := [] } :: [] ∧
      sample.grant.xfer.service = some { block := 104, use := .write 0 7 9 } ∧
      (moving (some (fetch 2 1)) none (some { block := 103, use := .fetch 1 1 })).fetchOf 1 = some (fetch 2 1) ∧
      (fetch 2 1).done + 1 = (fetch 2 1).size ∧ (fetch 1 0).done + 1 ≠ (fetch 1 0).size ∧
      (moving none (some read) (some { block := 100, use := .exportRead })).xfer.exportRead = some read ∧
      (262143 : Nat) < 262144 := by decide +kernel

/-- The export of clip 1, reading LFN 5. -/
def exporting (abort : Bool) (last stall : Nat) : State :=
  { moving none (some read) none with
    xrdy := false,
    exporter := { Exporter.reset with
      state := .running, clip := 1, lane := 0, toOffset := 1, first := 5, last, next := 5,
      frame := some { lfn := 5, slot := 0, sent := 1, failed := false }, abort, stall } }

theorem meets_ExportStartLocksTakesAndWalks :
    (exporting false 6 0).exporter.state = .running ∧ sample.exporter.state = .idle ∧ (sample.clip 1).state = .closed ∧
      (sample.clip 1).out = some 6 ∧ sample.effective unitHeader ≤ (sample.clip 1).vl ∧
      (sample.clip 1).vl < 4 ∧ 0 ≤ 6 - (sample.clip 1).inLfn ∧ 6 - (sample.clip 1).inLfn < 2 ∧ (sample.clip 1).opLock = false ∧
      (sample.clip 1).exportLock = false ∧ (sample.clip 3).opLock = true ∧ (sample.clip 3).state = .closed ∧
      (sample.clip 4).state = .absent ∧ (sample.clip 2).state = .opened ∧ (sample.clip 6).state = .free ∧
      (∃ t, sample.admitLock 0 { lo := 5, hi := some 6 } = some t) ∧
      (sample.setLane 0 { recording with h := 1 }).admitLock 0 { lo := 5, hi := some 6 } = none := by
  refine ⟨?_, ?_, ?_, ?_, ?_, ?_, ?_, ?_, ?_, ?_, ?_, ?_, ?_, ?_, ?_, ⟨_, rfl⟩, ?_⟩ <;> decide +kernel

theorem meets_TheWalkSendsGapsAndBeginsFrames :
    (exporting false 6 0).exporter.next ≤ (exporting false 6 0).exporter.last ∧
      ((exporting false 6 0).lane 0).entries.Pairwise (fun i j => i.lfn < j.lfn) ∧
      entry 5 0 .good ∈ ((exporting false 6 0).lane 0).entries ∧ (entry 5 0 .good).lfn = (exporting false 6 0).exporter.next ∧
      (∀ en ∈ ((exporting false 6 0).lane 1).entries, en.lfn = 5 → en.status ≠ .good) ∧
      (exporting false 5 0).exporter.next = (exporting false 5 0).exporter.last ∧
      ((exporting false 6 0).clip (exporting false 6 0).exporter.clip).state ≠ .free := by decide +kernel

theorem meets_ExportBlocksMakeUpFrames :
    (exporting true 6 0).exporter.frame = some { lfn := 5, slot := 0, sent := 1, failed := false } ∧
      (exporting true 6 0).exporter.abort = true ∧ (exporting false 6 0).exporter.abort = false ∧
      ((exporting false 6 0).lane 0).s ≤ 1 + 1 ∧ (exporting false 5 0).exporter.last = 5 ∧
      (exporting false 6 0).exporter.last ≠ 5 ∧ 0 + 1 < ((exporting false 6 0).lane 0).s := by decide +kernel

theorem test_an_export_ends :
    (((exporting false 5 0).exportBlockDone false).exporter.lastResult = some .complete ∧
      ((exporting false 5 0).exportBlockDone false).exporter.damaged = 1 ∧
      ((exporting false 5 0).exportBlockDone false).emitted =
        [.portRecord ([3, 5, 0, 0, 0, 1]), .portRecord ([5, 0, 0, 0, 0, 0, 1, 0, 0, 0, 0, 0, 0, 0, 1, 0, 0, 0])]) := by
  decide +kernel

theorem test_gaps_that_wrap_are_still_told :
    let t := { exporting false 6 0 with exporter := { Exporter.reset with gaps := 0xFFFFFFFF } }.sendGap
    t.exporter.gaps = 0 ∧ exportEndData t.exporter .complete = [0, 0, 0, 0, 0, 0, 0, 1] := by decide +kernel

theorem meets_StallsAbortsAndTheReadyInput :
    (exporting false 6 99).exporter.state = .running ∧ (exporting false 6 99).xrdy = false ∧
      (exporting false 6 99).xfer.exportRead ≠ none ∧ (exporting false 6 99).xfer.service = none ∧
      0 < (exporting false 6 99).exporter.limit ∧
      (exporting false 6 99).exporter.limit ≤ min 255 ((exporting false 6 99).exporter.stall + 1) ∧
      ¬(exporting false 6 98).exporter.limit ≤ min 255 ((exporting false 6 98).exporter.stall + 1) ∧
      sample.exporter.state = .idle ∧ (exporting false 6 99).exporter.frame ≠ none := by decide +kernel

/-! ### Cue lines -/

def cue (mode : CueMode) (action : CueAction) (pulse : Nat) : CueLine :=
  { CueLine.powerOn with mode, action, pulse, compareLfn := 6, direction := .either, bank := 2, entry := 4 }

theorem meets_CueLinesFireAndWatchTheirChannel :
    cueFields.line = (7 : Fin 8).val ∧ cueFields.mode = CueMode.compare.code ∧ cueFields.channel = (3 : Fin 4).val ∧
      cueFields.direction = CueDirection.either.code ∧ cueFields.rearm = CueRearm.every.code ∧
      cueFields.action = (CueAction.pulse 255).code ∧ cueFields.n = 255 ∧ cueFields.bank = (7 : Fin 8).val ∧
      cueFields.entry = (31 : Fin 32).val ∧ (sample.cue 0).mode = .off ∧
      ((sample.setCue 0 (cue .compare (.pulse 1) 1)).cue 0).pulse = 1 ∧
      ((sample.setCue 0 (cue .compare (.pulse 255) 255)).cue 0).pulse = 255 ∧ (sample.cue 0).pulse = 0 ∧
      (cue .compare .set 0).armed = true ∧ 5 < (cue .compare .set 0).compareLfn ∧ (cue .compare .set 0).compareLfn ≤ 6 ∧
      (cue .segment .toggle 0).mode = .segment ∧ (cue .segment .toggle 0).bank = 2 ∧
      ((sample.setCue 0 (cue .state .set 0)).cue 0).mode = .state ∧ (sample.channel 0).state = .playing := by decide +kernel

theorem test_a_compare_line_fires :
    (((sample.setCue 0 (cue .compare (.pulse 3) 0)).reportFrame 0 (some { lane := 0, lfn := 5, slot := 0 })
        { lane := 0, lfn := 6, slot := 1 }).cue 0).pulse = 3 ∧
      (((sample.setCue 0 (cue .compare (.pulse 3) 0)).reportFrame 0 (some { lane := 0, lfn := 6, slot := 1 })
        { lane := 0, lfn := 6, slot := 1 }).cue 0).armed = true := by decide +kernel

/-! ### Reading, and the invariants -/

theorem meets_StatusCommandsChangeNothing :
    1 ≤ ([30, 31] : List (Fin 32)).length ∧ ([30, 31] : List (Fin 32)).length ≤ 8 ∧
      ([30, 31] : List (Fin 32)).map Fin.val = (List.range 2).map (30 + ·) ∧ ((7 : Fin 8).val, 4294967295) = (7, 2 ^ 32 - 1) := by
  decide +kernel

theorem sample_link_and_reference_sound : sample.link.sound ∧ sample.refu.sound ∧ Memory.wf sample.store := by
  refine ⟨⟨⟨?_, ?_⟩, ?_, ?_, ?_, ?_⟩, ⟨⟨?_, ?_, ?_, ?_, ?_, ?_⟩, ?_, ?_, ?_, ?_, ?_⟩, ?_⟩
  case refine_13 => intro c h; exact nomatch h
  case refine_16 => intro t h; exact nomatch h
  all_goals decide +kernel

theorem powerOn_lane_sound : Lane.powerOn.sound := by
  refine ⟨?_, ?_, ?_, ?_, ?_, ?_, ?_, ?_, ?_, ?_⟩ <;> decide +kernel

theorem sample_every_lane_sound : ∀ l, (sample.lane l).sound := by
  intro l
  by_cases h0 : l = 0
  · subst h0; exact sample_lanes_sound.1
  by_cases h1 : l = 1
  · subst h1; exact sample_lanes_sound.2
  have : sample.lane l = Lane.powerOn := by
    revert l; decide +kernel
  rw [this]; exact powerOn_lane_sound

/-- The protection of frames, by checks that can be evaluated. -/
theorem protectionSound_of {s : State} (held : ∀ l, (s.lane l).held = (s.heldEntries l).length)
    (newest : ∀ l, ∀ e ∈ (s.lane l).entries, ((s.lane l).newestAssigned.any fun a => decide (e.lfn ≤ a)) = true)
    (next : ∀ l, ((s.lane l).newestAssigned.all fun a => decide (a < (s.lane l).nextLfn)) = true)
    (marked : ∀ e ∈ s.clips, e.2.state = .opened ∨ e.2.state = .closed → (s.lane e.2.lane).newestAssigned ≠ none)
    (exported : ∀ e ∈ s.clips, e.2.exportLock = true → e.2.state = .closed)
    (exporting : s.exporter.state = .running → (s.clip s.exporter.clip).exportLock = true) : s.protectionSound := by
  refine ⟨held, fun l e he => ?_, fun l a ha => ?_, marked, exported, exporting⟩
  · have h := newest l e he
    cases hn : (s.lane l).newestAssigned with
    | none => rw [hn] at h; cases h
    | some a => rw [hn] at h; exact ⟨a, rfl, of_decide_eq_true h⟩
  · have h := next l
    rw [ha] at h
    exact of_decide_eq_true h

/-- The read claims, by checks that can be evaluated. -/
theorem claimsSound_of {s : State} (counts : ∀ l, ∀ e ∈ (s.lane l).entries, e.readCount = s.claims l e.lfn)
    (fetches : ∀ c, ((s.channel c).fetch.all fun r =>
      (s.lane r.lane).entries.any fun e => decide (e.lfn = r.lfn ∧ e.slot = r.slot ∧ e.status = .good)) = true)
    (frame : (s.exporter.frame.all fun f => (s.lane s.exporter.lane).entries.any fun e =>
      decide (e.lfn = f.lfn ∧ e.slot = f.slot ∧ e.status = .good)) = true)
    (queued : ∀ c, (s.fetchOf c).map Fetch.frame = (s.channel c).fetch) : s.claimsSound := by
  refine ⟨counts, fun c r hr => ?_, fun f hf => ?_, queued⟩
  · have h := fetches c
    rw [hr] at h
    obtain ⟨e, he, hd⟩ := List.any_eq_true.mp h
    exact ⟨e, he, of_decide_eq_true hd⟩
  · rw [hf] at frame
    obtain ⟨e, he, hd⟩ := List.any_eq_true.mp frame
    exact ⟨e, he, of_decide_eq_true hd⟩

theorem sample_protection_sound : sample.protectionSound := by
  apply protectionSound_of <;> decide +kernel

theorem sample_claims_sound : sample.claimsSound := by
  apply claimsSound_of <;> decide +kernel

/-- A fetch of LFN 6 in flight, and an export of clip 3 with LFN 5 in progress. -/
def claimed : State :=
  let frame : FrameRef := { lane := 0, lfn := 6, slot := 1 }
  { (sample.setLane 0 { recording with
      entries := [{ entry 5 0 .good with readCount := 1 }, { entry 6 1 .good with readCount := 1 }, entry 7 2 .writing] }).setFetch 1
        (some { frame, firstBlock := 102, size := 2, granted := 0, done := 0 }) with
    channels := sample.channels.set 1 { cued with fetch := some frame }
    clips := sample.clips.map fun e => if e.1 = 3 then (3, { e.2 with exportLock := true, useCount := 1 }) else e
    exporter :=
      { Exporter.reset with
        state := .running, clip := 3, first := 5, last := 5, next := 5, frame := some { lfn := 5, slot := 0, sent := 0, failed := false } } }

theorem claimed_is_sound : claimed.protectionSound ∧ claimed.claimsSound := by
  constructor
  · apply protectionSound_of <;> decide +kernel
  · apply claimsSound_of <;> decide +kernel

/-- Neither claimed frame goes to make room; LFN 5 is held as well. -/
theorem test_claims_and_holds_are_counted :
    claimed.claims 0 5 = 1 ∧ claimed.claims 0 6 = 1 ∧ claimed.claims 0 7 = 0 ∧ (claimed.heldEntries 0).map Entry.lfn = [5] ∧
      claimed.evictable 0 = none := by decide +kernel

/-- The premises of the three statements on what every step keeps, in one state that steps to a next one. -/
theorem meets_EveryStepKeeps :
    (∃ t, step { sample with pending := [.markEdge 0 true] } = .next t) ∧ sample.link.sound ∧ sample.refu.sound ∧
      Memory.wf sample.store ∧ (∀ l, (sample.lane l).sound) ∧ sample.clipsSound ∧ sample.usesSound ∧
      sample.protectionSound ∧ sample.claimsSound :=
  ⟨⟨_, rfl⟩, sample_link_and_reference_sound.1, sample_link_and_reference_sound.2.1, sample_link_and_reference_sound.2.2,
    sample_every_lane_sound, sample_clips_sound, sample_uses_sound, sample_protection_sound, sample_claims_sound⟩

/-- The Reference Unit of the statement on a pulse and an expiry at one instant. -/
theorem meets_PulseAndExpiryTogether : sample.refu.sound ∧ locked.refu.sound := by
  refine ⟨sample_link_and_reference_sound.2.1, ⟨⟨?_, ?_, ?_, ?_, ?_, ?_⟩, ?_, ?_, ?_, ?_, ?_⟩⟩
  case refine_7 => intro c h; exact nomatch h
  case refine_10 => intro t h; exact nomatch h
  all_goals decide +kernel

end Sys2Proof.Tests
end

/-!
PROOFS. Selection (R121, R122): what a partition's choice is, and what a channel makes of it.
-/

namespace Sys2Proof.Machine

/-! ### Lists of entries in rising order of LFN -/

/-- No two entries share an LFN, so an entry that none exceeds is the last. -/
theorem getLast?_of_rising {es : List Entry} {e : Entry} (rising : es.Pairwise fun a b => a.lfn < b.lfn) (he : e ∈ es)
    (newest : ∀ y ∈ es, y.lfn ≤ e.lfn) : es.getLast? = some e := by
  obtain ⟨front, back, rfl⟩ := List.append_of_mem he
  obtain ⟨-, risingFrom, -⟩ := List.pairwise_append.mp rising
  have noneAfter : back = [] := List.eq_nil_iff_forall_not_mem.mpr fun y hy =>
    absurd (newest y (by simp [hy])) (Nat.not_le.mpr (List.rel_of_pairwise_cons risingFrom hy))
  simp [noneAfter]

theorem head?_of_rising {es : List Entry} {e : Entry} (rising : es.Pairwise fun a b => a.lfn < b.lfn) (he : e ∈ es)
    (oldest : ∀ y ∈ es, e.lfn ≤ y.lfn) : es.head? = some e := by
  obtain ⟨front, back, rfl⟩ := List.append_of_mem he
  obtain ⟨-, -, risingTo⟩ := List.pairwise_append.mp rising
  have noneBefore : front = [] := List.eq_nil_iff_forall_not_mem.mpr fun y hy =>
    absurd (oldest y (by simp [hy])) (Nat.not_le.mpr (risingTo y hy e List.mem_cons_self))
  simp [noneBefore]

/-! ### The choice of an entry (R121) -/

/-- The GOOD entries of the partition from LFN `a` to LFN `b`. -/
def Lane.goodEntries (x : Lane) (a b : Nat) : List Entry := x.entries.filter fun e => e.isGood && a ≤ e.lfn && e.lfn ≤ b

theorem Lane.mem_goodEntries {x : Lane} {a b : Nat} {e : Entry} :
    e ∈ x.goodEntries a b ↔ (e ∈ x.entries ∧ e.status = .good) ∧ a ≤ e.lfn ∧ e.lfn ≤ b := by
  simp [Lane.goodEntries, Entry.isGood, and_assoc]

theorem Lane.sound.goodEntries_rising {x : Lane} (h : x.sound) (a b : Nat) :
    (x.goodEntries a b).Pairwise fun y z => y.lfn < z.lfn := h.rising.filter _

theorem Lane.choose_eq (x : Lane) (lo n hi : Nat) :
    x.choose lo n hi = (x.goodEntries lo n).getLast?.or (x.goodEntries n hi).head? := by
  unfold Lane.choose Lane.goodEntries
  cases (x.entries.filter fun e => e.isGood && lo ≤ e.lfn && e.lfn ≤ n).getLast? <;> rfl

theorem Lane.choose_eq_none {x : Lane} {lo n hi : Nat} (before : ∀ y, y ∉ x.goodEntries lo n)
    (after : ∀ y, y ∉ x.goodEntries n hi) : x.choose lo n hi = none := by
  rw [Lane.choose_eq, List.eq_nil_iff_forall_not_mem.mpr before, List.eq_nil_iff_forall_not_mem.mpr after]
  rfl

theorem Lane.sound.choose_newest_before {x : Lane} (h : x.sound) {lo n hi : Nat} {e : Entry} (he : e ∈ x.goodEntries lo n)
    (newest : ∀ y ∈ x.goodEntries lo n, y.lfn ≤ e.lfn) : x.choose lo n hi = some e := by
  rw [Lane.choose_eq, getLast?_of_rising (h.goodEntries_rising lo n) he newest]
  rfl

theorem Lane.sound.choose_oldest_after {x : Lane} (h : x.sound) {lo n hi : Nat} {e : Entry}
    (before : ∀ y, y ∉ x.goodEntries lo n) (he : e ∈ x.goodEntries n hi)
    (oldest : ∀ y ∈ x.goodEntries n hi, e.lfn ≤ y.lfn) : x.choose lo n hi = some e := by
  rw [Lane.choose_eq, List.eq_nil_iff_forall_not_mem.mpr before, head?_of_rising (h.goodEntries_rising n hi) he oldest]
  rfl

/-- NEAREST carries into the LFN when the fraction is 128/256 or more. -/
theorem roundLfn_eq (m : RoundMode) (position : Nat) :
    roundLfn m position =
      if m = .floor then position / 256 else position / 256 + (if 128 ≤ position % 256 then 1 else 0) := by
  cases m with
  | floor => rfl
  | nearest =>
    simp only [roundLfn, reduceCtorEq, if_false]
    split <;> omega

/-! ### The request of a fetch (R122) -/

theorem State.placeClaim_channel (s : State) (l : Fin 8) (n : Nat) (c : Fin 4) :
    (s.placeClaim l n).channel c = s.channel c := rfl

/-- A claim changes entries alone, so every slot keeps its blocks. -/
theorem State.placeClaim_blocks (s : State) (l : Fin 8) (n : Nat) :
    ((s.placeClaim l n).lane l).base = (s.lane l).base ∧ ((s.placeClaim l n).lane l).s = (s.lane l).s := by
  simp [State.placeClaim, Lane.modifyEntry]

theorem State.requestFetch_eq (s : State) (c : Fin 4) (r : FrameRef) :
    s.requestFetch c r =
      (((s.placeClaim r.lane r.lfn).setChannel c { s.channel c with fetch := some r }).setFetch c
        (some { frame := r, firstBlock := (s.lane r.lane).base + r.slot * (s.lane r.lane).s, size := (s.lane r.lane).s,
                granted := 0, done := 0 })).grant := by
  obtain ⟨base, size⟩ := s.placeClaim_blocks r.lane r.lfn
  simp only [State.requestFetch, State.handFetch, Lane.slotBlock, State.placeClaim_channel,
    State.lane_congr (State.setChannel_lanes (s.placeClaim r.lane r.lfn) c _), base, size]

/-! ### Selection, case by case (R121) -/

/-- What selection looks for: the choice of the lane `l` in the channel's range for the LFN its position rounds to. -/
def State.chosenEntry (s : State) (c : Fin 4) (l : Fin 8) : Option Entry :=
  let range := s.channelRange (s.channel c)
  (s.lane l).choose range.1 (roundLfn (s.channel c).round (s.channel c).position) (max range.1 range.2)

/-- REPEAT is set when the LFN chosen is another than the position's. -/
def State.noteRepeat (s : State) (c : Fin 4) (e : Entry) : State :=
  if e.lfn = roundLfn (s.channel c).round (s.channel c).position then s else s.setFlag c .repeated

@[simp] theorem State.noteRepeat_lanes (s : State) (c : Fin 4) (e : Entry) : (s.noteRepeat c e).lanes = s.lanes := by
  unfold State.noteRepeat
  split <;> simp

/-- The channel's frame on air is that of the lane's entry. -/
def Channel.airs (x : Channel) (l : Fin 8) (e : Entry) : Prop := ∃ o, x.onAir = some o ∧ o.lane = l ∧ o.lfn = e.lfn

theorem Channel.airs_iff (x : Channel) (l : Fin 8) (e : Entry) :
    x.airs l e ↔ (x.onAir.any fun o => o.lane == l && o.lfn == e.lfn) = true := by
  simp [Channel.airs, Option.any_eq_true]

theorem State.selection_of_no_source {s : State} {c : Fin 4} (h : (s.channel c).source = .none) : s.selection c = s := by
  simp [State.selection, State.sourceLane, h]

section
variable {s : State} {c : Fin 4} {l : Fin 8} (source : s.sourceLane (s.channel c).source = some l)
include source

theorem State.selection_of_fetch (h : (s.channel c).fetch ≠ none) : s.selection c = s := by
  simp [State.selection, source, Option.isSome_iff_ne_none, h]

theorem State.selection_of_no_entry (idle : (s.channel c).fetch = none) (h : s.chosenEntry c l = none) :
    s.selection c = s.setFlag c .repeated := by
  unfold State.chosenEntry at h
  simp [State.selection, source, idle, h]

theorem State.selection_of_entry {e : Entry} (idle : (s.channel c).fetch = none) (h : s.chosenEntry c l = some e) :
    s.selection c =
      if (s.channel c).onAir.any fun o => o.lane == l && o.lfn == e.lfn then s.noteRepeat c e
      else (s.noteRepeat c e).requestFetch c { lane := l, lfn := e.lfn, slot := e.slot } := by
  unfold State.chosenEntry at h
  simp only [State.selection, source, idle, h, State.noteRepeat, ite_not, Option.isSome_none, Bool.false_eq_true, if_false]

theorem State.selection_of_on_air {e : Entry} (idle : (s.channel c).fetch = none) (h : s.chosenEntry c l = some e)
    (airs : (s.channel c).airs l e) : s.selection c = s.noteRepeat c e := by
  rw [State.selection_of_entry source idle h, if_pos ((Channel.airs_iff _ l e).mp airs)]

/-- The blocks handed over are those of the slot before the event: REPEAT and the claim move none. -/
theorem State.selection_of_off_air {e : Entry} (idle : (s.channel c).fetch = none) (h : s.chosenEntry c l = some e)
    (off : ¬(s.channel c).airs l e) :
    let r : FrameRef := { lane := l, lfn := e.lfn, slot := e.slot }
    s.selection c =
      ((((s.noteRepeat c e).placeClaim l e.lfn).setChannel c { (s.noteRepeat c e).channel c with fetch := some r }).setFetch c
        (some { frame := r, firstBlock := (s.lane l).base + e.slot * (s.lane l).s, size := (s.lane l).s, granted := 0,
                done := 0 })).grant := by
  rw [State.selection_of_entry source idle h, if_neg (mt (Channel.airs_iff _ l e).mpr off), State.requestFetch_eq,
    State.lane_congr (State.noteRepeat_lanes s c e)]

end

/-- Settles O43: the lane's soundness makes the choice the entry that R121 names, and each case of selection follows from it. -/
theorem selectionChoosesTheEntry : Obligations.SelectionChoosesTheEntry := by
  unfold Obligations.SelectionChoosesTheEntry
  intro s c
  refine ⟨State.selection_of_no_source, fun l source sound => ?_⟩
  simp only [← Lane.mem_goodEntries, ← roundLfn_eq]
  refine ⟨State.selection_of_fetch source, fun idle noEntry => ?_, fun idle e chosen => ?_⟩
  · exact State.selection_of_no_entry source idle
      (Lane.choose_eq_none (fun y => (noEntry y).1) fun y => (noEntry y).2)
  · have found : s.chosenEntry c l = some e := by
      obtain ⟨he, newest⟩ | ⟨noneBefore, he, oldest⟩ := chosen
      · exact sound.choose_newest_before he newest
      · exact sound.choose_oldest_after noneBefore he oldest
    exact ⟨State.selection_of_on_air source idle found, State.selection_of_off_air source idle found⟩

end Sys2Proof.Machine

/-!
PROOFS. POLL (R199): which notices it takes from the queue, and in which order.
-/

namespace Sys2Proof.Machine

/-! ### The lowest level of a queue -/

/-- The lowest level is 15 or that of some notice, and it exceeds neither 15 nor any notice's level. -/
theorem lowestLevel_isLeast (level : NoticeClass → Nat) (l : List Notice) :
    lowestLevel level l ∈ 15 :: l.map (fun n => level n.cls) ∧
      ∀ v ∈ 15 :: l.map (fun n => level n.cls), lowestLevel level l ≤ v := by
  rw [← List.min?_eq_some_iff, List.min?_cons', List.foldl_map, lowestLevel]

theorem lowestLevel_le {level : NoticeClass → Nat} {l : List Notice} {n : Notice} (hn : n ∈ l) :
    lowestLevel level l ≤ level n.cls :=
  (lowestLevel_isLeast level l).2 _ (List.mem_cons_of_mem _ (List.mem_map_of_mem hn))

/-- The cap of 15 is no level of its own while every notice's level is in range. -/
theorem exists_lowestLevel {level : NoticeClass → Nat} {l : List Notice} (nonempty : l ≠ [])
    (inRange : ∀ n ∈ l, level n.cls ≤ 15) : ∃ n ∈ l, level n.cls = lowestLevel level l := by
  obtain capped | attained := List.mem_cons.mp (lowestLevel_isLeast level l).1
  · obtain ⟨n, hn⟩ := List.exists_mem_of_ne_nil l nonempty
    have := lowestLevel_le (level := level) hn
    have := inRange n hn
    exact ⟨n, hn, by omega⟩
  · exact List.mem_map.mp attained

/-! ### One notice taken -/

@[simp] theorem takeUrgent_zero (level : NoticeClass → Nat) (l : List Notice) : takeUrgent level 0 l = ([], l) := rfl

@[simp] theorem takeUrgent_nil (level : NoticeClass → Nat) (k : Nat) : takeUrgent level k [] = ([], []) := by
  cases k <;> rfl

/-- `n` is the most urgent notice of `l`: none has a lower level, and none before it has its level. -/
structure MostUrgent (level : NoticeClass → Nat) (l before : List Notice) (n : Notice) (after : List Notice) : Prop where
  split  : l = before ++ n :: after
  lowest : ∀ x ∈ l, level n.cls ≤ level x.cls
  oldest : ∀ x ∈ before, level n.cls ≠ level x.cls

theorem MostUrgent.rest_sublist {level : NoticeClass → Nat} {l before after : List Notice} {n : Notice}
    (h : MostUrgent level l before n after) : (before ++ after).Sublist l :=
  h.split ▸ (List.sublist_cons_self n after).append_left before

/-- While there is a notice, the most urgent one is taken first, and the rest are taken from the queue without it. -/
theorem takeUrgent_succ {level : NoticeClass → Nat} {l : List Notice} (nonempty : l ≠ [])
    (inRange : ∀ n ∈ l, level n.cls ≤ 15) (k : Nat) :
    ∃ before n after, MostUrgent level l before n after ∧
      takeUrgent level (k + 1) l =
        (n :: (takeUrgent level k (before ++ after)).1, (takeUrgent level k (before ++ after)).2) := by
  obtain ⟨m, hm, atLowest⟩ := exists_lowestLevel nonempty inRange
  obtain ⟨n, before, after, noneBefore, hn, split, erased⟩ :=
    List.exists_of_eraseP (p := fun x => level x.cls == lowestLevel level l) hm (by simp [atLowest])
  have found : (l.find? fun x => level x.cls == lowestLevel level l) = some n :=
    List.find?_eq_some_iff_append.mpr ⟨hn, before, after, split, by simpa using noneBefore⟩
  have levelOf : level n.cls = lowestLevel level l := by simpa using hn
  refine ⟨before, n, after, ⟨split, fun x hx => levelOf ▸ lowestLevel_le hx, fun x hx same => ?_⟩, ?_⟩
  · exact noneBefore x hx (by simp [← same, levelOf])
  · rw [takeUrgent, found, erased]

/-! ### Up to `k` notices taken -/

/-- R199's account of taking up to `k` notices of `l`: they come out in order of level, ahead of those left, and a queue's order
is kept among those left and within each level. -/
structure TakesMostUrgent (level : NoticeClass → Nat) (k : Nat) (l taken left : List Notice) : Prop where
  count     : taken.length = min k l.length
  perm      : (taken ++ left).Perm l
  leftOrder : left.Sublist l
  rising    : taken.Pairwise fun a b => level a.cls ≤ level b.cls
  ahead     : ∀ a ∈ taken, ∀ b ∈ left, level a.cls ≤ level b.cls
  oldest    : ∀ v, taken.filter (fun n => level n.cls == v) ++ left.filter (fun n => level n.cls == v) =
    l.filter fun n => level n.cls == v

theorem TakesMostUrgent.nothing_taken {level : NoticeClass → Nat} {k : Nat} {l : List Notice} (h : min k l.length = 0) :
    TakesMostUrgent level k l [] l where
  count := h.symm
  perm := .refl _
  leftOrder := .refl _
  rising := .nil
  ahead := by simp
  oldest := by simp

theorem TakesMostUrgent.cons {level : NoticeClass → Nat} {k : Nat} {l before after taken left : List Notice} {n : Notice}
    (first : MostUrgent level l before n after) (rest : TakesMostUrgent level k (before ++ after) taken left) :
    TakesMostUrgent level (k + 1) l (n :: taken) left := by
  have leftOrder := rest.leftOrder.trans first.rest_sublist
  obtain ⟨rfl, lowest, noneBefore⟩ := first
  have perm : (n :: taken ++ left).Perm (before ++ n :: after) := (rest.perm.cons n).trans List.perm_middle.symm
  have nFirst : ∀ x ∈ taken ++ left, level n.cls ≤ level x.cls := fun x hx =>
    lowest x (perm.subset (List.mem_cons_of_mem n hx))
  refine ⟨?count, perm, leftOrder, ?rising, ?ahead, fun v => ?oldest⟩
  case count => simp only [List.length_cons, List.length_append, rest.count]; omega
  case rising => exact .cons (fun a ha => nFirst a (List.mem_append_left _ ha)) rest.rising
  case ahead =>
    intro a ha b hb
    obtain rfl | ha := List.mem_cons.mp ha
    · exact nFirst b (List.mem_append_right _ hb)
    · exact rest.ahead a ha b hb
  case oldest =>
    have restOldest := rest.oldest v
    by_cases hv : level n.cls = v
    · have noneOfLevel : before.filter (fun x => level x.cls == v) = [] :=
        List.filter_eq_nil_iff.mpr fun x hx same => noneBefore x hx (by simpa [hv] using (beq_iff_eq.mp same).symm)
      simpa [hv, noneOfLevel] using restOldest
    · simpa [hv] using restOldest

theorem takeUrgent_takesMostUrgent (level : NoticeClass → Nat) (k : Nat) (l : List Notice)
    (inRange : ∀ n ∈ l, level n.cls ≤ 15) :
    TakesMostUrgent level k l (takeUrgent level k l).1 (takeUrgent level k l).2 := by
  induction k generalizing l with
  | zero => exact .nothing_taken (Nat.zero_min _)
  | succ k ih =>
    by_cases empty : l = []
    · subst empty
      simpa using TakesMostUrgent.nothing_taken (level := level) (Nat.min_zero (k + 1))
    · obtain ⟨before, n, after, first, taken⟩ := takeUrgent_succ empty inRange k
      rw [taken]
      exact .cons first (ih _ fun x hx => inRange x (first.rest_sublist.subset hx))

/-! ### The command -/

/-- A POLL that is taken answers OK with the notices it takes, and leaves the others. -/
theorem exec_poll_of_ready {s : State} {h : Header} (ready : s.Ready h .poll) :
    let r := takeUrgent s.classLevel 8 s.link.notices
    exec (.poll h) s =
      .next ({ s with link := { s.link with notices := r.2 } }.answers h .poll .ok
        (BitVec.ofNat 8 r.1.length :: r.1.flatMap Notice.bytes)) :=
  congrArg Host.Outcome.next (takeCommand_ready ready _)

theorem State.attn_iff (s : State) : s.attn = true ↔ s.link.notices ≠ [] := by
  simp [State.attn]

/-- Settles O6, by induction on the number of notices taken: each is the oldest at the lowest level of what is left. -/
theorem pollReturnsTheMostUrgent : Obligations.PollReturnsTheMostUrgent := by
  unfold Obligations.PollReturnsTheMostUrgent
  intro s h ready inRange
  have taking := takeUrgent_takesMostUrgent s.classLevel 8 s.link.notices inRange
  exact ⟨_, _, exec_poll_of_ready ready, taking.count, taking.perm, taking.leftOrder, taking.rising, taking.ahead,
    taking.oldest, State.attn_iff⟩

end Sys2Proof.Machine

/-!
PROOFS. The taking of commands: the request that each host command makes of its block, what every request leaves alone, and what a
completed frame comes to.
-/

namespace Sys2Proof.Machine

/-! ### The request of a command -/

/-- What the owning block answers a host command, at an effective level (R192 check 7); the other events make no request. -/
def requestOf (i : Instr) (level : Nat) (s : State) : Answer :=
  match i with
  | .poll _ =>
    let r := takeUrgent s.classLevel 8 s.link.notices
    (s.setLink { s.link with notices := r.2 }).accept (pollBytes r.1)
  | .unitStatus _ => s.accept s.unitStatusBytes
  | .unitReset _ => s.unitReset.accept []
  | .stationSet _ station ceiling => s.stationSetRequest station ceiling
  | .noticeLevels _ levels =>
    match levels? levels with
    | none => s.refuse .badField
    | some v => (s.setLevels v).accept (v.toList.flatMap (leBytes 1))
  | .refConfig _ n w f => if refConfigValid n w f then (s.setRefu { s.refu with pending := some { n, w, f } }).accept [] else s.refuse .badField
  | .timeSet _ hh mm ss ff =>
    if hh ≤ 23 ∧ mm ≤ 59 ∧ ss ≤ 59 ∧ ff < (s.refu.pending.getD s.refu.config).f then
      (s.setRefu { s.refu with waiting := some { hh, mm, ss, ff } }).accept []
    else s.refuse .badField
  | .laneConfig _ fields => s.laneConfigRequest fields
  | .recStart _ mask =>
    let a := (maskLanes mask).foldl recStartOne (s, [])
    a.1.accept (maskByte (maskOf a.2))
  | .recStop _ mask =>
    let a := (maskLanes mask).foldl recStopOne (s, [])
    a.1.accept (maskByte (maskOf a.2))
  | .indexRead _ lane startLfn =>
    match fin? 8 lane with
    | none => s.refuse .badField
    | some l => if startLfn ≤ maxLfn then s.accept ((s.lane l).indexBytes s.fresh startLfn) else s.refuse .badField
  | .laneStatus _ lane =>
    match fin? 8 lane with
    | none => s.refuse .badField
    | some l => s.accept ((s.lane l).statusBytes s.fresh)
  | .clipMark _ fields => s.clipMarkRequest fields level
  | .clipSpan _ fields =>
    match fin? 8 fields.lane with
    | none => s.refuse .badField
    | some l =>
      if 1023 < fields.clip ∨ maxLfn < fields.inLfn ∨ maxLfn < fields.outLfn then s.refuse .badField
      else if fields.clip = 0 ∨ (s.clip fields.clip).state = .free then s.createBySpan fields.clip l fields level
      else s.spanExisting fields.clip l fields level
  | .clipLock _ clip => s.withEdit clip level fun c => s.lockRequest clip c
  | .clipUnlock _ clip => s.withEdit clip level fun c => s.unlockRequest clip c
  | .clipDelete _ clip => s.withEdit clip level fun c => s.deleteRequest clip c
  | .clipRights _ clip vl el =>
    if 3 < vl ∨ 3 < el then s.refuse .badField
    else s.withEdit clip level fun c =>
      if levelsAllowed level vl el then (s.setClip clip { c with vl, el }).accept (leBytes 1 vl ++ leBytes 1 el)
      else s.refuse .badField
  | .clipLabel _ clip length text =>
    if labelValid length text then s.withEdit clip level fun c => (s.setClip clip { c with label := text }).accept []
    else s.refuse .badField
  | .clipRead _ clip => s.withClip clip fun c => if level > c.vl then s.refuse .rights else s.accept (c.bytes s.fresh)
  | .clipNext _ clip =>
    if 1023 < clip then s.refuse .badField
    else s.accept (leBytes 2 (s.nextClip clip).1 ++ leBytes 1 (s.nextClip clip).2.code)
  | .rightsProbe _ clip => if clip = 0 ∨ 1023 < clip then s.refuse .badField else s.accept ((s.clip clip).probeBytes level)
  | .lineConfig _ fields => s.lineConfigRequest fields
  | .jogConfig _ fields => s.jogConfigRequest fields
  | .jogStatus _ jog =>
    match fin? 4 jog with
    | none => s.refuse .badField
    | some j => (s.setJog j { s.jog j with glitch := false }).accept (s.jog j).statusBytes
  | .leverConfig _ fields => s.leverConfigRequest fields
  | .curveLoad _ lever points =>
    match fin? 4 lever with
    | none => s.refuse .badField
    | some v =>
      if curveValid points then (s.setLever v { s.lever v with curve := points }).accept [] else s.refuse .badField
  | .leverStatus _ lever =>
    match fin? 4 lever with
    | none => s.refuse .badField
    | some v => s.accept (s.leverStatusBytes v)
  | .channelTake h channel =>
    match fin? 4 channel with
    | none => s.refuse .badField
    | some c => s.takeChannel c h.station level
  | .channelRelease h channel => s.owned h channel fun c => (s.setChannel c { s.channel c with owner := none }).accept []
  | .cueClip h channel clip offset =>
    if clipNumber clip ∧ offset ≤ maxLfn then s.owned h channel fun c => s.cueClipRequest c clip offset
    else s.refuse .badField
  | .cueLane h channel lane newest lfn =>
    match fin? 8 lane, flag? newest with
    | some l, some f => if lfn ≤ maxLfn then s.owned h channel fun c => s.cueLaneRequest c l f lfn else s.refuse .badField
    | some _, none => s.refuse .badField
    | none, some _ => s.refuse .badField
    | none, none => s.refuse .badField
  | .live h channel lane delay =>
    match fin? 8 lane with
    | none => s.refuse .badField
    | some l => if delay ≤ 65535 then s.owned h channel fun c => s.liveRequest c l delay else s.refuse .badField
  | .play h channel fields =>
    match playFields? fields with
    | none => s.refuse .badField
    | some (f, ramp, round) => s.owned h channel fun c => s.playRequest c f ramp round
  | .pause h channel => s.owned h channel fun c => s.pauseRequest c
  | .speed h channel kind value ramp =>
    match plainSpeed? kind value, rampStep? ramp with
    | some f, some r => s.owned h channel fun c => s.speedRequest c f r
    | some _, none => s.refuse .badField
    | none, some _ => s.refuse .badField
    | none, none => s.refuse .badField
  | .stepFrames h channel count => if -1000 ≤ count ∧ count ≤ 1000 then s.owned h channel fun c => s.stepRequest c count else s.refuse .badField
  | .continuePlay h channel => s.owned h channel fun c => s.continueRequest c
  | .snap h fields =>
    match fields.kind with
    | 0 => match fin? 8 fields.lane with
      | none => s.refuse .badField
      | some l =>
        if fields.delay ≤ 65535 then s.owned h fields.channel fun c => s.snapLaneRequest c l fields.delay
        else s.refuse .badField
    | 1 =>
      if clipNumber fields.clip ∧ fields.offset ≤ maxLfn then
        s.owned h fields.channel fun c => s.snapClipRequest c fields.clip fields.offset
      else s.refuse .badField
    | _ => s.refuse .badField
  | .resume h channel => s.owned h channel fun c => s.resumeRequest c (s.channel c).level
  | .saveDiscard h channel => s.owned h channel fun c => (s.discardSave c).accept []
  | .syncPlay h mask fields => s.syncRequest h mask fields
  | .channelStatus _ channel =>
    match fin? 4 channel with
    | none => s.refuse .badField
    | some c => s.accept (s.channelStatusBytes (s.channel c))
  | .flagsClear h channel mask =>
    s.owned h channel fun c =>
      (s.setChannel c { s.channel c with flags := (s.channel c).flags &&& ~~~mask }).flagsReply c
  | .flagEnables h channel mask => s.owned h channel fun c => (s.setChannel c { s.channel c with enables := mask &&& flagMask }).flagsReply c
  | .bankWrite _ bank first count records => s.bankWriteRequest bank first count records
  | .bankRead _ bank first count =>
    match bankRange? bank first count with
    | none => s.refuse .badField
    | some (b, es) =>
      s.accept (leBytes 1 es.length ++ es.flatMap (fun e => (s.segment b e).bytes) ++
        leBytes 1 es.length ++ es.flatMap fun e => maskByte (maskOf (s.activeOn b e)))
  | .runOrder h channel bank entry =>
    match fin? 8 bank with
    | some b => if entry ≤ 255 then s.owned h channel fun c => s.runRequest c b entry else s.refuse .badField
    | none => s.refuse .badField
  | .segue h channel kind number =>
    match segueTarget? kind number with
    | some q => s.owned h channel fun c => s.segueRequest c q
    | none => s.refuse .badField
  | .exportStart _ clip fromOffset toOffset tag =>
    if 1 ≤ clip ∧ clip ≤ 1023 ∧ fromOffset ≤ maxLfn ∧ toOffset ≤ maxLfn ∧ tag ≤ maxLfn then
      s.exportStartRequest clip fromOffset toOffset tag level
    else s.refuse .badField
  | .exportAbort _ =>
    if s.exporter.state = .idle then s.refuse .wrongState
    else (s.setExporter { s.exporter with abort := true }).accept []
  | .exportConfig _ limit => if limit ≤ 255 then (s.setExporter { s.exporter with limit }).accept [] else s.refuse .badField
  | .exportStatus _ => s.accept s.exportStatusBytes
  | .cueLineConfig _ fields => s.cueConfigRequest fields
  | .cueLineFire _ line =>
    match fin? 8 line with
    | none => s.refuse .badField
    | some k => s.cueFireRequest k
  | .cueLineStatus _ line =>
    match fin? 8 line with
    | none => s.refuse .badField
    | some k => s.accept (s.cue k).statusBytes
  | _ => s.refuse .badKind

/-- Every host command is taken with its request (R192). -/
theorem exec_of_command {i : Instr} {k : Kind} {h : Header} (c : commandOf i = some (k, h)) (s : State) :
    exec i s = .next (s.takeCommand k h (requestOf i)) := by
  cases i <;> cases c <;> rfl

/-- The commands that frames carry run as they do on their own. -/
theorem runCommand_of_command {i : Instr} {k : Kind} {h : Header} (c : commandOf i = some (k, h)) (s : State) :
    runCommand i s = s.takeCommand k h (requestOf i) := by
  cases i <;> cases c <;> rfl

theorem runCommand_of_event {i : Instr} (c : commandOf i = none) (s : State) : runCommand i s = s := by
  cases i <;> first | rfl | cases c

/-- A unit-addressed command that is ready is answered by its request. -/
theorem exec_of_ready {i : Instr} {k : Kind} {h : Header} {s : State} (c : commandOf i = some (k, h)) (ready : s.Ready h k) :
    exec i s =
      .next ((requestOf i (s.effective h) s).state.answers h k (requestOf i (s.effective h) s).status
        (requestOf i (s.effective h) s).body) := by
  rw [exec_of_command c, takeCommand_ready ready]
  rfl

theorem exec_of_readyAll {i : Instr} {k : Kind} {h : Header} {s : State} (c : commandOf i = some (k, h))
    (ready : s.ReadyAll h k) : exec i s = .next (requestOf i (s.effective h) s).state := by
  rw [exec_of_command c, takeCommand_readyAll ready]

/-! ### What every request leaves alone -/

theorem State.Quiet.linkSound {s t : State} (q : s.Quiet t) (sound : s.link.sound) : t.link.sound := by
  obtain ⟨-, -, -, replies, -, stations, levels, notices⟩ := q.link
  refine ⟨notices sound.notices, ?_, replies ▸ sound.replies, ?_, ?_⟩
  · simpa only [levels] using sound.levels
  · simpa only [stations] using sound.ceilings
  · simpa only [stations] using sound.master

/-- What a request leaves alone: the RESET pin, the frame store, XRDY, the queue of events and the replies; the Link Interface and
the Reference Unit stay sound. -/
structure State.Served (s t : State) : Prop where
  resetHeld  : t.resetHeld = s.resetHeld
  store      : t.store = s.store
  storeEpoch : t.storeEpoch = s.storeEpoch
  xrdy       : t.xrdy = s.xrdy
  pending    : t.pending = s.pending
  replies    : t.link.replies = s.link.replies
  link       : s.link.sound → t.link.sound
  refu       : s.refu.sound → t.refu.sound

theorem State.Quiet.served {s t : State} (q : s.Quiet t) : s.Served t where
  resetHeld := q.resetHeld
  store := q.store
  storeEpoch := q.storeEpoch
  xrdy := q.xrdy
  pending := q.pending
  replies := q.link.replies
  link := q.linkSound
  refu sound := q.refu ▸ sound

theorem State.Served.of_setLink {s : State} {k : Link} (replies : k.replies = s.link.replies)
    (sound : s.link.sound → k.sound) : s.Served (s.setLink k) :=
  ⟨rfl, rfl, rfl, rfl, rfl, replies, sound, id⟩

theorem State.Served.of_setRefu {s : State} {r : Refu} (sound : s.refu.sound → r.sound) : s.Served (s.setRefu r) :=
  ⟨rfl, rfl, rfl, rfl, rfl, rfl, id, sound⟩

/-- Notices that leave the queue leave it sound. -/
theorem Link.noticesSound.sublist {k : Link} {l : List Notice} (sound : k.noticesSound) (h : l.Sublist k.notices) :
    { k with notices := l }.noticesSound :=
  ⟨h.length_le.trans sound.1, fun n hn => sound.2 n (h.subset hn)⟩

theorem takeUrgent_sublist (level : NoticeClass → Nat) (k : Nat) (l : List Notice) : (takeUrgent level k l).2.Sublist l := by
  induction k generalizing l with
  | zero => exact .refl l
  | succ k ih =>
    unfold takeUrgent
    split
    · exact .refl l
    · exact (ih _).trans List.eraseP_sublist

theorem poll_served (s : State) (n : Nat) (h : Header) : s.Served (requestOf (.poll h) n s).state :=
  .of_setLink rfl fun sound =>
    ⟨sound.notices.sublist (takeUrgent_sublist s.classLevel 8 s.link.notices), sound.levels, sound.replies, sound.ceilings,
      sound.master⟩

theorem unitReset_served (s : State) : s.Served s.unitReset :=
  ⟨rfl, rfl, rfl, rfl, rfl, rfl, fun sound =>
    ⟨sound.notices.sublist (List.nil_sublist _), sound.levels, sound.replies, sound.ceilings, sound.master⟩, id⟩

theorem refuse_served (s : State) (st : Status) : s.Served (s.refuse st).state := (State.quiet_refl s).served

/-- STATION SET keeps every ceiling in range and a station with ceiling 0 (R195). -/
theorem stationSet_served (s : State) (station ceiling : Nat) : s.Served (s.stationSetRequest station ceiling).state := by
  unfold State.stationSetRequest
  split
  · exact refuse_served s _
  · next st _ =>
    simp only []
    split
    · next valid =>
      obtain ⟨inRange, master⟩ := valid
      refine .of_setLink rfl fun sound => ⟨sound.notices, sound.levels, sound.replies, fun i => ?_, ?_⟩
      · have := sound.ceilings i
        simp only [Fin.getElem_fin, Vector.getElem_set] at this ⊢
        split <;> omega
      · obtain ⟨i, hi, at_i⟩ := List.mem_iff_getElem.mp (List.contains_iff_mem.mp master)
        exact ⟨⟨i, by simpa using hi⟩, by simpa using at_i⟩
    · exact refuse_served s _

theorem levels?_inRange {l : List Nat} {v : Vector Nat 11} (h : levels? l = some v) (i : Fin 11) : v[i] ≤ 15 := by
  unfold levels? at h
  split at h
  · next size =>
    split at h
    · next all =>
      cases h
      have bound : i.val < l.length := by simpa [← size] using i.isLt
      simpa using List.all_eq_true.mp all _ (List.getElem_mem bound)
    · cases h
  · cases h

/-- NOTICE LEVELS takes notices of silenced classes from the queue (R200). -/
theorem noticeLevels_served (s : State) (n : Nat) (h : Header) (levels : List Nat) :
    s.Served (requestOf (.noticeLevels h levels) n s).state := by
  simp only [requestOf]
  split
  · exact refuse_served s _
  · next v hv =>
    refine .of_setLink rfl fun sound =>
      ⟨⟨(List.length_filter_le _ _).trans sound.notices.1, fun x hx => ?_⟩, levels?_inRange hv, sound.replies, sound.ceilings,
        sound.master⟩
    simpa using (List.mem_filter.mp hx).2

theorem refConfigValid_iff (n w f : Nat) : refConfigValid n w f = true ↔ RefConfig.valid { n, w, f } := by
  simp [refConfigValid, RefConfig.valid, and_assoc]

theorem refConfig_served (s : State) (lv : Nat) (h : Header) (n w f : Nat) :
    s.Served (requestOf (.refConfig h n w f) lv s).state := by
  simp only [requestOf]
  split
  · next valid =>
    refine .of_setRefu fun sound => ⟨sound.config, fun c hc => ?_, sound.holdover, sound.timecode, sound.waiting, sound.timer⟩
    cases hc
    exact (refConfigValid_iff n w f).mp valid
  · exact refuse_served s _

theorem timeSet_served (s : State) (lv : Nat) (h : Header) (hh mm ss ff : Nat) :
    s.Served (requestOf (.timeSet h hh mm ss ff) lv s).state := by
  simp only [requestOf]
  split
  · next valid =>
    refine .of_setRefu fun sound => ⟨sound.config, sound.pending, sound.holdover, sound.timecode, fun t ht => ?_, sound.timer⟩
    cases ht
    simp only
    omega
  · exact refuse_served s _

/-- The requests to the lanes, clips, lines, jogs, levers, channels, orders, export and cue lines are quiet. -/
theorem requestOf_quiet (i : Instr) (n : Nat) (s : State)
    (other : ∀ h, i ≠ .poll h ∧ i ≠ .unitReset h ∧ (∀ a b, i ≠ .stationSet h a b) ∧ (∀ l, i ≠ .noticeLevels h l) ∧
      (∀ a b c, i ≠ .refConfig h a b c) ∧ ∀ a b c d, i ≠ .timeSet h a b c d) :
    s.Quiet (requestOf i n s).state := by
  have quiet := s.quiet_refl
  cases i
  case poll h => exact absurd rfl (other h).1
  case unitReset h => exact absurd rfl (other h).2.1
  case stationSet h a b => exact absurd rfl ((other h).2.2.1 a b)
  case noticeLevels h l => exact absurd rfl ((other h).2.2.2.1 l)
  case refConfig h a b c => exact absurd rfl ((other h).2.2.2.2.1 a b c)
  case timeSet h a b c d => exact absurd rfl ((other h).2.2.2.2.2 a b c d)
  case recStart h m => exact State.quiet_fold2 (p := (s, [])) quiet State.recStartOne_quiet (maskLanes m)
  case recStop h m => exact State.quiet_fold2 (p := (s, [])) quiet State.recStopOne_quiet (maskLanes m)
  case clipRead h n => exact State.quiet_withClip quiet _ fun c => by split <;> exact quiet
  case channelRelease h c => exact State.quiet_owned quiet _ _ fun c => by simp
  case saveDiscard h c => exact State.quiet_owned quiet _ _ fun c => by simp
  case clipRights h n vl el =>
    simp only [requestOf]
    split
    · exact quiet
    · exact State.quiet_withEdit quiet _ _ fun c => by split <;> simp
  case clipLabel h n k text =>
    simp only [requestOf]
    split
    · exact State.quiet_withEdit quiet _ _ fun c => by simp
    · exact quiet
  all_goals
    simp only [requestOf]
    (repeat' split) <;> simp (maxDischargeDepth := 60) [State.quiet_owned, State.quiet_withEdit]

theorem requestOf_served (i : Instr) (n : Nat) (s : State) : s.Served (requestOf i n s).state := by
  cases i
  case poll h => exact poll_served s n h
  case unitReset h => exact unitReset_served s
  case stationSet h a b => exact stationSet_served s a b
  case noticeLevels h l => exact noticeLevels_served s n h l
  case refConfig h a b c => exact refConfig_served s n h a b c
  case timeSet h a b c d => exact timeSet_served s n h a b c d
  all_goals exact (requestOf_quiet _ n s (by simp)).served

/-! ### What a refusal leaves alone (R192) -/

/-- The answer is no refusal, or one that leaves the state alone and has no body. -/
def Answer.RefusesCleanly (a : Answer) (s : State) : Prop := a.status.success = false → a.state = s ∧ a.body = []

@[simp] theorem State.accept_refusesCleanly (s t : State) (body : List Byte) : (t.accept body).RefusesCleanly s := nofun

@[simp] theorem State.refuse_refusesCleanly (s : State) (st : Status) : (s.refuse st).RefusesCleanly s := fun _ => ⟨rfl, rfl⟩

@[simp] theorem snapStatus_success (x : Channel) : x.snapStatus.success = true := by
  unfold Channel.snapStatus
  split <;> rfl

theorem owned_refusesCleanly {s : State} (h : Header) (n : Nat) {run : Fin 4 → Answer} (hr : ∀ c, (run c).RefusesCleanly s) :
    (s.owned h n run).RefusesCleanly s := by
  unfold State.owned
  split
  · simp
  · split
    · exact hr _
    · simp

theorem withEdit_refusesCleanly {s : State} (n v : Nat) {run : Clip → Answer} (hr : ∀ c, (run c).RefusesCleanly s) :
    (s.withEdit n v run).RefusesCleanly s := by
  simp only [State.withEdit, State.withClip]
  split
  · simp
  · split
    · simp
    · split
      · simp
      · exact hr _

/-- Every request to a channel refuses cleanly: each of its branches refuses, or succeeds. -/
theorem channelRequest_refusesCleanly (s : State) (c : Fin 4) :
    (∀ n o, (s.cueClipRequest c n o).RefusesCleanly s) ∧ (∀ l f n, (s.cueLaneRequest c l f n).RefusesCleanly s) ∧
    (∀ l d, (s.liveRequest c l d).RefusesCleanly s) ∧ (∀ f n r, (s.playRequest c f n r).RefusesCleanly s) ∧
    (s.pauseRequest c).RefusesCleanly s ∧ (∀ f r, (s.speedRequest c f r).RefusesCleanly s) ∧
    (∀ n, (s.stepRequest c n).RefusesCleanly s) ∧ (s.continueRequest c).RefusesCleanly s ∧
    (∀ l d, (s.snapLaneRequest c l d).RefusesCleanly s) ∧ (∀ n o, (s.snapClipRequest c n o).RefusesCleanly s) ∧
    (∀ v, (s.resumeRequest c v).RefusesCleanly s) ∧ (∀ b n, (s.runRequest c b n).RefusesCleanly s) ∧
    (∀ q, (s.segueRequest c q).RefusesCleanly s) ∧ ∀ st v, (s.takeChannel c st v).RefusesCleanly s := by
  refine ⟨fun n o => ?_, fun l f n => ?_, fun l d => ?_, fun f n r => ?_, ?_, fun f r => ?_, fun n => ?_, ?_, fun l d => ?_,
    fun n o => ?_, fun v => ?_, fun b n => ?_, fun q => ?_, fun st v => ?_⟩
  case refine_9 => unfold State.snapLaneRequest; split <;> simp [Answer.RefusesCleanly]
  case refine_10 => unfold State.snapClipRequest; split <;> simp [Answer.RefusesCleanly]
  all_goals
    simp only [State.cueClipRequest, State.cueLaneRequest, State.liveRequest, State.playRequest, State.pauseRequest,
      State.speedRequest, State.stepRequest, State.continueRequest, State.resumeRequest, State.runRequest, State.segueRequest,
      State.takeChannel, State.positionReply, State.targetReply, State.takeReply]
    (repeat' split) <;> simp

/-- Every request about a clip refuses cleanly. -/
theorem clipRequest_refusesCleanly (s : State) :
    (∀ f v, (s.clipMarkRequest f v).RefusesCleanly s) ∧ (∀ n l f v, (s.createBySpan n l f v).RefusesCleanly s) ∧
    (∀ n l f v, (s.spanExisting n l f v).RefusesCleanly s) ∧ (∀ n c, (s.lockRequest n c).RefusesCleanly s) ∧
    (∀ n c, (s.unlockRequest n c).RefusesCleanly s) ∧ (∀ n c, (s.deleteRequest n c).RefusesCleanly s) ∧
    ∀ n a b t v, (s.exportStartRequest n a b t v).RefusesCleanly s := by
  refine ⟨fun f v => ?_, fun n l f v => ?_, fun n l f v => ?_, fun n c => ?_, fun n c => ?_, fun n c => ?_, fun n a b t v => ?_⟩
  all_goals
    simp only [State.clipMarkRequest, State.createByMark, State.markExisting, State.createBySpan, State.spanExisting,
      State.putMarked, State.markReply, State.lockRequest, State.heldReply, State.unlockRequest, State.deleteRequest,
      State.exportStartRequest]
    (repeat' split) <;> simp
  exact nofun

/-- SYNC PLAY alone posts notices with a refusal, and only when it was broadcast (R117). -/
theorem syncRequest_refusesCleanly (s : State) {h : Header} (unit : h.broadcast = false) (m : BitVec 8) (p : PlayFields) :
    (s.syncRequest h m p).RefusesCleanly s := by
  unfold State.syncRequest
  split
  · simp
  · simp [unit]

/-- A command to this unit that is refused has changed nothing, and its reply has no body (R192). -/
theorem requestOf_refusesCleanly {i : Instr} {k : Kind} {h : Header} (c : commandOf i = some (k, h))
    (unit : h.broadcast = false) (n : Nat) (s : State) : (requestOf i n s).RefusesCleanly s := by
  have clip := clipRequest_refusesCleanly s
  have channel := channelRequest_refusesCleanly s
  cases i
  case syncPlay => cases c; exact syncRequest_refusesCleanly s unit _ _
  case clipRights =>
    simp only [requestOf]
    split
    · simp
    · exact withEdit_refusesCleanly _ _ fun c => by split <;> simp
  case clipLabel =>
    simp only [requestOf]
    split
    · exact withEdit_refusesCleanly _ _ fun c => by simp
    · simp
  case clipRead => simp only [requestOf, State.withClip]; (repeat' split) <;> simp
  case channelRelease => exact owned_refusesCleanly _ _ fun c => by simp
  case saveDiscard => exact owned_refusesCleanly _ _ fun c => by simp
  all_goals
    simp only [requestOf, State.stationSetRequest, State.laneConfigRequest, State.lineConfigRequest, State.jogConfigRequest,
      State.leverConfigRequest, State.bankWriteRequest, State.cueConfigRequest, State.cueFireRequest, State.flagsReply]
    (repeat' split) <;> simp [owned_refusesCleanly, withEdit_refusesCleanly, clip, channel]

/-! ### The obligations on taking events -/

/-- Settles O1. -/
theorem stepTakesTheFrontEvent : Obligations.StepTakesTheFrontEvent := by
  unfold Obligations.StepTakesTheFrontEvent
  exact fun s => ⟨fun c rest => step_front, step_idle⟩

theorem takeCommand_of_held {s : State} (held : s.resetHeld = true) (k : Kind) (h : Header) (run : Nat → State → Answer) :
    s.takeCommand k h run = s := by
  simp [State.takeCommand, held]

/-- What every event keeps: the queue of events, the Link Interface and the Reference Unit sound, and the frame store in its form. -/
structure State.KeepsSound (s t : State) : Prop where
  pending : t.pending = s.pending
  link    : s.link.sound → t.link.sound
  refu    : s.refu.sound → t.refu.sound
  store   : Memory.wf s.store → Memory.wf t.store

namespace State.KeepsSound

theorem refl (s : State) : s.KeepsSound s := ⟨rfl, id, id, id⟩

theorem trans {s t u : State} (h : s.KeepsSound t) (g : t.KeepsSound u) : s.KeepsSound u :=
  ⟨g.pending.trans h.pending, g.link ∘ h.link, g.refu ∘ h.refu, g.store ∘ h.store⟩

theorem of_served {s t : State} (h : s.Served t) : s.KeepsSound t := ⟨h.pending, h.link, h.refu, fun wf => h.store ▸ wf⟩

theorem of_quiet {s t : State} (h : s.Quiet t) : s.KeepsSound t := of_served h.served

theorem of_setLink {s : State} {k : Link} (sound : s.link.sound → k.sound) : s.KeepsSound (s.setLink k) := ⟨rfl, sound, id, id⟩

theorem of_setRefu {s : State} {r : Refu} (sound : s.refu.sound → r.sound) : s.KeepsSound (s.setRefu r) := ⟨rfl, id, sound, id⟩

end State.KeepsSound

/-! ### Replies and received frames -/

theorem startReply_sound {k : Link} (sound : k.sound) : k.startReply.sound := by
  obtain ⟨notices, stations, levels, -⟩ := startReply_keeps k
  refine ⟨?_, ?_, startReply_replies_length k ▸ sound.replies, ?_, ?_⟩
  · simpa only [Link.noticesSound, notices, levels] using sound.notices
  · simpa only [levels] using sound.levels
  · simpa only [stations] using sound.ceilings
  · simpa only [stations] using sound.master

/-- A reply that finds room leaves the Link Interface sound. -/
theorem queueReply_keepsSound {s : State} (room : s.link.replies.length < 4) (a k : Byte) (st : Status) (body : List Byte) :
    s.KeepsSound (s.queueReply a k st body) := by
  refine ⟨by simp, fun sound => ?_, by simp, by simp⟩
  have joined : Link.sound
      { s.link with replies := s.link.replies ++ [{ tag := a, kind := k, status := st, body, indicator := none }] } :=
    ⟨sound.notices, sound.levels, by simpa using room, sound.ceilings, sound.master⟩
  unfold State.queueReply
  simp only []
  split
  · exact startReply_sound joined
  · exact joined

theorem discardFrame_keepsSound (s : State) : s.KeepsSound s.discardFrame :=
  .of_setLink fun sound => ⟨sound.notices, sound.levels, sound.replies, sound.ceilings, sound.master⟩

theorem takeCommand_keepsSound (s : State) (k : Kind) (h : Header) {run : Nat → State → Answer}
    (served : ∀ n, s.Served (run n s).state) : s.KeepsSound (s.takeCommand k h run) := by
  unfold State.takeCommand
  split
  · exact .refl s
  · split
    · split
      · exact .of_served (served _)
      · exact .refl s
    · split
      · exact discardFrame_keepsSound s
      · next room =>
        split
        · exact queueReply_keepsSound (by omega) ..
        · have request := served (s.effective h)
          exact (State.KeepsSound.of_served request).trans (queueReply_keepsSound (by rw [request.replies]; omega) ..)

theorem command_keepsSound (s : State) (k : Kind) (h : Header) (i : Instr) :
    s.KeepsSound (s.takeCommand k h (requestOf i)) :=
  takeCommand_keepsSound s k h fun n => requestOf_served i n s

theorem runCommand_keepsSound (s : State) (i : Instr) : s.KeepsSound (runCommand i s) := by
  cases c : commandOf i with
  | none => rw [runCommand_of_event c]; exact .refl s
  | some command => rw [runCommand_of_command c]; exact command_keepsSound s _ _ i

/-- A refused frame that is not to be broadcast finds room for its reply (R192 check 1, R193). -/
theorem judge_refuse {s : State} {f : LinkFrame} {st : Status} (h : s.judge f = .refuse st) :
    s.link.replies.length < 4 := by
  unfold State.judge at h
  simp only [] at h
  split at h
  · revert h
    generalize (if f.lengthFault = true then Verdict.refuse .badLength else _) = v
    cases v <;> nofun
  · split at h
    · cases h
    · omega

theorem turnAway_keepsSound (s : State) (f : LinkFrame) : s.KeepsSound (s.turnAway f) := by
  unfold State.turnAway
  split
  · exact discardFrame_keepsSound s
  · exact .refl s
  · next st refused => exact queueReply_keepsSound (judge_refuse refused) ..
  · exact .refl s

theorem takeFrame_keepsSound (s : State) (f : LinkFrame) : s.KeepsSound (s.takeFrame f) := by
  unfold State.takeFrame
  split
  · exact runCommand_keepsSound s _
  all_goals exact turnAway_keepsSound s f

theorem setReceiver_keepsSound (s : State) (r : Receiver) : s.KeepsSound (s.setReceiver r) :=
  .of_setLink fun sound => ⟨sound.notices, sound.levels, sound.replies, sound.ceilings, sound.master⟩

theorem receive_keepsSound (s : State) (marked : Bool) (data : Byte) : s.KeepsSound (s.receive marked data) := by
  unfold State.receive
  split
  · split <;> exact setReceiver_keepsSound ..
  · split
    · exact .refl s
    · exact .refl s
    · simp only [State.extendFrame]
      split
      · exact (setReceiver_keepsSound ..).trans (takeFrame_keepsSound ..)
      · split
        · exact (setReceiver_keepsSound ..).trans (takeFrame_keepsSound ..)
        · exact setReceiver_keepsSound ..

theorem finishReply_keepsSound (s : State) : s.KeepsSound s.finishReply := by
  unfold State.finishReply
  split
  · exact .refl s
  · next r rest replies =>
    refine ⟨rfl, fun sound => startReply_sound ⟨sound.notices, sound.levels, ?_, sound.ceilings, sound.master⟩, id, id⟩
    have := sound.replies
    rw [replies] at this
    exact Nat.le_of_succ_le this

/-! ### Ticks of the Reference Unit -/

theorem Timecode.step_inRange {t : Timecode} {f : Nat} (hf : 0 < f) (h : t.hh < 24 ∧ t.mm < 60 ∧ t.ss < 60) :
    (t.step f).hh < 24 ∧ (t.step f).mm < 60 ∧ (t.step f).ss < 60 ∧ (t.step f).ff < f := by
  unfold Timecode.step
  (repeat' split) <;> simp only <;> omega

theorem Timecode.loaded_inRange {t : Timecode} {f : Nat} (hf : 0 < f) (h : t.hh < 24 ∧ t.mm < 60 ∧ t.ss < 60) :
    (t.loaded f).hh < 24 ∧ (t.loaded f).mm < 60 ∧ (t.loaded f).ss < 60 ∧ (t.loaded f).ff < f := by
  unfold Timecode.loaded
  split
  · simp only
    omega
  · omega

theorem RefConfig.valid.f_pos {c : RefConfig} (h : c.valid) : 0 < c.f := by
  obtain ⟨-, -, -, -, -, hf⟩ := h
  simp only [List.mem_cons, List.not_mem_nil, or_false] at hf
  omega

/-- A tick leaves the Reference Unit sound when the state and count it gives go together (R2, R7). -/
theorem Refu.sound.ticked {r : Refu} (sound : r.sound) {state : RefState} {holdover : Nat}
    (count : if state = .holdover then 1 ≤ holdover ∧ holdover ≤ 249 else holdover = 0) : (r.ticked state holdover).sound := by
  have valid : (r.pending.getD r.config).valid := by
    cases h : r.pending with
    | none => exact sound.config
    | some c => exact sound.pending c h
  obtain ⟨hours, minutes, seconds, -⟩ := sound.timecode
  refine ⟨valid, nofun, count, ?_, nofun, ?_⟩
  · simp only [Refu.ticked, Refu.nextTimecode]
    split
    · next t ht => exact t.loaded_inRange valid.f_pos (sound.waiting t ht)
    · exact r.timecode.step_inRange valid.f_pos ⟨hours, minutes, seconds⟩
  · simp only [Refu.ticked]
    cases state <;> simp [RefConfig.expiryIn]

theorem ticked_keepsSound (s : State) {state : RefState} {holdover : Nat}
    (count : s.refu.sound → if state = .holdover then 1 ≤ holdover ∧ holdover ≤ 249 else holdover = 0) :
    s.KeepsSound (s.setRefu (s.refu.ticked state holdover)) :=
  .of_setRefu fun sound => sound.ticked (count sound)

theorem State.KeepsSound.post {s t : State} (h : s.KeepsSound t) (k : NoticeClass) (a b : Nat) (d : List Byte) :
    s.KeepsSound (t.post k a b d) := h.trans (.of_quiet (State.post_quiet ..))

theorem State.KeepsSound.blocksTick {s t : State} (h : s.KeepsSound t) (order : List TickAction) :
    s.KeepsSound (t.blocksTick order) := h.trans (.of_quiet (State.quiet_blocksTick (.refl t) order))

theorem elapse_keepsSound (s : State) (elapsed : Nat) : s.KeepsSound (s.elapse elapsed) :=
  .of_setRefu fun sound => ⟨sound.config, sound.pending, sound.holdover, sound.timecode, sound.waiting, sound.timer⟩

theorem referencePulse_keepsSound (s : State) (order : List TickAction) : s.KeepsSound (s.referencePulse order) := by
  unfold State.referencePulse
  split
  · refine .post (.of_setRefu fun sound => ?_) ..
    refine ⟨sound.config, sound.pending, sound.holdover, sound.timecode, sound.waiting, ?_⟩
    have := sound.timer
    simp only
    split <;> omega
  · refine .blocksTick ?_ order
    have ticks : s.KeepsSound (s.setRefu (s.refu.ticked .locked 0)) := ticked_keepsSound s fun _ => rfl
    simp only [State.onTimePulse]
    split
    · exact ticks
    all_goals exact ticks.post ..

theorem windowTimer_keepsSound (s : State) (order : List TickAction) : s.KeepsSound (s.windowTimer order) := by
  unfold State.windowTimer
  split
  · refine .blocksTick ?_ order
    simp only [State.timerExpires]
    split
    · exact .post (ticked_keepsSound s fun _ => by simp) ..
    · next holding =>
      split
      · refine ticked_keepsSound s fun sound => ?_
        have := sound.holdover
        rw [if_pos holding] at this
        rw [if_pos rfl]
        omega
      · exact .post (ticked_keepsSound s (holdover := 0) (state := .freeRun) fun _ => rfl) ..
    · exact ticked_keepsSound s fun _ => rfl
  · exact .refl s

/-! ### Block completions -/

/-- A block in service changes the frame store at its own number alone, and is otherwise quiet. -/
theorem finishBlock_quiet (s : State) (v : InService) (good : Bool) :
    s.Quiet (s.finishBlock v good) ∨ ∃ d, (s.writeBlock v.block d).Quiet (s.finishBlock v good) := by
  unfold State.finishBlock
  split
  · next d _ => exact .inr ⟨d, by simp [State.writeBlockDone]⟩
  · exact .inl (by simp)
  · exact .inl (by simp)
  · next d _ => exact .inr ⟨d, by simp⟩
  · exact .inl (by simp)

theorem finishBlock_keepsSound (s : State) {v : InService} (inStore : v.block < 262144) (good : Bool) :
    s.KeepsSound (s.finishBlock v good) := by
  obtain quiet | ⟨d, quiet⟩ := finishBlock_quiet s v good
  · exact .of_quiet quiet
  · have written : s.KeepsSound (s.writeBlock v.block d) :=
      ⟨rfl, id, id, fun wf => writeBlock_wf s v.block d wf inStore⟩
    exact written.trans (.of_quiet quiet)

/-! ### Every event -/

theorem reset_link_sound : Link.powerOn.sound := by
  refine ⟨⟨by simp [Link.powerOn], by simp [Link.powerOn]⟩, ?_, by simp [Link.powerOn], ?_, ?_⟩ <;> decide

theorem reset_refu_sound : Refu.powerOn.sound :=
  ⟨(refConfigValid_iff 20000 200 25).mp (by decide), nofun, rfl, by decide, nofun, Nat.le_refl _⟩

theorem whenRunning_keepsSound {s : State} {f : State → State} (h : s.KeepsSound (f s)) : s.KeepsSound (s.whenRunning f) := by
  unfold State.whenRunning
  split
  · exact .refl s
  · exact h

/-- Every event keeps the queue of events, the Link Interface and the Reference Unit sound, and the frame store in its form. -/
theorem exec_keepsSound {i : Instr} {s t : State} (h : exec i s = .next t) : s.KeepsSound t := by
  have quiet := s.quiet_refl
  cases c : commandOf i with
  | some command =>
    rw [exec_of_command c] at h
    cases h
    exact command_keepsSound s _ _ i
  | none =>
    cases i
    case powerOnReset =>
      cases h
      exact ⟨rfl, fun _ => reset_link_sound, fun _ => reset_refu_sound, fun _ => ⟨List.Pairwise.nil, by simp [State.powerOn]⟩⟩
    case resetRelease x =>
      cases h
      split
      · exact ⟨rfl, fun sound => ⟨sound.notices, sound.levels, sound.replies, sound.ceilings, sound.master⟩, fun sound =>
          ⟨sound.config, sound.pending, sound.holdover, sound.timecode, sound.waiting, Nat.le_refl _⟩, id⟩
      · exact .refl s
    case referencePulse elapsed order =>
      cases h
      exact whenRunning_keepsSound ((elapse_keepsSound ..).trans (referencePulse_keepsSound ..))
    case windowTimerExpiry x =>
      cases h
      exact whenRunning_keepsSound ((elapse_keepsSound ..).trans (windowTimer_keepsSound ..))
    case holdoverLimit x =>
      cases h
      refine whenRunning_keepsSound ?_
      split
      · exact (elapse_keepsSound ..).trans (windowTimer_keepsSound ..)
      · exact elapse_keepsSound ..
    case blockCompletion good =>
      simp only [exec, execBlockCompletion] at h
      split at h
      · cases h; exact .refl s
      · next v _ =>
        split at h
        · cases h; exact .refl s
        · split at h
          · cases h
          · next inStore =>
            cases h
            exact (finishBlock_keepsSound s (Nat.lt_of_not_le inStore) good).trans (.of_quiet (by simp))
    case xrdyAsserted =>
      cases h
      have ready : s.KeepsSound { s with xrdy := true } := ⟨rfl, id, id, id⟩
      exact ready.trans (whenRunning_keepsSound (.of_quiet (by simp)))
    case xrdyDeasserted => cases h; exact ⟨rfl, id, id, id⟩
    case linkCharacter marked data => cases h; exact whenRunning_keepsSound (receive_keepsSound ..)
    case frameRefused f =>
      cases h
      refine whenRunning_keepsSound ?_
      split
      · exact turnAway_keepsSound s f
      · exact .refl s
    case replySent => cases h; exact whenRunning_keepsSound (finishReply_keepsSound s)
    case holdOffEnd | pulseEnd | exportStall =>
      cases h
      refine whenRunning_keepsSound (.of_quiet ?_)
      split <;> simp
    case jogMotion | leverResult | leverMotion | signalChange | frameArrival | ingestBlockDelivered | frameEnd | markEdge |
        jogEdge =>
      cases h
      exact whenRunning_keepsSound (.of_quiet (by simp))
    all_goals cases c

/-- Settles O57, by what each event keeps: the notices are quiet, a reply finds room, a tick keeps the unit in range, and a block in
service is one of the store. -/
theorem everyStepKeepsLinkReferenceAndStoreSound : Obligations.EveryStepKeepsLinkReferenceAndStoreSound := by
  unfold Obligations.EveryStepKeepsLinkReferenceAndStoreSound
  intro s t h
  cases hp : s.pending with
  | nil =>
    rw [step_idle hp] at h
    cases h
    exact ⟨id, id, id⟩
  | cons i rest =>
    rw [step_front hp] at h
    obtain ⟨-, link, refu, store⟩ := exec_keepsSound h
    exact ⟨link, refu, store⟩

/-- With RESET held every event but the release, a further reset and XRDY is ignored (log 3). -/
theorem exec_of_held {i : Instr} {s : State} (held : s.resetHeld = true) (reset : i ≠ .powerOnReset)
    (release : ∀ x, i ≠ .resetRelease x) (asserted : i ≠ .xrdyAsserted) (deasserted : i ≠ .xrdyDeasserted) :
    exec i s = .next s := by
  have ignored (f : State → State) : s.whenRunning f = s := by simp [State.whenRunning, held]
  cases c : commandOf i with
  | some command => rw [exec_of_command c, takeCommand_of_held held]
  | none =>
    cases i
    case powerOnReset => exact absurd rfl reset
    case resetRelease x => exact absurd rfl (release x)
    case xrdyAsserted => exact absurd rfl asserted
    case xrdyDeasserted => exact absurd rfl deasserted
    case blockCompletion good =>
      simp only [exec, execBlockCompletion, held, if_true]
      split <;> rfl
    case referencePulse | windowTimerExpiry | holdoverLimit | holdOffEnd | pulseEnd | exportStall | jogMotion | leverResult |
        leverMotion | signalChange | frameArrival | ingestBlockDelivered | frameEnd | markEdge | jogEdge | linkCharacter |
        frameRefused | replySent =>
      exact congrArg Host.Outcome.next (ignored _)
    all_goals cases c

/-- Settles O2. -/
theorem eventsKeepTheQueueAndWaitForRelease : Obligations.EventsKeepTheQueueAndWaitForRelease := by
  unfold Obligations.EventsKeepTheQueueAndWaitForRelease
  exact ⟨fun c s t h => (exec_keepsSound h).pending, fun c s => exec_of_held⟩

/-- Settles O3: the checks come before the request, and every request leaves the replies alone and refuses cleanly. -/
theorem hostCommandsAreCheckedThenAnswered : Obligations.HostCommandsAreCheckedThenAnswered := by
  unfold Obligations.HostCommandsAreCheckedThenAnswered
  refine ⟨fun i k h s c running => ?_, fun i k h s c => ⟨fun ready => ?_, fun ready => ?_⟩⟩
  · rw [exec_of_command c]
    refine ⟨fun all kind => ?_, fun unit full => ?_, fun unit room kind level => ?_⟩
    · simp [State.takeCommand, running, all, Kind.broadcast, kind]
    · simp [State.takeCommand, running, unit, full, State.discardFrame, State.setLink]
    · have zero : k.levelZero = true := by simpa [Kind.levelZero] using kind
      have above : 0 < s.effective h := level
      simp [State.takeCommand, running, unit, Nat.not_le.mpr room, zero, above, State.answers]
  · obtain ⟨-, unit, -⟩ := id ready
    exact ⟨_, _, _, exec_of_ready c ready, (requestOf_served i _ s).replies, requestOf_refusesCleanly c unit _ s⟩
  · exact ⟨_, exec_of_readyAll c ready, (requestOf_served i _ s).replies⟩

end Sys2Proof.Machine

/-!
PROOFS. The Link Interface (spec/11): replies, notices, the stations and levels, unit reset, and frames.
-/

namespace Sys2Proof.Machine

/-! ### Replies (R196, R204) -/

theorem leBytes_one (n : Nat) : leBytes 1 n = [BitVec.ofNat 8 n] := rfl

theorem flatMap_leBytes_one (l : List Nat) : l.flatMap (leBytes 1) = l.map (BitVec.ofNat 8) := by
  induction l with
  | nil => rfl
  | cons n l ih => rw [List.flatMap_cons, ih]; rfl

theorem Kind.code_eq_poll_iff (k : Kind) : k.code = Kind.poll.code ↔ k = .poll := by
  cases k <;> decide

theorem Link.indicator_eq (k : Link) :
    k.indicator = (if k.notices = [] then 0 else 1) + (if k.overflow then 2 else 0) + (if k.overrun then 4 else 0) := by
  unfold Link.indicator
  rcases k.notices with _ | ⟨n, rest⟩ <;> cases k.overflow <;> cases k.overrun <;> simp

theorem answers_of_queued {s : State} (h : Header) (k : Kind) (st : Status) (body : List Byte) (queued : s.link.replies ≠ []) :
    s.answers h k st body =
      { s with
        link := { s.link with
          replies := s.link.replies ++ [{ tag := h.tag, kind := k.code, status := st, body, indicator := none }] },
        fresh := s.fresh + 1 } := by
  simp [State.answers, State.queueReply, queued, State.setLink]

theorem answers_of_empty {s : State} (h : Header) (k : Kind) (st : Status) (body : List Byte) (empty : s.link.replies = []) :
    s.answers h k st body =
      { s with
        link :=
          { s.link with
            replies := [{ tag := h.tag, kind := k.code, status := st, body, indicator := some s.link.indicator }],
            overrun := false, overflow := if k = .poll ∧ st = .ok then false else s.link.overflow },
        fresh := s.fresh + 1 } := by
  simp [State.answers, State.queueReply, empty, State.setLink, Link.startReply, Kind.code_eq_poll_iff, Link.indicator]

/-- Settles O4. -/
theorem repliesAreQueuedAndSentInOrder : Obligations.RepliesAreQueuedAndSentInOrder := by
  unfold Obligations.RepliesAreQueuedAndSentInOrder
  refine ⟨fun s h k st body => ⟨answers_of_queued h k st body, fun empty => ?_⟩, fun s r rest i running replies indicator => ?_⟩
  · rw [answers_of_empty h k st body empty, Link.indicator_eq]
  · simp [exec, execReplySent, State.whenRunning, running, State.finishReply, replies, indicator, Reply.chars, leBytes_one,
      State.emit, State.setLink]

/-! ### Notices (R197, R198) -/

theorem le_greatestLevel_of_mem {level : NoticeClass → Nat} {l : List Notice} {n : Notice} (h : n ∈ l) :
    level n.cls ≤ greatestLevel level l := by
  obtain ⟨before, after, rfl⟩ := List.append_of_mem h
  unfold greatestLevel
  rw [List.foldl_append, List.foldl_cons]
  exact (Nat.le_max_right _ _).trans (State.le_greatestLevel level after _)

/-- The notice lost from a full queue is the newest of those at the greatest level. -/
theorem dropLeastUrgent_split (level : NoticeClass → Nat) {l : List Notice} (nonempty : l ≠ []) :
    ∃ older lost newer, l = older ++ lost :: newer ∧ (∀ x ∈ l, level x.cls ≤ level lost.cls) ∧
      (∀ x ∈ newer, level x.cls < level lost.cls) ∧ dropLeastUrgent level l = older ++ newer := by
  obtain ⟨g, hg, greatest⟩ := State.exists_greatest level l nonempty
  obtain ⟨lost, front, back, noneInFront, atGreatest, split, erased⟩ :=
    List.exists_of_eraseP (p := fun n => level n.cls == greatestLevel level l) (List.mem_reverse.mpr hg) (by simpa using greatest)
  have whole : l = back.reverse ++ lost :: front.reverse := by
    rw [← List.reverse_reverse l, split]; simp
  have levelOf : level lost.cls = greatestLevel level l := by simpa using atGreatest
  refine ⟨back.reverse, lost, front.reverse, whole, fun x hx => levelOf ▸ le_greatestLevel_of_mem hx, fun x hx => ?_, ?_⟩
  · have below : level x.cls ≤ greatestLevel level l := le_greatestLevel_of_mem (by rw [whole]; simp [List.mem_reverse.mp hx])
    have other : level x.cls ≠ greatestLevel level l := by simpa using noneInFront x (List.mem_reverse.mp hx)
    omega
  · rw [dropLeastUrgent, erased]; simp

/-- Settles O5. -/
theorem postedNoticesJoinTheQueue : Obligations.PostedNoticesJoinTheQueue := by
  unfold Obligations.PostedNoticesJoinTheQueue
  intro s cls code subject data n level
  refine ⟨fun silenced => ?_, fun heard room => ?_, fun heard full => ?_⟩
  · have : s.classLevel cls = 15 := silenced
    simp [State.post, State.classLevel] at this ⊢
    simp [this]
  · have : s.classLevel cls ≠ 15 := heard
    simp only [State.post]
    rw [if_neg (by exact this), if_pos (by exact room)]
    rfl
  · obtain ⟨older, lost, newer, split, greatest, newest, left⟩ :=
      dropLeastUrgent_split s.classLevel (l := s.link.notices ++ [n]) (by simp)
    refine ⟨older, lost, newer, split, greatest, newest, ?_⟩
    have audible : s.classLevel cls ≠ 15 := heard
    simp only [State.post]
    rw [if_neg (by exact audible), if_neg (by have : 64 ≤ s.link.notices.length := full; simpa using this)]
    exact congrArg (fun q => ({ s with fresh := s.fresh + 1, link := { s.link with notices := q, overflow := true } } : State)) left

/-! ### Fields that name a thing -/

@[simp] theorem fin?_val {k : Nat} (x : Fin k) : fin? k x.val = some x := by simp [fin?]

theorem fin?_eq_none_iff {k n : Nat} : fin? k n = none ↔ k ≤ n := by simp [fin?]

theorem fin?_eq_some_iff {k n : Nat} {x : Fin k} : fin? k n = some x ↔ x.val = n := by
  unfold fin?
  split <;> simp [Fin.ext_iff] <;> omega

/-! ### Stations and levels (R195, R200) -/

theorem Vector.zero_mem_toList_iff (v : Vector Nat 16) : v.toList.contains 0 = true ↔ ∃ o : Fin 16, v[o] = 0 := by
  rw [List.contains_iff_mem, Vector.mem_toList_iff, Vector.mem_iff_getElem]
  exact ⟨fun ⟨i, hi, h⟩ => ⟨⟨i, hi⟩, h⟩, fun ⟨o, h⟩ => ⟨o.val, o.isLt, h⟩⟩

theorem stationSetRequest_accepted {s : State} {st : Fin 16} {ceiling : Nat} (inRange : ceiling ≤ 3)
    (zero : ∃ o : Fin 16, (s.link.stations.set st ceiling)[o] = 0) :
    s.stationSetRequest st.val ceiling =
      { state := { s with link := { s.link with stations := s.link.stations.set st ceiling } }, status := .ok,
        body := (s.link.stations.set st ceiling).toList.map (BitVec.ofNat 8) } := by
  simp only [State.stationSetRequest, fin?_val]
  rw [if_pos ⟨inRange, (Vector.zero_mem_toList_iff _).mpr zero⟩]
  simp [State.accept, State.ceilingBytes, flatMap_leBytes_one, State.setLink]

theorem stationSetRequest_refused {s : State} {station ceiling : Nat}
    (bad : 15 < station ∨ 3 < ceiling ∨
      ∃ st : Fin 16, st.val = station ∧ ∀ o : Fin 16, (s.link.stations.set st ceiling)[o] ≠ 0) :
    s.stationSetRequest station ceiling = s.refuse .badField := by
  simp only [State.stationSetRequest]
  split
  · rfl
  next st named =>
    rw [fin?_eq_some_iff] at named
    refine if_neg fun ⟨inRange, zero⟩ => ?_
    obtain ⟨o, ho⟩ := (Vector.zero_mem_toList_iff _).mp zero
    rcases bad with high | high | ⟨st', same, noZero⟩
    · have := st.isLt
      omega
    · omega
    · obtain rfl : st = st' := Fin.ext (named.trans same.symm)
      exact noZero o ho

theorem levels?_toList (v : Vector Nat 11) (h : ∀ i : Fin 11, v[i] ≤ 15) : levels? v.toList = some v := by
  have inRange : ∀ n ∈ v.toList, n ≤ 15 := fun n hn => by
    obtain ⟨i, hi, rfl⟩ := Vector.mem_iff_getElem.mp (Vector.mem_toList_iff.mp hn)
    exact h ⟨i, hi⟩
  unfold levels?
  rw [dif_pos (by simp), if_pos (List.all_eq_true.mpr fun n hn => decide_eq_true (inRange n hn))]
  rfl

theorem levels?_of_high (v : Vector Nat 11) (h : ∃ i : Fin 11, 15 < v[i]) : levels? v.toList = none := by
  obtain ⟨i, hi⟩ := h
  unfold levels?
  split
  · refine if_neg fun all => ?_
    have := List.all_eq_true.mp all v[i] (by simp)
    simp at this hi
    omega
  · rfl

/-- Settles O7. -/
theorem stationsAndNoticeLevelsAreReplaced : Obligations.StationsAndNoticeLevelsAreReplaced := by
  unfold Obligations.StationsAndNoticeLevelsAreReplaced
  refine ⟨fun s h station ceiling ready => ⟨fun st named inRange zero => ?_, fun bad => ?_⟩,
    fun s h v ready => ⟨fun inRange => ?_, fun high => ?_⟩⟩
  · subst named
    rw [exec_of_ready rfl ready]
    simp only [requestOf, stationSetRequest_accepted inRange zero]
  · rw [exec_of_ready rfl ready]
    simp only [requestOf, stationSetRequest_refused bad, State.refuse]
  · rw [exec_of_ready rfl ready]
    simp only [requestOf, levels?_toList v inRange, flatMap_leBytes_one, State.accept]
    simp only [State.setLevels, State.setLink, bne, ne_eq, decide_not]
    rfl
  · rw [exec_of_ready rfl ready]
    simp only [requestOf, levels?_of_high v high, State.refuse]

/-! ### Unit reset (R202) -/

theorem Lane.unitReset_eq (x : Lane) :
    x.unitReset = { Lane.powerOn with signal := x.signal, port := if x.port = .idle then .idle else .dropping } := by
  unfold Lane.unitReset
  cases x.port <;> rfl

/-- Settles O8. -/
theorem unitResetGivesTheResetValues : Obligations.UnitResetGivesTheResetValues := by
  unfold Obligations.UnitResetGivesTheResetValues
  intro s h ready
  refine ⟨s.unitReset, exec_of_ready rfl ready, fun l => ?_, fun n => rfl, fun m => ?_, fun j => ?_, fun v => ?_, rfl, rfl,
    fun c => ?_, fun c => ?_, fun b e => ?_, fun l => ?_, fun c => ?_, rfl, rfl, rfl, ?_, rfl, fun k => ?_, rfl, rfl, rfl, rfl,
    rfl, rfl, rfl⟩
  · rw [← Lane.unitReset_eq]; simp [State.lane, State.unitReset]
  · simp [State.mark, State.unitReset, MarkLine.unitReset]
  · simp [State.jog, State.unitReset, Jog.unitReset]
  · simp [State.lever, State.unitReset, Lever.unitReset]
  · simp [State.channel, State.unitReset]
  · simp [State.outPort, State.unitReset]
  · simp [State.segment, State.unitReset, State.emptyBanks]
  · simp [State.ingest, State.unitReset, Xfer.unitReset, Xfer.reset]
  · simp [State.fetchOf, State.unitReset, Xfer.unitReset, Xfer.reset]
  · simp only [State.unitReset, Xfer.unitReset]
    cases s.xfer.service <;> rfl
  · simp [State.cue, State.unitReset, CueLine.unitReset]

/-! ### Received frames (R190 to R194) -/

theorem kindOf_code (k : Kind) : kindOf k.code = some k := by
  cases k <;> decide

theorem commandOf_decodeBody (k : Kind) (h : Header) (b : List Byte) : commandOf (decodeBody k h b) = some (k, h) := by
  cases k <;> rfl

/-- The body that a frame's length character announces. -/
def frameBody (f : LinkFrame) : List Byte := (f.chars.drop 5).take (nat8 f.chars 4)

/-- The frame has no fault of length, CRC, kind or body length. -/
structure FrameSpells (f : LinkFrame) (k : Kind) : Prop where
  length : f.lengthFault = false
  crc : crcFault f.chars = false
  kind : kindOf (byteAt f.chars 3) = some k
  body : (frameBody f).length = k.bodyLength (frameBody f)

/-- The frame has one of the faults for which it is not executed whatever its address and level. -/
def FrameFaulty (f : LinkFrame) : Prop :=
  f.lengthFault = true ∨ crcFault f.chars = true ∨ kindOf (byteAt f.chars 3) = none ∨
    ∃ k, kindOf (byteAt f.chars 3) = some k ∧ (frameBody f).length ≠ k.bodyLength (frameBody f)

theorem kindOf_eq_some {b : Byte} {k : Kind} (h : kindOf b = some k) : k.code = b := by
  simpa using List.find?_some h

theorem bodyVerdict_of_spells {f : LinkFrame} {k : Kind} (spells : FrameSpells f k) :
    bodyVerdict f.chars = .take (decodeBody k (headerOf f.chars) (frameBody f)) := by
  simp only [bodyVerdict, spells.kind]
  exact if_pos spells.body

theorem bodyVerdict_badLength {f : LinkFrame} {k : Kind} (kind : kindOf (byteAt f.chars 3) = some k)
    (length : (frameBody f).length ≠ k.bodyLength (frameBody f)) : bodyVerdict f.chars = .refuse .badLength := by
  simp only [bodyVerdict, kind]
  exact if_neg length

theorem bodyVerdict_badKind {f : LinkFrame} (kind : kindOf (byteAt f.chars 3) = none) :
    bodyVerdict f.chars = .refuse .badKind := by
  simp only [bodyVerdict, kind]

theorem kindVerdict_refuse (s : State) (h : Header) (kind : Byte) (st : Status) :
    s.kindVerdict h kind (.refuse st) = .refuse st ∨ s.kindVerdict h kind (.refuse st) = .drop := by
  cases known : kindOf kind <;> cases all : h.broadcast <;> simp [State.kindVerdict, known, all]

theorem judge_full {s : State} {f : LinkFrame} (unit : (headerOf f.chars).broadcast = false) (full : 4 ≤ s.link.replies.length) :
    s.judge f = .discard := by
  simp [State.judge, unit, full]

theorem judge_unit {s : State} {f : LinkFrame} (unit : (headerOf f.chars).broadcast = false) (room : s.link.replies.length < 4) :
    s.judge f =
      if f.lengthFault then .refuse .badLength
      else if crcFault f.chars then .refuse .frameCheck
      else s.kindVerdict (headerOf f.chars) (byteAt f.chars 3) (bodyVerdict f.chars) := by
  simp [State.judge, unit, Nat.not_le.mpr room]

theorem judge_broadcast {s : State} {f : LinkFrame} (all : (headerOf f.chars).broadcast = true) :
    s.judge f =
      (if f.lengthFault then .refuse .badLength
       else if crcFault f.chars then .refuse .frameCheck
       else s.kindVerdict (headerOf f.chars) (byteAt f.chars 3) (bodyVerdict f.chars) : Verdict).asBroadcast := by
  simp [State.judge, all]

/-- A fault leaves a broadcast frame dropped. -/
theorem judge_faulty_broadcast {s : State} {f : LinkFrame} (all : (headerOf f.chars).broadcast = true) (faulty : FrameFaulty f) :
    s.judge f = .drop := by
  rw [judge_broadcast all]
  split
  · rfl
  next noLength =>
    split
    · rfl
    next noCrc =>
      rcases faulty with length | crc | kind | ⟨k, kind, length⟩
      · exact absurd length noLength
      · exact absurd crc noCrc
      · rw [bodyVerdict_badKind kind]
        rcases kindVerdict_refuse s (headerOf f.chars) (byteAt f.chars 3) .badKind with h | h <;> rw [h] <;> rfl
      · rw [bodyVerdict_badLength kind length]
        rcases kindVerdict_refuse s (headerOf f.chars) (byteAt f.chars 3) .badLength with h | h <;> rw [h] <;> rfl

/-- A known kind that is not taken from the broadcast address is dropped from it. -/
theorem judge_unwanted_broadcast {s : State} {f : LinkFrame} {k : Kind} (all : (headerOf f.chars).broadcast = true)
    (kind : kindOf (byteAt f.chars 3) = some k) (unwanted : k.broadcast = false) : s.judge f = .drop := by
  rw [judge_broadcast all]
  simp only [State.kindVerdict, kind, all, unwanted, Bool.false_eq_true, if_true, if_false]
  (repeat' split) <;> rfl

/-- A fault leaves a frame to this unit, below four queued replies, refused. -/
theorem judge_faulty_unit {s : State} {f : LinkFrame} (unit : (headerOf f.chars).broadcast = false)
    (room : s.link.replies.length < 4) (faulty : FrameFaulty f) : ∃ st, s.judge f = .refuse st := by
  rw [judge_unit unit room]
  split
  · exact ⟨_, rfl⟩
  next noLength =>
    split
    · exact ⟨_, rfl⟩
    next noCrc =>
      rcases faulty with length | crc | kind | ⟨k, kind, length⟩
      · exact absurd length noLength
      · exact absurd crc noCrc
      · rw [bodyVerdict_badKind kind]
        simp [State.kindVerdict, kind]
      · rw [bodyVerdict_badLength kind length]
        simp [State.kindVerdict, kind, unit]

/-- A frame with a fault is turned away. -/
theorem takeFrame_of_faulty (s : State) {f : LinkFrame} (faulty : FrameFaulty f) : s.takeFrame f = s.turnAway f := by
  cases all : (headerOf f.chars).broadcast with
  | true => simp only [State.takeFrame, judge_faulty_broadcast all faulty]
  | false =>
    rcases Nat.lt_or_ge s.link.replies.length 4 with room | full
    · obtain ⟨st, refused⟩ := judge_faulty_unit all room faulty
      simp only [State.takeFrame, refused]
    · simp only [State.takeFrame, judge_full all full]

theorem runCommand_of_running {i : Instr} {k : Kind} {h : Header} (c : commandOf i = some (k, h)) (s : State) :
    exec i s = .next (runCommand i s) := by
  rw [exec_of_command c, runCommand_of_command c]

/-- A frame without a fault is taken as its kind's command on its fields is. -/
theorem exec_decodeBody_of_spells {s : State} (running : s.resetHeld = false) {f : LinkFrame} {k : Kind} (spells : FrameSpells f k) :
    exec (decodeBody k (headerOf f.chars) (frameBody f)) s = .next (s.takeFrame f) := by
  have command := commandOf_decodeBody k (headerOf f.chars) (frameBody f)
  have code := kindOf_eq_some spells.kind
  cases all : (headerOf f.chars).broadcast with
  | true =>
    cases wanted : k.broadcast with
    | true =>
      rw [runCommand_of_running command]
      simp [State.takeFrame, judge_broadcast all, spells.length, spells.crc, State.kindVerdict, spells.kind, all, wanted,
        bodyVerdict_of_spells spells, Verdict.asBroadcast]
    | false =>
      rw [exec_of_command command]
      simp [State.takeFrame, judge_unwanted_broadcast all spells.kind wanted, State.turnAway, State.takeCommand, running, all,
        wanted]
  | false =>
    rcases Nat.lt_or_ge s.link.replies.length 4 with room | full
    · by_cases high : k.levelZero = true ∧ 0 < s.effective (headerOf f.chars)
      · rw [exec_of_command command]
        simp [State.takeFrame, State.turnAway, judge_unit all room, spells.length, spells.crc, State.kindVerdict, spells.kind, all,
          bodyVerdict_of_spells spells, high, State.takeCommand, running, Nat.not_le.mpr room, code]
        rfl
      · rw [runCommand_of_running command]
        have low : (k.levelZero && decide (0 < s.effective (headerOf f.chars))) = false := by simpa using high
        simp [State.takeFrame, judge_unit all room, spells.length, spells.crc, State.kindVerdict, spells.kind, all,
          bodyVerdict_of_spells spells, low]
    · rw [exec_of_command command]
      simp [State.takeFrame, State.turnAway, judge_full all full, State.takeCommand, running, all, full]

theorem exec_linkCharacter {s : State} (running : s.resetHeld = false) (marked : Bool) (d : Byte) :
    exec (.linkCharacter marked d) s = .next (s.receive marked d) := by
  simp [exec, execLinkCharacter, State.whenRunning, running]

theorem exec_frameRefused {s : State} (running : s.resetHeld = false) {f : LinkFrame}
    (whole : wholeFrame f s.link.unitAddress = true) : exec (.frameRefused f) s = .next (s.turnAway f) := by
  simp [exec, execFrameRefused, State.whenRunning, running, whole]

theorem byte_eq_ofNat_iff (d : Byte) (u : Fin 8) : d = BitVec.ofNat 8 u.val ↔ d.toNat = u.val := by
  have := u.isLt
  rw [← BitVec.toNat_inj, BitVec.toNat_ofNat, Nat.mod_eq_of_lt (by omega)]

/-- A character that completes the frame under reception has it taken, with the receiver in HUNT. -/
theorem receive_complete {s : State} {chars : List Byte} (receiving : s.link.receiver = .receiving chars) (d : Byte)
    (complete : (chars.length = 4 ∧ 240 < d.toNat) ∨ (5 ≤ chars.length + 1 ∧ chars.length + 1 = 7 + nat8 (chars ++ [d]) 4)) :
    s.receive false d = s.frameComplete (chars ++ [d]) (decide (chars.length = 4 ∧ 240 < d.toNat)) := by
  simp only [State.receive, receiving, State.extendFrame, List.length_append, List.length_singleton]
  by_cases long : chars.length = 4 ∧ 240 < d.toNat
  · simp [long]
  · have notLong : ¬(chars.length + 1 = 5 ∧ 240 < d.toNat) := by omega
    rw [if_neg notLong, if_pos (complete.resolve_left long)]
    simp [long]

theorem receive_incomplete {s : State} {chars : List Byte} (receiving : s.link.receiver = .receiving chars) (d : Byte)
    (long : ¬(chars.length = 4 ∧ 240 < d.toNat)) (last : ¬(4 ≤ chars.length ∧ chars.length + 1 = 7 + nat8 (chars ++ [d]) 4)) :
    s.receive false d = s.setReceiver (.receiving (chars ++ [d])) := by
  simp only [State.receive, receiving, State.extendFrame, List.length_append, List.length_singleton]
  have notLong : ¬(chars.length + 1 = 5 ∧ 240 < d.toNat) := by omega
  have notLast : ¬(5 ≤ chars.length + 1 ∧ chars.length + 1 = 7 + nat8 (chars ++ [d]) 4) := by omega
  simp only [Bool.false_eq_true, if_false, notLong, notLast]

/-- A frame that this unit completes does so with its last character. -/
theorem complete_of_wholeFrame {chars : List Byte} {d : Byte} {fault : Bool} {unit : Fin 8}
    (isFault : fault = decide (chars.length = 4 ∧ 240 < d.toNat))
    (whole : wholeFrame { chars := chars ++ [d], lengthFault := fault } unit = true) :
    (chars.length = 4 ∧ 240 < d.toNat) ∨ (5 ≤ chars.length + 1 ∧ chars.length + 1 = 7 + nat8 (chars ++ [d]) 4) := by
  cases fault with
  | true => exact .inl (of_decide_eq_true isFault.symm)
  | false =>
    simp [wholeFrame] at whole
    omega

/-- Settles O9. -/
theorem receivedFramesRunTheirCommand : Obligations.ReceivedFramesRunTheirCommand := by
  unfold Obligations.ReceivedFramesRunTheirCommand
  refine ⟨fun s d running => ⟨fun mine => ?_, fun other notAll => ?_, fun idle => ?_, fun chars receiving long last => ?_⟩,
    fun s chars d k running receiving => ?_, fun s chars d fault running receiving => ?_⟩
  · rw [exec_linkCharacter running, State.receive, if_pos rfl,
      if_pos (show _ ∨ d = broadcastAddress from mine.imp (byte_eq_ofNat_iff d _).mpr id)]
    rfl
  · rw [exec_linkCharacter running, State.receive, if_pos rfl,
      if_neg (show ¬(_ ∨ d = broadcastAddress) from not_or.mpr ⟨fun h => other ((byte_eq_ofNat_iff d _).mp h), notAll⟩)]
    rfl
  · rw [exec_linkCharacter running]
    rcases idle with hunt | skip
    · simp [State.receive, hunt]
    · simp [State.receive, skip]
  · rw [exec_linkCharacter running, receive_incomplete receiving d long last]
    rfl
  · intro f body enough whole good code length
    have spells : FrameSpells { chars := f, lengthFault := false } k :=
      { length := rfl
        crc := by simp [crcFault, good]
        kind := by rw [byteAt, ← code]; exact kindOf_code k
        body := length }
    have long : f.length = chars.length + 1 := by simp [f]
    have hnat : nat8 f 4 = (f.getD 4 0).toNat := rfl
    have notLong : ¬(chars.length = 4 ∧ 240 < d.toNat) := by omega
    rw [exec_linkCharacter running, receive_complete receiving d (.inr ⟨by omega, by rw [← long, whole]; rfl⟩)]
    rw [decide_eq_false notLong]
    exact (exec_decodeBody_of_spells (s := s.setReceiver .hunt) running spells).symm
  · intro f kind body isFault whole faulty
    rw [exec_linkCharacter running, receive_complete receiving d (complete_of_wholeFrame isFault whole), ← isFault,
      exec_frameRefused (f := f) (by exact running) (by exact whole)]
    exact congrArg Host.Outcome.next (takeFrame_of_faulty (s.setReceiver .hunt) (f := f) faulty)

/-- Settles O10. -/
theorem faultyFramesAreAnswered : Obligations.FaultyFramesAreAnswered := by
  unfold Obligations.FaultyFramesAreAnswered
  intro s f running whole h kind body answer
  rw [exec_frameRefused running whole]
  refine ⟨fun fault => ⟨fun all => ?_, fun unit full => ?_⟩, fun unit room => ⟨fun length => ?_, fun noLength crc => ?_,
    fun noLength noCrc unknown => ?_, fun k noLength noCrc known => ⟨fun length => ?_, fun length zero high => ?_⟩⟩⟩
  · have dropped : s.judge f = .drop := by
      rcases fault with length | crc | unknown | ⟨k, known, unwanted | length⟩
      · exact judge_faulty_broadcast all (.inl length)
      · exact judge_faulty_broadcast all (.inr (.inl crc))
      · exact judge_faulty_broadcast all (.inr (.inr (.inl unknown)))
      · exact judge_unwanted_broadcast all known unwanted.2
      · exact judge_faulty_broadcast all (.inr (.inr (.inr ⟨k, known, length⟩)))
    simp only [State.turnAway, dropped]
  · simp only [State.turnAway, judge_full unit full]
    rfl
  · simp only [State.turnAway, judge_unit unit room, length, if_true]
    rfl
  · simp only [State.turnAway, judge_unit unit room, noLength, crc, if_true]
    rfl
  · simp only [State.turnAway, judge_unit unit room, noLength, noCrc, bodyVerdict_badKind unknown, State.kindVerdict]
    have : kindOf (byteAt f.chars 3) = none := unknown
    simp only [this]
    rfl
  · simp only [State.turnAway, judge_unit unit room, noLength, noCrc, bodyVerdict_badLength known length, State.kindVerdict]
    have : kindOf (byteAt f.chars 3) = some k := known
    simp only [this, show (headerOf f.chars).broadcast = false from unit]
    rfl
  · have spells : FrameSpells f k := ⟨noLength, noCrc, known, length⟩
    simp only [State.turnAway, judge_unit unit room, noLength, noCrc, bodyVerdict_of_spells spells, State.kindVerdict,
      spells.kind, show (headerOf f.chars).broadcast = false from unit]
    simp [zero, show 0 < s.effective (headerOf f.chars) from high]
    rfl

end Sys2Proof.Machine

/-!
PROOFS. The Reference Unit (spec/01): the RESET pin, pulses and expiries, the blocks at a tick, timecode and its commands.
-/

namespace Sys2Proof.Machine

/-! ### The RESET pin (R15) -/

theorem powerOn_lane (s : State) (h : s.lanes = Vector.replicate 8 Lane.powerOn) (l : Fin 8) : s.lane l = Lane.powerOn := by
  simp [State.lane, h]

theorem powerOn_jog (j : Fin 4) : #v[Jog.powerOn 0, Jog.powerOn 1, Jog.powerOn 2, Jog.powerOn 3][j] = Jog.powerOn j :=
  match j with
  | 0 | 1 | 2 | 3 => rfl

theorem powerOn_lever (v : Fin 4) : #v[Lever.powerOn 0, Lever.powerOn 1, Lever.powerOn 2, Lever.powerOn 3][v] = Lever.powerOn v :=
  match v with
  | 0 | 1 | 2 | 3 => rfl

theorem Lever.powerOnCurve_eq :
    Lever.powerOnCurve =
      [-2048, -1792, -1536, -1280, -1024, -768, -512, -256, 0, 256, 512, 768, 1024, 1280, 1536, 1792, 2048] := by
  decide

theorem emptyBanks_get (b : Fin 8) (e : Fin 32) : State.emptyBanks[b][e] = Segment.empty := by
  simp [State.emptyBanks]

/-- Settles O11. -/
theorem resetPinHoldsAndReleasesThePart : Obligations.ResetPinHoldsAndReleasesThePart := by
  unfold Obligations.ResetPinHoldsAndReleasesThePart
  refine ⟨fun s => ?_, fun s x held => ?_⟩
  · refine ⟨_, rfl, rfl, rfl, fun l => powerOn_lane _ rfl l, fun n => rfl, fun m => ?_, powerOn_jog, fun v => ?_, rfl, rfl,
      fun c => ?_, fun c => ?_, emptyBanks_get, fun l => ?_, fun c => ?_, rfl, rfl, rfl, rfl, rfl, rfl, fun k => ?_, rfl⟩
    · simp [State.mark, State.powerOn, MarkLine.powerOn]
    · rw [← Lever.powerOnCurve_eq]
      exact powerOn_lever v
    · simp [State.channel, State.powerOn, Channel.reset]
    · simp [State.outPort, State.powerOn]
    · simp [State.ingest, State.powerOn, Xfer.reset]
    · simp [State.fetchOf, State.powerOn, Xfer.reset]
    · simp [State.cue, State.powerOn, CueLine.powerOn]
  · refine ⟨s.released x, by simp [exec, execResetRelease, held], rfl, rfl, rfl, fun m => ?_, fun j => ?_, rfl⟩
    · simp [State.mark, State.released]
    · simp [State.jog, State.released]

/-! ### Pulses and expiries (R1 to R9) -/

theorem exec_referencePulse {s : State} (running : s.resetHeld = false) (elapsed : Nat) (order : List TickAction) :
    exec (.referencePulse elapsed order) s = .next ((s.elapse elapsed).referencePulse order) := by
  simp [exec, execReferencePulse, State.whenRunning, running]

theorem exec_windowTimerExpiry {s : State} (running : s.resetHeld = false) (x : Expiry) :
    exec (.windowTimerExpiry x) s = .next ((s.elapse x.elapsed).windowTimer x.order) := by
  simp [exec, execWindowTimerExpiry, State.whenRunning, running]

/-- HOLDOVER LIMIT is the expiry at the 250th internal tick of a holdover. -/
theorem exec_holdoverLimit_due {s : State} (running : s.resetHeld = false) (state : s.refu.state = .holdover)
    (count : 249 ≤ s.refu.holdover) (x : Expiry) :
    exec (.holdoverLimit x) s = .next ((s.elapse x.elapsed).windowTimer x.order) := by
  simp [exec, execHoldoverLimit, State.whenRunning, running, state, count]

theorem exec_holdoverLimit_early {s : State} (running : s.resetHeld = false)
    (early : s.refu.state ≠ .holdover ∨ s.refu.holdover < 249) (x : Expiry) :
    exec (.holdoverLimit x) s = .next (s.elapse x.elapsed) := by
  have : ¬(s.refu.state = .holdover ∧ 249 ≤ s.refu.holdover) := by
    rintro ⟨state, count⟩
    exact early.elim (· state) (by omega)
  simp only [exec, execHoldoverLimit, State.whenRunning, running, Bool.false_eq_true, if_false, this]

theorem earlyPulse_eq (s : State) :
    s.earlyPulse =
      ({ s with
        refu := { s.refu with
          expiry := if s.refu.state == RefState.freeRun then s.refu.interval + s.refu.config.n + s.refu.config.w else s.refu.expiry } }).post
        .reference 3 0 (leBytes 4 s.refu.interval ++ leBytes 1 s.refu.state.code ++ flagBytes (s.refu.state == RefState.freeRun)) := rfl

theorem onTimePulse_refu (s : State) : s.onTimePulse.refu = s.refu.ticked .locked 0 := by
  simp only [State.onTimePulse, State.postReference]
  split <;> simp

theorem onTimePulse_resetHeld (s : State) : s.onTimePulse.resetHeld = s.resetHeld := by
  simp only [State.onTimePulse, State.postReference]
  split <;> simp

theorem timerExpires_locked {s : State} (h : s.refu.state = .locked) :
    s.timerExpires = (s.setRefu (s.refu.ticked .holdover 1)).post .reference 1 0 (leBytes 4 s.refu.expiry) := by
  simp only [State.timerExpires, h, State.postReference]

theorem timerExpires_holdover {s : State} (h : s.refu.state = .holdover) (below : s.refu.holdover < 249) :
    s.timerExpires = s.setRefu (s.refu.ticked .holdover (s.refu.holdover + 1)) := by
  simp only [State.timerExpires, h, if_pos below]

theorem timerExpires_limit {s : State} (h : s.refu.state = .holdover) (limit : 249 ≤ s.refu.holdover) :
    s.timerExpires = (s.setRefu (s.refu.ticked .freeRun 0)).post .reference 2 0 [] := by
  simp only [State.timerExpires, h, if_neg (Nat.not_lt.mpr limit), State.postReference]

theorem timerExpires_freeRun {s : State} (h : s.refu.state = .freeRun) :
    s.timerExpires = s.setRefu (s.refu.ticked .freeRun 0) := by
  simp only [State.timerExpires, h]

theorem timerExpires_rpn (s : State) : s.timerExpires.refu.rpn = s.refu.rpn + 1 := by
  simp only [State.timerExpires, State.postReference]
  (repeat' split) <;> simp [Refu.ticked]

theorem timerExpires_interval (s : State) : s.timerExpires.refu.interval = 0 := by
  simp only [State.timerExpires, State.postReference]
  (repeat' split) <;> simp [Refu.ticked]

theorem timerExpires_config (s : State) : s.timerExpires.refu.config = s.refu.pending.getD s.refu.config := by
  simp only [State.timerExpires, State.postReference]
  (repeat' split) <;> simp [Refu.ticked]

theorem timerExpires_resetHeld (s : State) : s.timerExpires.resetHeld = s.resetHeld := by
  simp only [State.timerExpires, State.postReference]
  (repeat' split) <;> simp

/-- A late expiry finds the pulse's tick and passes no time. -/
theorem late_expiry {t : State} (running : t.resetHeld = false) (zero : t.refu.interval = 0) (later : 0 < t.refu.expiry)
    (order : List TickAction) : exec (.windowTimerExpiry { elapsed := 0, order }) t = .next t := by
  rw [exec_windowTimerExpiry running, State.elapse_zero, State.windowTimer_of_lt (by omega)]

theorem pending_valid {r : Refu} (sound : r.sound) : (r.pending.getD r.config).valid := by
  cases h : r.pending with
  | none => exact sound.config
  | some c => exact sound.pending c h

/-- Settles O12. -/
theorem referencePulsesAreEarlyOrOnTime : Obligations.ReferencePulsesAreEarlyOrOnTime := by
  unfold Obligations.ReferencePulsesAreEarlyOrOnTime
  refine ⟨fun s elapsed order running => ?_, fun s elapsed order running => ?_,
    fun s elapsed order order' running sound due => ⟨?_, ?_⟩⟩
  · intro r interval restart early
    rw [exec_referencePulse running, State.referencePulse_of_lt (by exact early), earlyPulse_eq]
    rfl
  · intro interval late c ticked
    rw [exec_referencePulse running, State.referencePulse_of_le (by exact late)]
    simp only [State.onTimePulse, State.postReference, State.elapse_refu, Refu.elapse]
    cases h : s.refu.state <;> rfl
  · have timer := sound.timer
    have config := pending_valid sound
    have late : s.refu.config.n ≤ (s.elapse elapsed).refu.interval + (s.elapse elapsed).refu.config.w := by
      rw [State.elapse_refu]
      simp only [Refu.elapse]
      omega
    have refu : ((s.elapse elapsed).onTimePulse.blocksTick order).refu = (s.elapse elapsed).refu.ticked .locked 0 := by
      rw [State.blocksTick_refu, onTimePulse_refu]
    have free : ((s.elapse elapsed).onTimePulse.blocksTick order).resetHeld = false := by
      rw [State.blocksTick_resetHeld, onTimePulse_resetHeld, State.elapse_resetHeld, running]
    refine ⟨(s.elapse elapsed).onTimePulse.blocksTick order, ?_, ?_, ?_, late_expiry free ?_ ?_ order', ?_⟩
    · rw [exec_referencePulse running, State.referencePulse_of_le (by exact late)]
    · rw [refu]; rfl
    · rw [refu]; rfl
    · rw [refu]; rfl
    · rw [refu]
      exact Nat.lt_of_lt_of_le (by have := config.1; omega : 0 < (s.refu.pending.getD s.refu.config).n) (Nat.le_add_right _ _)
    · rw [exec_holdoverLimit_early free (.inl (by rw [refu]; simp [Refu.ticked])), State.elapse_zero]
  · have config := pending_valid sound
    have reached : (s.elapse elapsed).refu.expiry ≤ (s.elapse elapsed).refu.interval := by
      rw [State.elapse_refu]
      exact due.ge
    refine ⟨(s.elapse elapsed).timerExpires.blocksTick order, ?_, ?_, ?_, fun locked => ?_, ?_⟩
    · rw [exec_windowTimerExpiry running, State.windowTimer_of_le reached]
    · rw [State.blocksTick_refu, timerExpires_rpn]; rfl
    · rw [State.blocksTick_refu, timerExpires_interval]
    · rw [State.blocksTick_refu]
      rw [timerExpires_locked (by exact locked), State.post_refu]
      rfl
    · intro restart
      have free : ((s.elapse elapsed).timerExpires.blocksTick order).resetHeld = false := by
        rw [State.blocksTick_resetHeld, timerExpires_resetHeld, State.elapse_resetHeld, running]
      have interval : ((s.elapse elapsed).timerExpires.blocksTick order).refu.interval = 0 := by
        rw [State.blocksTick_refu, timerExpires_interval]
      have ofConfig : ((s.elapse elapsed).timerExpires.blocksTick order).refu.config = s.refu.pending.getD s.refu.config := by
        rw [State.blocksTick_refu, timerExpires_config]; rfl
      obtain ⟨-, -, -, -, narrow, -⟩ := config
      rw [exec_referencePulse free, State.elapse_zero, State.referencePulse_of_lt (by rw [interval, ofConfig]; omega), earlyPulse_eq,
        interval, Nat.zero_add]
      rfl

/-- Settles O13. -/
theorem expiriesTickByTheirState : Obligations.ExpiriesTickByTheirState := by
  unfold Obligations.ExpiriesTickByTheirState
  intro s elapsed order running c interval ticked passed
  have early : s.refu.state ≠ .holdover ∨ s.refu.holdover < 249 →
      exec (.holdoverLimit { elapsed, order }) s = .next passed := fun h => exec_holdoverLimit_early running h _
  refine ⟨fun before => ?_, early, fun due => ?_⟩
  · have timer : (s.elapse elapsed).windowTimer order = passed := State.windowTimer_of_lt (by exact before) order
    refine ⟨by rw [exec_windowTimerExpiry running, timer], ?_⟩
    by_cases last : s.refu.state = .holdover ∧ 249 ≤ s.refu.holdover
    · rw [exec_holdoverLimit_due running last.1 last.2, timer]
    · exact early (by by_cases h : s.refu.state = .holdover <;> simp_all)
  · have timer : (s.elapse elapsed).windowTimer order = (s.elapse elapsed).timerExpires.blocksTick order :=
      State.windowTimer_of_le (by exact due) order
    refine ⟨fun locked => ?_, fun holdover below => ?_, fun holdover limit => ⟨?_, ?_⟩, fun free => ?_⟩
    · rw [exec_windowTimerExpiry running, timer, timerExpires_locked (by exact locked)]; rfl
    · rw [exec_windowTimerExpiry running, timer, timerExpires_holdover (by exact holdover) (by exact below)]; rfl
    · rw [exec_windowTimerExpiry running, timer, timerExpires_limit (by exact holdover) (by exact limit)]; rfl
    · rw [exec_holdoverLimit_due running holdover limit, timer, timerExpires_limit (by exact holdover) (by exact limit)]; rfl
    · rw [exec_windowTimerExpiry running, timer, timerExpires_freeRun (by exact free)]; rfl

/-! ### The blocks at a tick (R2; log 8) -/

theorem nodup_eraseDups {α : Type} [BEq α] [LawfulBEq α] (l : List α) : l.eraseDups.Nodup := by
  match l with
  | [] => simp
  | a :: rest =>
    rw [List.eraseDups_cons, List.nodup_cons]
    refine ⟨by simp [List.mem_eraseDups], nodup_eraseDups _⟩
termination_by l.length
decreasing_by exact Nat.lt_succ_of_le (List.length_filter_le _ _)

/-- Leaving others out keeps which of two elements comes first. -/
theorem idxOf_filter_lt {α : Type} [BEq α] [LawfulBEq α] {p : α → Bool} {a b : α} (ha : p a = true) (hb : p b = true) {l : List α}
    (h : l.idxOf a < l.idxOf b) : (l.filter p).idxOf a < (l.filter p).idxOf b := by
  induction l with
  | nil => simp at h
  | cons x rest ih =>
    by_cases xa : x = a
    · subst xa
      have ne : x ≠ b := by rintro rfl; simp at h
      simp [ha, ne]
    · by_cases xb : x = b
      · simp [List.idxOf_cons, xb] at h
      · rw [List.idxOf_cons_ne _ xa, List.idxOf_cons_ne _ xb] at h
        have less := ih (Nat.lt_of_succ_lt_succ h)
        rw [List.filter_cons]
        split
        · rw [List.idxOf_cons_ne _ xa, List.idxOf_cons_ne _ xb]
          exact Nat.succ_lt_succ less
        · exact less

/-- Erasing later copies keeps which of two elements comes first. -/
theorem idxOf_eraseDups_lt {α : Type} [BEq α] [LawfulBEq α] {a b : α} (l : List α) (h : l.idxOf a < l.idxOf b) :
    l.eraseDups.idxOf a < l.eraseDups.idxOf b := by
  match l with
  | [] => simp at h
  | x :: rest =>
    rw [List.eraseDups_cons]
    by_cases xa : x = a
    · subst xa
      have ne : x ≠ b := by rintro rfl; simp at h
      simp [ne]
    · by_cases xb : x = b
      · simp [List.idxOf_cons, xb] at h
      · rw [List.idxOf_cons_ne _ xa, List.idxOf_cons_ne _ xb] at h ⊢
        refine Nat.succ_lt_succ (idxOf_eraseDups_lt _ (idxOf_filter_lt ?_ ?_ (Nat.lt_of_succ_lt_succ h)))
        · simpa using Ne.symm xa
        · simpa using Ne.symm xb
termination_by l.length
decreasing_by exact Nat.lt_succ_of_le (List.length_filter_le _ _)

theorem mem_tickSchedule_iff {order : List TickAction} {a : TickAction} :
    a ∈ tickSchedule order ↔ a ∈ order ∨ a ∈ tickActions := by
  simp [tickSchedule, List.mem_eraseDups]
  tauto

theorem tickSchedule_nodup (order : List TickAction) : (tickSchedule order).Nodup := by
  have : tickActions.Nodup := by decide
  refine List.Nodup.append (nodup_eraseDups order) (this.filter _) fun a given other => ?_
  simp at other given
  exact other.2 given

theorem tickSchedule_idxOf_lt {order : List TickAction} {a b : TickAction} (h : order.idxOf a < order.idxOf b) :
    (tickSchedule order).idxOf a < (tickSchedule order).idxOf b := by
  have given : a ∈ order := List.idxOf_lt_length_iff.mp (h.trans_le List.idxOf_le_length)
  have first := idxOf_eraseDups_lt order h
  simp only [tickSchedule]
  rw [List.idxOf_append, if_pos (List.mem_eraseDups.mpr given), List.idxOf_append]
  split
  · exact first
  · exact (List.idxOf_lt_length_iff.mpr (List.mem_eraseDups.mpr given)).trans_le (Nat.le_add_left _ _)

theorem jogMotion_not_mem (j : Fin 4) : TickAction.jogMotion j ∉ tickActions := by
  revert j
  decide

/-- Settles O14. -/
theorem everyBlockTakesATickOnce : Obligations.EveryBlockTakesATickOnce := by
  unfold Obligations.EveryBlockTakesATickOnce
  intro s order
  have acts {a : TickAction} (h : a ∈ tickActions) : a ∈ tickSchedule order := mem_tickSchedule_iff.mpr (.inr h)
  refine ⟨rfl, fun a b => tickSchedule_idxOf_lt, tickSchedule_nodup order, fun l => acts ?_, fun m => acts ?_, fun j => acts ?_,
    acts (by decide), fun c => acts ?_, acts (by decide), fun k => acts ?_, fun j listed => ?_, State.quiet_blocksTick (.refl s) order⟩
  · revert l; decide
  · revert m; decide
  · revert j; decide
  · revert c; decide
  · revert k; decide
  · exact (mem_tickSchedule_iff.mp listed).resolve_right (jogMotion_not_mem j)

/-! ### Timecode and configuration (R11 to R13) -/

theorem Timecode.loaded_eq (t : Timecode) (f : Nat) : t.loaded f = { t with ff := min t.ff (f - 1) } := by
  unfold Timecode.loaded
  split
  · congr 1; omega
  · have : min t.ff (f - 1) = t.ff := by omega
    rw [this]

theorem refConfigValid_iff_ranges (n w f : Nat) :
    refConfigValid n w f = true ↔
      10000 ≤ n ∧ n ≤ 50000 ∧ 10 ≤ w ∧ w ≤ 2000 ∧ 4 * w < n ∧ (f = 24 ∨ f = 25 ∨ f = 30 ∨ f = 50 ∨ f = 60) := by
  simp [refConfigValid]
  tauto

/-- Settles O15. -/
theorem timeAndConfigurationMoveAtTheTick : Obligations.TimeAndConfigurationMoveAtTheTick := by
  unfold Obligations.TimeAndConfigurationMoveAtTheTick
  refine ⟨fun r f pos ss mm hh => ⟨fun t waiting => ?_, fun none => ?_⟩, fun s h n w f hh mm ss ff => ?_⟩
  · simp only [Refu.nextTimecode, waiting]
    exact t.loaded_eq f
  · intro t ffCarries ssCarries mmCarries
    simp only [Refu.nextTimecode, none, Timecode.step, ffCarries, ssCarries, mmCarries]
    (repeat' split) <;> refine ⟨?_, fun _ => ?_, fun _ => ?_, fun _ => ?_, fun _ => ?_, fun _ => ?_, fun _ => ?_⟩ <;> dsimp only [t] at * <;> omega
  · intro valid timed waiting
    refine ⟨fun ready => ⟨fun ok => ?_, fun bad => ?_⟩, fun ready => ⟨fun ok => ?_, fun bad => ?_⟩,
      fun ready => ⟨fun ok => ?_, fun bad => ?_⟩⟩
    · rw [exec_of_ready rfl ready]
      simp only [requestOf]
      rw [if_pos ((refConfigValid_iff_ranges n w f).mpr ok)]
      rfl
    · rw [exec_of_ready rfl ready]
      simp only [requestOf]
      rw [if_neg fun h => bad ((refConfigValid_iff_ranges n w f).mp h)]
      rfl
    · rw [exec_of_ready rfl ready]
      simp only [requestOf]
      rw [if_pos ok]
      rfl
    · rw [exec_of_ready rfl ready]
      simp only [requestOf]
      rw [if_neg bad]
      rfl
    · rw [exec_of_readyAll rfl ready]
      simp only [requestOf]
      rw [if_pos ok]
      rfl
    · rw [exec_of_readyAll rfl ready]
      simp only [requestOf]
      rw [if_neg bad]
      rfl

end Sys2Proof.Machine

/-!
PROOFS. The ingest lanes (spec/02): LANE CONFIG, REC START and REC STOP, the tick, arrivals, eviction, the held count and damage.
-/

namespace Sys2Proof.Machine

/-! ### Notices over other changes -/

/-- The Link Interface after a notice is posted (R197, R198). -/
def Link.posted (k : Link) (n : Notice) : Link :=
  if k.levels[n.cls.number] = 15 then k
  else if k.notices.length < 64 then { k with notices := k.notices ++ [n] }
  else { k with notices := dropLeastUrgent (fun c => k.levels[c.number]) (k.notices ++ [n]), overflow := true }

theorem State.post_eq (s : State) (cls : NoticeClass) (code subject : Nat) (data : List Byte) :
    s.post cls code subject data =
      { s with link := s.link.posted { cls, code, subject, rpn := s.refu.rpn, data }, fresh := s.fresh + 1 } := by
  simp only [State.post, Link.posted, State.setLink]
  split
  next silent => rw [if_pos (show s.link.levels[cls.number] = 15 from silent)]
  next heard =>
    rw [if_neg (show ¬s.link.levels[cls.number] = 15 from heard)]
    split <;> rfl

theorem State.post_over {s t : State} (link : t.link = s.link) (refu : t.refu = s.refu) (fresh : t.fresh = s.fresh)
    (k : NoticeClass) (a b : Nat) (d : List Byte) :
    t.post k a b d = { t with link := (s.post k a b d).link, fresh := (s.post k a b d).fresh } := by
  rw [State.post_eq, State.post_eq, link, refu, fresh]

/-- What is posted depends on the Link Interface, the RPN and the fresh numbers alone. -/
theorem State.posts_over {s t : State} (link : t.link = s.link) (refu : t.refu = s.refu) (fresh : t.fresh = s.fresh)
    (ns : List (NoticeClass × Nat × Nat × List Byte)) :
    t.posts ns = { t with link := (s.posts ns).link, fresh := (s.posts ns).fresh } := by
  induction ns generalizing s t with
  | nil => simp [← link, ← fresh]
  | cons n ns ih =>
    rw [State.posts_cons, State.posts_cons, ih (s := s.post n.1 n.2.1 n.2.2.1 n.2.2.2), State.post_over link refu fresh] <;>
      simp [State.post_over link refu fresh, refu]

theorem State.posts_eq (s : State) (ns : List (NoticeClass × Nat × Nat × List Byte)) :
    s.posts ns = { s with link := (s.posts ns).link, fresh := (s.posts ns).fresh } := State.posts_over rfl rfl rfl ns

theorem State.posts_withLanes (s : State) (lanes : Vector Lane 8) (ns : List (NoticeClass × Nat × Nat × List Byte)) :
    { s with lanes }.posts ns = { s.posts ns with lanes } := by
  rw [State.posts_over (s := s) (t := { s with lanes }) rfl rfl rfl, State.posts_eq s]

theorem clipNotices_congr {s t : State} (clips : t.clips = s.clips) {code : Nat} {d d' : Clip → Option (List Byte)}
    (h : ∀ e ∈ s.clips, d e.2 = d' e.2) : t.clipNotices code d = s.clipNotices code d' := by
  unfold State.clipNotices
  rw [clips]
  exact List.filterMap_congr fun e he => by rw [h e he]

/-! ### Clips by number -/

theorem clip_eq_free_or_mem (s : State) (n : Nat) : s.clip n = Clip.free ∨ (n, s.clip n) ∈ s.clips := by
  unfold State.clip
  cases h : Sparse.lookup s.clips n with
  | none => exact .inl rfl
  | some c => exact .inr (Sparse.mem_of_lookup h)

theorem clip_mem_of_state {s : State} {n : Nat} (h : (s.clip n).state ≠ .free) : (n, s.clip n) ∈ s.clips :=
  (clip_eq_free_or_mem s n).resolve_left fun free => h (by rw [free]; rfl)

theorem clip_makeAbsent (s : State) (l : Fin 8) (lfn cause n m : Nat) :
    (s.makeAbsent l lfn cause n).clip m =
      if n = m then (if (s.clip m).state = .free then s.clip m else { s.clip m with state := .absent }) else s.clip m := by
  unfold State.makeAbsent
  rw [clip_post, clip_modifyClip _ _ _ _ (by simp)]
  by_cases same : n = m
  · subst same
    by_cases free : (s.clip n).state = .free <;> simp [free]
  · simp [same]

theorem State.OnlyClips.makeAbsent (s : State) (l : Fin 8) (lfn cause n : Nat) : s.OnlyClips (s.makeAbsent l lfn cause n) := by
  refine State.OnlyClips.trans ?_ (.post _ _ _ _ _)
  unfold State.modifyClip
  split
  · exact .refl s
  · exact .setClip _ _ _

/-- Clips of a lane become ABSENT together. -/
theorem clip_foldl_makeAbsent {s : State} (h : Sparse.Sorted s.clips) (l : Fin 8) {p : Clip → Bool} (hp : p Clip.free = false)
    (lfn cause n : Nat) :
    ((s.clipsOf l p).foldl (fun t n => t.makeAbsent l lfn cause n) s).clip n =
      if (s.clip n).lane = l ∧ p (s.clip n) = true then
        (if (s.clip n).state = .free then s.clip n else { s.clip n with state := .absent })
      else s.clip n := by
  rw [clip_foldl (g := fun _ c => if c.state = .free then c else { c with state := .absent })
    (fun t n => .makeAbsent t l lfn cause n) (fun t n m => clip_makeAbsent t l lfn cause n m) (fun _ _ _ _ => rfl) _
    (clipsOf_nodup h l p)]
  simp only [mem_clipsOf h l hp]

theorem Clip.mayBecomeAbsent_iff (c : Clip) :
    c.mayBecomeAbsent = true ↔ c.locked = false ∧ (c.state = .opened ∨ c.state = .closed) := by
  simp [Clip.mayBecomeAbsent]

theorem Clip.locked_iff (c : Clip) : c.locked = true ↔ c.opLock = true ∨ c.exportLock = true := by
  simp [Clip.locked]

/-! ### LANE CONFIG (R17, R18) -/

theorem laneFieldsInRange_iff (f : LaneFields) :
    laneFieldsInRange f = true ↔
      f.p ∈ [1, 2, 3, 4, 6, 8] ∧ 1 ≤ f.s ∧ f.s ≤ 128 ∧ f.k % 256 = 0 ∧ 256 ≤ f.k ∧ f.k ≤ 65536 ∧ f.base ≤ 262143 ∧
        f.h ≤ f.k - 16 := by
  simp only [laneFieldsInRange, Bool.and_eq_true, decide_eq_true_eq, beq_iff_eq, and_assoc]

/-- The source lies on the lane: it is the lane, its live frames, or a clip of it (R17). -/
def State.onLane (s : State) (l : Fin 8) (src : Source) : Prop :=
  src = .lane l ∨ (∃ d, src = .live l d) ∨ ∃ n, src = .clip n ∧ (s.clip n).lane = l

theorem sourceLane_eq_some_iff (s : State) (l : Fin 8) (src : Source) : s.sourceLane src = some l ↔ s.onLane l src := by
  cases src <;> simp [State.sourceLane, State.onLane, eq_comm]

theorem mem_allChannels (c : Fin 4) : c ∈ allChannels := by
  revert c
  decide

theorem mem_allLanes (l : Fin 8) : l ∈ allLanes := by
  revert l
  decide

theorem laneInUse_iff (s : State) (l : Fin 8) :
    s.laneInUse l = true ↔
      (∃ c, s.onLane l (s.channel c).source ∨ (∃ k, (s.channel c).saved = some k ∧ s.onLane l k.source) ∨
        ∃ r, (s.channel c).fetch = some r ∧ r.lane = l) ∨
      s.exporter.state = .running ∧ s.exporter.lane = l := by
  simp only [State.laneInUse, Bool.or_eq_true, Bool.and_eq_true, beq_iff_eq, List.any_eq_true, Option.any_eq_true,
    sourceLane_eq_some_iff, mem_allChannels, true_and, or_assoc]

theorem laneLocked_iff (s : State) (l : Fin 8) :
    s.laneLocked l = true ↔ ∃ e ∈ s.clips, e.2.lane = l ∧ (e.2.opLock = true ∨ e.2.exportLock = true) := by
  simp [State.laneLocked, Clip.locked_iff]

theorem regionFits_iff (s : State) (l : Fin 8) (f : LaneFields) :
    s.regionFits l f = true ↔ f.base + f.k * f.s ≤ 262144 ∧ ∀ m, m ≠ l → (s.lane m).state ≠ .off →
      f.base + f.k * f.s ≤ (s.lane m).base ∨ (s.lane m).base + (s.lane m).k * (s.lane m).s ≤ f.base := by
  simp only [State.regionFits, State.otherLanes, Bool.and_eq_true, decide_eq_true_eq, List.all_eq_true, Bool.or_eq_true,
    List.mem_filter, List.mem_map, mem_allLanes, true_and, bne_iff_ne]
  refine and_congr_right fun _ => ⟨fun h m other on => h _ ⟨⟨m, other, rfl⟩, on⟩, ?_⟩
  rintro h _ ⟨⟨m, other, rfl⟩, on⟩
  exact h m other on

theorem sum_otherLanes (s : State) (l : Fin 8) (ls : List (Fin 8)) :
    ((((ls.filter fun m => m != l).map s.lane).filter fun x => x.state != .off).map Lane.k).sum =
      (ls.map fun m => if m = l ∨ (s.lane m).state = .off then 0 else (s.lane m).k).sum := by
  induction ls with
  | nil => rfl
  | cons m ls ih =>
    by_cases same : m = l
    · simp [same, ← ih]
    · by_cases off : (s.lane m).state = .off <;> simp [same, off, ← ih]

theorem laneConfigured_onlyClips (s : State) (l : Fin 8) : s.OnlyClips (s.laneConfigured l) :=
  .foldl (fun t n => .makeAbsent t l 0 1 n) _ _

/-- The request of LANE CONFIG for a lane and an enable that name something. -/
theorem laneConfigRequest_named (s : State) {f : LaneFields} {l : Fin 8} {enable : Bool} (lane : f.lane = l.val)
    (on : f.enable = if enable then 1 else 0) :
    s.laneConfigRequest f =
      if enable && !laneFieldsInRange f then s.refuse .badField
      else if (s.lane l).state ≠ .off ∧ (s.lane l).state ≠ .stopped then s.refuse .busy
      else if s.laneInUse l then s.refuse .busy
      else if s.laneLocked l then s.refuse .lockedFrames
      else if enable && !s.regionFits l f then s.refuse .overlap
      else if enable && !s.indexFits l f then s.refuse .noRoom
      else ((s.setLane l ((s.lane l).configured f enable)).laneConfigured l).accept [] := by
  have : flag? f.enable = some enable := by rw [on]; cases enable <;> rfl
  simp only [State.laneConfigRequest, lane, fin?_val, this]

theorem laneConfigRequest_unnamed (s : State) {f : LaneFields} (high : 7 < f.lane) : s.laneConfigRequest f = s.refuse .badField := by
  have unnamed : fin? 8 f.lane = none := fin?_eq_none_iff.mpr high
  cases on : flag? f.enable <;> simp only [State.laneConfigRequest, unnamed, on]

/-- An accepted LANE CONFIG: the lane is emptied, and its OPEN and CLOSED clips, none of them locked, become ABSENT. -/
theorem laneConfigured_setLane {s : State} (sorted : Sparse.Sorted s.clips) {l : Fin 8}
    (unlocked : ¬∃ e ∈ s.clips, e.2.lane = l ∧ (e.2.opLock = true ∨ e.2.exportLock = true)) (x : Lane) :
    let t := (s.setLane l x).laneConfigured l
    t.lane l = x ∧ (∀ m, m ≠ l → t.lane m = s.lane m) ∧
      (∀ n, t.clip n = if (s.clip n).lane = l ∧ ((s.clip n).state = .opened ∨ (s.clip n).state = .closed)
        then { s.clip n with state := .absent } else s.clip n) ∧
      { t with lanes := s.lanes, clips := s.clips } = s.posts (s.clipNotices 1 fun c =>
        if c.lane = l ∧ (c.state = .opened ∨ c.state = .closed) then some (leBytes 1 l.val ++ [0, 0, 0, 0, 1]) else none) := by
  intro t
  have only : (s.setLane l x).OnlyClips t := laneConfigured_onlyClips _ l
  have loose {c : Clip} {n : Nat} (listed : (n, c) ∈ s.clips) (here : c.lane = l) : c.locked = false := by
    by_contra h
    exact unlocked ⟨_, listed, here, c.locked_iff.mp (by simpa using h)⟩
  refine ⟨by simp [only.lane], fun m other => by rw [only.lane, s.lane_setLane_ne x (Ne.symm other)], fun n => ?_, ?_⟩
  · have same : (s.setLane l x).clip n = s.clip n := rfl
    have change := clip_foldl_makeAbsent (s := s.setLane l x) (by exact sorted) l (p := Clip.mayBecomeAbsent) rfl 0 1 n
    rw [same] at change
    refine change.trans ?_
    by_cases here : (s.clip n).lane = l ∧ ((s.clip n).state = .opened ∨ (s.clip n).state = .closed)
    · have listed : (s.clip n).state ≠ .free := by
        rcases here.2 with h | h <;> simp [h]
      have := loose (clip_mem_of_state listed) here.1
      simp [Clip.mayBecomeAbsent_iff, this, here, listed]
    · rw [if_neg here, if_neg fun h => here ⟨h.1, ((Clip.mayBecomeAbsent_iff _).mp h.2).2⟩]
  · have posts := foldl_makeAbsent_posts (s := s.setLane l x) (by exact sorted) l Clip.mayBecomeAbsent 0 1
    have notices : ((s.setLane l x).clipNotices 1 fun c => if c.lane = l ∧ c.mayBecomeAbsent = true
        then some (leBytes 1 l.val ++ lfnBytes 0 ++ leBytes 1 1) else none) =
        s.clipNotices 1 fun c =>
          if c.lane = l ∧ (c.state = .opened ∨ c.state = .closed) then some (leBytes 1 l.val ++ [0, 0, 0, 0, 1]) else none := by
      refine clipNotices_congr (s := s) (t := s.setLane l x) rfl fun e listed => ?_
      by_cases here : e.2.lane = l
      · simp [here, Clip.mayBecomeAbsent_iff, loose listed here]
        rfl
      · simp [here]
    rw [notices, State.setLane, State.posts_withLanes] at posts
    have both := congrArg (fun u : State => { u with lanes := s.lanes }) posts
    rw [State.posts_eq] at both ⊢
    exact both

/-- Settles O16. -/
theorem laneConfigStartsTheLaneAfresh : Obligations.LaneConfigStartsTheLaneAfresh := by
  unfold Obligations.LaneConfigStartsTheLaneAfresh
  intro s h l f ready sorted refused valid still onLane inUse locked apart places g
  have request {a : Answer} (answer : s.laneConfigRequest f = a) :
      exec (.laneConfig h f) s = .next (a.state.answers h .laneConfig a.status a.body) := by
    rw [exec_of_ready rfl ready, ← answer]
    rfl
  refine ⟨fun high => request (laneConfigRequest_unnamed s high), fun lane on bad => ?_, fun lane fields => ?_⟩
  · refine request (a := s.refuse .badField) ?_
    rw [laneConfigRequest_named s (enable := true) lane on]
    simp [mt (laneFieldsInRange_iff f).mp bad]
  · obtain ⟨enable, on, inRange⟩ : ∃ enable : Bool, f.enable = (if enable then 1 else 0) ∧ (enable && !laneFieldsInRange f) = false := by
      rcases fields with off | ⟨on, ok⟩
      · exact ⟨false, off, rfl⟩
      · exact ⟨true, on, by simp [(laneFieldsInRange_iff f).mpr ok]⟩
    have named := laneConfigRequest_named s (enable := enable) lane on
    have isOn : f.enable = 1 ↔ enable = true := by rw [on]; cases enable <;> simp
    have idle (h : still) : ¬((s.lane l).state ≠ .off ∧ (s.lane l).state ≠ .stopped) := fun n => h.elim n.1 n.2
    have free (h : ¬inUse) : s.laneInUse l = false := by simpa using mt (laneInUse_iff s l).mp h
    have unlocked (h : ¬locked) : s.laneLocked l = false := by simpa using mt (laneLocked_iff s l).mp h
    have sum : s.indexFits l f = decide (places ≤ 131072) := by
      simp only [State.indexFits, State.otherLanes, sum_otherLanes]
      rfl
    refine ⟨fun moving => ?_, fun quiet used => ?_, fun quiet unused held => ?_, fun quiet unused loose enabled near => ?_,
      fun quiet unused loose enabled fits many => ?_, fun quiet unused loose fits => ?_⟩
    · refine request (a := s.refuse .busy) ?_
      rw [named, inRange, if_pos (not_or.mp moving)]
      rfl
    · refine request (a := s.refuse .busy) ?_
      rw [named, inRange, if_neg (idle quiet), if_pos ((laneInUse_iff s l).mpr used)]
      rfl
    · refine request (a := s.refuse .lockedFrames) ?_
      rw [named, inRange, if_neg (idle quiet), free unused, if_pos ((laneLocked_iff s l).mpr held)]
      rfl
    · refine request (a := s.refuse .overlap) ?_
      rw [named, inRange, if_neg (idle quiet), free unused, unlocked loose, isOn.mp enabled]
      simp [mt (regionFits_iff s l f).mp near]
    · refine request (a := s.refuse .noRoom) ?_
      rw [named, inRange, if_neg (idle quiet), free unused, unlocked loose, isOn.mp enabled, (regionFits_iff s l f).mpr fits, sum]
      simp [Nat.not_le.mpr many]
    · have region : (enable && !s.regionFits l f) = false := by
        rcases fits with off | ⟨far, -⟩
        · have : enable = false := by simpa [off] using isOn
          simp [this]
        · simp [(regionFits_iff s l f).mpr far]
      have index : (enable && !s.indexFits l f) = false := by
        rcases fits with off | ⟨-, few⟩
        · have : enable = false := by simpa [off] using isOn
          simp [this]
        · simp [sum, few]
      obtain ⟨lanes, others, clips, posts⟩ := laneConfigured_setLane sorted loose ((s.lane l).configured f enable)
      refine ⟨_, request (a := State.accept _ []) ?_, ?_, others, clips, posts⟩
      · rw [named, inRange, if_neg (idle quiet), free unused, unlocked loose, region, index]
        rfl
      · refine lanes.trans ?_
        cases enable <;> simp [Lane.configured, g, on]


/-! ### Lane masks (R205) -/

theorem getLsbD_foldl_mask (ns : List Nat) (m : BitVec 8) (j : Fin 8) :
    (ns.foldl (fun m i => m ||| BitVec.ofNat 8 (2 ^ i)) m).getLsbD j.val = true ↔ m.getLsbD j.val = true ∨ j.val ∈ ns := by
  induction ns generalizing m with
  | nil => simp
  | cons i ns ih =>
    have bit : (BitVec.ofNat 8 (2 ^ i)).getLsbD j.val = true ↔ j.val = i := by
      rw [BitVec.getLsbD_ofNat, Nat.testBit_two_pow]
      simp [j.isLt, eq_comm]
    rw [List.foldl_cons, ih, BitVec.getLsbD_or, Bool.or_eq_true, bit, List.mem_cons, or_assoc]

/-- The bits of a mask are the numbers it names. -/
theorem getLsbD_maskOf (ns : List Nat) (j : Fin 8) : (maskOf ns).getLsbD j.val = true ↔ j.val ∈ ns := by
  rw [maskOf, getLsbD_foldl_mask]
  simp

theorem mem_maskLanes {m : BitVec 8} {l : Fin 8} : l ∈ maskLanes m ↔ m.getLsbD l.val = true := by
  rw [maskLanes, List.mem_filter]
  exact and_iff_right (mem_allLanes l)

theorem maskLanes_nodup (m : BitVec 8) : (maskLanes m).Nodup := by
  have : allLanes.Nodup := by decide
  exact this.filter _

/-! ### REC START (R19) -/

theorem recStartOne_eq (a : State × List Nat) (l : Fin 8) :
    recStartOne a l =
      if (a.1.lane l).mayStart then (a.1.setLane l (a.1.lane l).started, a.2) else (a.1, a.2 ++ [l.val]) := rfl

theorem Lane.mayStart_iff (x : Lane) :
    x.mayStart = true ↔ (x.state = .stopped ∨ x.state = .stopping) ∧ x.periodBase + x.arrivals + x.p - 1 ≤ 4294967295 := by
  simp [Lane.mayStart, Lane.nextLfn, maxLfn]

/-- REC START at several lanes starts those that may, and names the others. -/
theorem foldl_recStartOne {ls : List (Fin 8)} (hn : ls.Nodup) (a : State × List Nat) :
    (∀ l, (ls.foldl recStartOne a).1.lane l =
      if l ∈ ls ∧ (a.1.lane l).mayStart = true then (a.1.lane l).started else a.1.lane l) ∧
    { (ls.foldl recStartOne a).1 with lanes := a.1.lanes } = a.1 ∧
    (ls.foldl recStartOne a).2 = a.2 ++ (ls.filter fun l => !(a.1.lane l).mayStart).map Fin.val := by
  induction ls generalizing a with
  | nil => simp
  | cons k ls ih =>
    obtain ⟨new, rest⟩ := List.nodup_cons.mp hn
    obtain ⟨lanes, others, skipped⟩ := ih rest (recStartOne a k)
    rw [List.foldl_cons]
    by_cases may : (a.1.lane k).mayStart = true
    · have one : recStartOne a k = (a.1.setLane k (a.1.lane k).started, a.2) := by rw [recStartOne_eq, if_pos may]
      rw [one] at lanes others skipped ⊢
      refine ⟨fun l => ?_, ?_, ?_⟩
      · rw [lanes l]
        by_cases same : k = l
        · subst same; simp [new, may]
        · simp [State.lane_setLane_ne _ _ same, Ne.symm same]
      · exact congrArg (fun u : State => { u with lanes := a.1.lanes }) others
      · have same : (ls.filter fun l => !((a.1.setLane k (a.1.lane k).started).lane l).mayStart) =
            ls.filter fun l => !(a.1.lane l).mayStart :=
          List.filter_congr fun l hl => by rw [State.lane_setLane_ne _ _ (by rintro rfl; exact new hl)]
        rw [skipped, same]
        simp [may]
    · have one : recStartOne a k = (a.1, a.2 ++ [k.val]) := by rw [recStartOne_eq, if_neg may]
      rw [one] at lanes others skipped ⊢
      refine ⟨fun l => ?_, others, ?_⟩
      · rw [lanes l]
        by_cases same : l = k
        · subst same; simp [may]
        · simp [same]
      · rw [skipped]
        simp [may]

/-! ### REC STOP (R20, R21) -/

/-- The lane right after it leaves RECORDING. -/
def Lane.stopped (x : Lane) (cause : StopCause) : Lane :=
  { x with state := if x.writing = 0 then .stopped else .stopping, stopCause := cause }

theorem newestBytes_ownBytes (x : Lane) (z : Nat) : x.newestBytes (ownBytes z 0 4 (x.newestAssigned.map lfnBytes)) := by
  refine ⟨?_, fun a h => by simp [h, ownBytes]⟩
  cases x.newestAssigned with
  | none => simp [ownBytes, absentBytes]
  | some a => rfl

theorem flagBytes_isSome {α : Type} (o : Option α) : flagBytes o.isSome = leBytes 1 (if o = none then 0 else 1) := by
  cases o <;> rfl

/-- A lane enters STOPPED with its notice. -/
theorem enterStopped_eq (s : State) (l : Fin 8) :
    s.enterStopped l = (s.setLane l { s.lane l with state := .stopped }).post .lane 2 l.val
      ((s.lane l).stoppedData (ownBytes s.fresh 0 4 ((s.lane l).newestAssigned.map lfnBytes)) (s.lane l).stopCause.code) := by
  simp only [State.enterStopped, Lane.stoppedData, flagBytes_isSome]

theorem setLane_setLane (s : State) (l : Fin 8) (x y : Lane) : (s.setLane l x).setLane l y = s.setLane l y := by
  simp [State.setLane]

/-- A lane that leaves RECORDING, with LANE/STOPPED where no write is pending. -/
theorem stopLane_posts (s : State) (l : Fin 8) (cause : StopCause) :
    ∃ own, (s.lane l).newestBytes own ∧ s.stopLane l cause = (s.setLane l ((s.lane l).stopped cause)).posts
      (if (s.lane l).writing = 0 then [(.lane, 2, l.val, (s.lane l).stoppedData own cause.code)] else []) := by
  refine ⟨_, newestBytes_ownBytes (s.lane l) s.fresh, ?_⟩
  simp only [State.stopLane, Lane.stopped]
  by_cases none : (s.lane l).writing = 0
  · rw [if_pos (by exact none), if_pos none, enterStopped_eq, State.lane_setLane, setLane_setLane, if_pos none]
    rfl
  · rw [if_neg (by exact none), if_neg none, if_neg none]
    rfl

theorem State.posts_lane (s : State) (ns : List (NoticeClass × Nat × Nat × List Byte)) (l : Fin 8) :
    (s.posts ns).lane l = s.lane l := by
  rw [State.posts_eq]
  rfl

theorem stopLane_lane (s : State) (l : Fin 8) (cause : StopCause) (m : Fin 8) :
    (s.stopLane l cause).lane m = if l = m then (s.lane m).stopped cause else s.lane m := by
  obtain ⟨own, -, stop⟩ := stopLane_posts s l cause
  rw [stop, State.posts_lane, State.lane_setLane_eq]
  split
  next same => rw [same]
  next => rfl

theorem State.setLane_posts_withLanes (s : State) (l : Fin 8) (x : Lane) (ns : List (NoticeClass × Nat × Nat × List Byte)) :
    { (s.setLane l x).posts ns with lanes := s.lanes } = s.posts ns := by
  rw [State.setLane, State.posts_withLanes, State.posts_eq s]

theorem Lane.newestBytes.congr {x y : Lane} (h : y.newestAssigned = x.newestAssigned) {own : List Byte} (b : x.newestBytes own) :
    y.newestBytes own := ⟨b.1, fun a ha => b.2 a (h ▸ ha)⟩

theorem Lane.stoppedData_congr {x y : Lane} (h : y.newestAssigned = x.newestAssigned) (own : List Byte) (cause : Nat) :
    y.stoppedData own cause = x.stoppedData own cause := by
  simp only [Lane.stoppedData, h]

/-- REC STOP at several lanes stops those that record, and names the others. -/
theorem foldl_recStopOne {ls : List (Fin 8)} (hn : ls.Nodup) (a : State × List Nat) :
    (∀ l, (ls.foldl recStopOne a).1.lane l =
      if l ∈ ls ∧ (a.1.lane l).state = .recording then (a.1.lane l).stopped .recStop else a.1.lane l) ∧
    (ls.foldl recStopOne a).2 = a.2 ++ (ls.filter fun l => (a.1.lane l).state != .recording).map Fin.val := by
  induction ls generalizing a with
  | nil => simp
  | cons k ls ih =>
    obtain ⟨new, rest⟩ := List.nodup_cons.mp hn
    obtain ⟨lanes, skipped⟩ := ih rest (recStopOne a k)
    rw [List.foldl_cons]
    by_cases records : (a.1.lane k).state = .recording
    · have one : recStopOne a k = (a.1.stopLane k .recStop, a.2) := if_pos records
      rw [one] at lanes skipped ⊢
      refine ⟨fun l => ?_, ?_⟩
      · rw [lanes l, stopLane_lane]
        by_cases same : k = l
        · subst same; simp [new, records]
        · simp [same, Ne.symm same]
      · have same : (ls.filter fun l => ((a.1.stopLane k .recStop).lane l).state != .recording) =
            ls.filter fun l => (a.1.lane l).state != .recording :=
          List.filter_congr fun l hl => by rw [stopLane_lane, if_neg (by rintro rfl; exact new hl)]
        rw [skipped, same]
        simp [records]
    · have one : recStopOne a k = (a.1, a.2 ++ [k.val]) := if_neg records
      rw [one] at lanes skipped ⊢
      refine ⟨fun l => ?_, ?_⟩
      · rw [lanes l]
        by_cases same : l = k
        · subst same; simp [records]
        · simp [same]
      · rw [skipped]
        simp [records]

/-- Nothing but lanes and notices changes at REC STOP: LANE/STOPPED is posted for each lane that stops at once. -/
theorem foldl_recStopOne_posts {ls : List (Fin 8)} (hn : ls.Nodup) (a : State × List Nat) :
    ∃ own : Fin 8 → List Byte, (∀ l, (a.1.lane l).newestBytes (own l)) ∧
      { (ls.foldl recStopOne a).1 with lanes := a.1.lanes } =
        a.1.posts ((ls.filter fun l => (a.1.lane l).state == .recording && (a.1.lane l).writing == 0).map fun l =>
          (.lane, 2, l.val, (a.1.lane l).stoppedData (own l) 0)) := by
  induction ls generalizing a with
  | nil => exact ⟨fun l => _, fun l => newestBytes_ownBytes (a.1.lane l) 0, by simp⟩
  | cons k ls ih =>
    obtain ⟨new, rest⟩ := List.nodup_cons.mp hn
    obtain ⟨own, bytes, posts⟩ := ih rest (recStopOne a k)
    rw [List.foldl_cons]
    by_cases records : (a.1.lane k).state = .recording
    · have one : recStopOne a k = (a.1.stopLane k .recStop, a.2) := if_pos records
      have other {l : Fin 8} (hl : l ∈ ls) : (a.1.stopLane k .recStop).lane l = a.1.lane l := by
        rw [stopLane_lane, if_neg (by rintro rfl; exact new hl)]
      have newest (l : Fin 8) : (a.1.lane l).newestAssigned = ((a.1.stopLane k .recStop).lane l).newestAssigned := by
        rw [stopLane_lane]
        split <;> rfl
      obtain ⟨first, firstBytes, stop⟩ := stopLane_posts a.1 k .recStop
      rw [one] at bytes posts ⊢
      refine ⟨fun l => if l = k then first else own l, fun l => ?_, ?_⟩
      · by_cases same : l = k
        · subst same; simpa using firstBytes
        · simpa [same] using (bytes l).congr (newest l)
      · have same : (ls.filter fun l => ((a.1.stopLane k .recStop).lane l).state == .recording &&
              ((a.1.stopLane k .recStop).lane l).writing == 0) =
            ls.filter fun l => (a.1.lane l).state == .recording && (a.1.lane l).writing == 0 :=
          List.filter_congr fun l hl => by rw [other hl]
        rw [same] at posts
        have data : ((ls.filter fun l => (a.1.lane l).state == .recording && (a.1.lane l).writing == 0).map fun l =>
              (NoticeClass.lane, 2, l.val, ((a.1.stopLane k .recStop).lane l).stoppedData (own l) 0)) =
            (ls.filter fun l => (a.1.lane l).state == .recording && (a.1.lane l).writing == 0).map fun l =>
              (NoticeClass.lane, 2, l.val, (a.1.lane l).stoppedData (if l = k then first else own l) 0) :=
          List.map_congr_left fun l hl => by
            have hl : l ∈ ls := (List.mem_filter.mp hl).1
            rw [other hl, if_neg (by rintro rfl; exact new hl)]
        rw [data] at posts
        refine (congrArg (fun u : State => { u with lanes := a.1.lanes }) posts).trans ?_
        rw [stop, ← State.posts_append]
        refine (State.setLane_posts_withLanes a.1 k _ _).trans (congrArg _ ?_)
        by_cases none : (a.1.lane k).writing = 0 <;> simp [records, none, StopCause.code]
    · have one : recStopOne a k = (a.1, a.2 ++ [k.val]) := if_neg records
      rw [one] at bytes posts ⊢
      exact ⟨own, bytes, by simpa [records] using posts⟩

/-- Settles O17. -/
theorem recStartAndStopActOnTheNamedLanes : Obligations.RecStartAndStopActOnTheNamedLanes := by
  unfold Obligations.RecStartAndStopActOnTheNamedLanes
  intro s h mask starts stops started stopped
  obtain ⟨startLanes, startOnly, startMask⟩ := foldl_recStartOne (maskLanes_nodup mask) (s, [])
  obtain ⟨stopLanes, stopMask⟩ := foldl_recStopOne (maskLanes_nodup mask) (s, [])
  obtain ⟨own, bytes, posts⟩ := foldl_recStopOne_posts (maskLanes_nodup mask) (s, [])
  have isStart (l : Fin 8) : starts l ↔ l ∈ maskLanes mask ∧ (s.lane l).mayStart = true := by
    rw [mem_maskLanes, Lane.mayStart_iff]
  have isStop (l : Fin 8) : stops l ↔ l ∈ maskLanes mask ∧ (s.lane l).state = .recording := by rw [mem_maskLanes]
  have hasStarted : started ((maskLanes mask).foldl recStartOne (s, [])).1 := by
    refine ⟨fun l => ⟨fun yes => ?_, fun no => ?_⟩, startOnly⟩
    · rw [startLanes l, if_pos ((isStart l).mp yes)]
      rfl
    · rw [startLanes l, if_neg (mt (isStart l).mpr no)]
  have hasStopped : stopped ((maskLanes mask).foldl recStopOne (s, [])).1 := by
    refine ⟨fun l => ⟨fun yes => ?_, fun no => ?_⟩, own, bytes, ?_⟩
    · rw [stopLanes l, if_pos ((isStop l).mp yes)]
      rfl
    · rw [stopLanes l, if_neg (mt (isStop l).mpr no)]
    · rw [posts, maskLanes, List.filter_filter]
      congr 3
      funext l
      rw [Bool.and_comm, Bool.and_assoc]
  refine ⟨fun ready => ⟨_, _, by rw [exec_of_ready rfl ready]; rfl, hasStarted, fun l => ?_⟩,
    fun all => ⟨_, exec_of_readyAll rfl all, hasStarted⟩,
    fun ready => ⟨_, _, by rw [exec_of_ready rfl ready]; rfl, hasStopped, fun l => ?_⟩,
    fun all => ⟨_, exec_of_readyAll rfl all, hasStopped⟩⟩
  · rw [getLsbD_maskOf, startMask, isStart, ← mem_maskLanes]
    simp [Fin.val_inj]
    tauto
  · rw [getLsbD_maskOf, stopMask, isStop, ← mem_maskLanes]
    simp [Fin.val_inj]
    tauto

/-! ### The tick (R23, R37) -/

theorem closeBelow_posts {s : State} (h : Sparse.Sorted s.clips) (l : Fin 8) (bound : Nat) :
    { s.closeBelow l bound with clips := s.clips } = s.posts (s.clipNotices 0 fun c => c.planned.bind fun q =>
      if c.lane = l ∧ c.state = .opened ∧ q < bound then some (leBytes 1 l.val ++ lfnBytes q) else none) := by
  cases bound with
  | zero => simp [State.closeBelow, State.clipNotices]
  | succ bound =>
    simp only [State.closeBelow, Nat.lt_succ_iff]
    exact closePlanned_posts h l bound

theorem State.posts_clips (s : State) (ns : List (NoticeClass × Nat × Nat × List Byte)) : (s.posts ns).clips = s.clips := by
  rw [State.posts_eq]

theorem State.clip_posts (s : State) (ns : List (NoticeClass × Nat × Nat × List Byte)) (n : Nat) :
    (s.posts ns).clip n = s.clip n := clip_congr (s.posts_clips ns) n

theorem State.entryTimecode_congr {s t : State} {l : Fin 8} (h : (t.lane l).entries = (s.lane l).entries) (n : Nat) :
    t.entryTimecode l n = s.entryTimecode l n := by
  simp only [State.entryTimecode, Lane.entryAt, h]

/-- A close at a planned out, as the lane of the clip makes it. -/
theorem closedAt_eq_of_lane {s t : State} {l : Fin 8} (h : (t.lane l).entries = (s.lane l).entries) {c : Clip} (here : c.lane = l)
    (q : Nat) :
    t.closedAt c q = { c with state := .closed, out := some q, planned := none, outTc := s.entryTimecode l q } := by
  simp only [State.closedAt, here, State.entryTimecode_congr h]

theorem periodTick_next {s : State} {l : Fin 8} (room : (s.lane l).periodBase + 2 * (s.lane l).p - 1 ≤ maxLfn) :
    s.periodTick l =
      (s.setLane l { s.lane l with periodBase := (s.lane l).periodBase + (s.lane l).p, arrivals := 0 }).closeBelow l
        ((s.lane l).periodBase + (s.lane l).p) := if_pos room

theorem periodTick_exhausted {s : State} {l : Fin 8} (full : ¬(s.lane l).periodBase + 2 * (s.lane l).p - 1 ≤ maxLfn) :
    s.periodTick l =
      ((s.closeBelow l (s.lane l).periodBase).stopLane l .exhaustion).post .lane 3 l.val (lfnBytes (s.lane l).periodBase) :=
  if_neg full

theorem posts_stop_exhausted (s : State) (l : Fin 8) :
    ∃ own, (s.lane l).newestBytes own ∧ ∀ base,
      (s.stopLane l .exhaustion).post .lane 3 l.val (lfnBytes base) =
        (s.setLane l ((s.lane l).stopped .exhaustion)).posts
          ((if (s.lane l).writing = 0 then [(.lane, 2, l.val, (s.lane l).stoppedData own 1)] else []) ++
            [(.lane, 3, l.val, lfnBytes base)]) := by
  obtain ⟨own, bytes, stop⟩ := stopLane_posts s l .exhaustion
  refine ⟨own, bytes, fun base => ?_⟩
  rw [stop, State.posts_append]
  rfl

/-- Settles O18. -/
theorem ticksBeginALanesNextPeriod : Obligations.TicksBeginALanesNextPeriod := by
  unfold Obligations.TicksBeginALanesNextPeriod
  intro s l sorted x t closed closes
  refine ⟨fun other => if_neg other, fun records _ room => ?_, fun records _ full => ?_⟩
  · have tick : t = (s.setLane l { x with periodBase := x.periodBase + x.p, arrivals := 0 }).closeBelow l (x.periodBase + x.p) :=
      (if_pos records).trans (periodTick_next room)
    have only := State.OnlyClips.closeBelow (s.setLane l { x with periodBase := x.periodBase + x.p, arrivals := 0 }) l (x.periodBase + x.p)
    rw [tick]
    refine ⟨by rw [only.lane, State.lane_setLane], fun n => ?_, fun m other => by rw [only.lane, State.lane_setLane_ne _ _ (Ne.symm other)], ?_⟩
    · rw [clip_closeBelow (by exact sorted)]
      simp only [closed, show ∀ y, (s.setLane l y).clip n = s.clip n from fun _ => rfl]
      cases (s.clip n).planned with
      | none => rfl
      | some q =>
        refine ite_congr rfl (fun here => ?_) fun _ => rfl
        exact closedAt_eq_of_lane (by simp [x]) here.1 q
    · have posts := closeBelow_posts (s := s.setLane l { x with periodBase := x.periodBase + x.p, arrivals := 0 }) (by exact sorted) l
        (x.periodBase + x.p)
      refine (congrArg (fun u : State => { u with lanes := s.lanes }) posts).trans ?_
      exact State.setLane_posts_withLanes s l _ _
  · have tick : t = ((s.closeBelow l x.periodBase).stopLane l .exhaustion).post .lane 3 l.val (lfnBytes x.periodBase) :=
      (if_pos records).trans (periodTick_exhausted (Nat.not_le.mpr full))
    have only := State.OnlyClips.closeBelow s l x.periodBase
    obtain ⟨own, bytes, stop⟩ := posts_stop_exhausted (s.closeBelow l x.periodBase) l
    have posts := closeBelow_posts sorted l x.periodBase
    rw [only.lane] at bytes stop
    rw [tick, stop]
    refine ⟨?_, fun n => ?_, fun m other => ?_, own, bytes, ?_⟩
    · rw [State.posts_lane, State.lane_setLane]
      rfl
    · rw [State.clip_posts, show ∀ u : State, ∀ y, (u.setLane l y).clip n = u.clip n from fun _ _ => rfl, clip_closeBelow sorted]
      simp only [closed]
      cases (s.clip n).planned with
      | none => rfl
      | some q => exact ite_congr rfl (fun here => closedAt_eq_of_lane rfl here.1 q) fun _ => rfl
    · rw [State.posts_lane, State.lane_setLane_ne _ _ (Ne.symm other), only.lane]
    · have after := congrArg (fun u : State => u.posts
        ((if x.writing = 0 then [(.lane, 2, l.val, x.stoppedData own 1)] else []) ++ [(.lane, 3, l.val, lfnBytes x.periodBase)])) posts
      rw [State.posts_withClips, ← State.posts_append, ← List.append_assoc] at after
      refine Eq.trans ?_ after
      have lanes := State.setLane_posts_withLanes (s.closeBelow l x.periodBase) l (x.stopped .exhaustion)
        ((if x.writing = 0 then [(.lane, 2, l.val, x.stoppedData own 1)] else []) ++ [(.lane, 3, l.val, lfnBytes x.periodBase)])
      rw [only.lanes] at lanes
      exact congrArg (fun u : State => { u with clips := s.clips }) lanes

/-! ### Eviction (R28, R29, R38) -/

theorem isHeld_iff (s : State) (l : Fin 8) (n : Nat) :
    s.isHeld l n = true ↔ ∃ c ∈ s.clips, c.2.locked = true ∧ c.2.lane = l ∧ c.2.covers n = true := by
  simp [State.isHeld, and_assoc]

theorem Entry.isGood_iff (e : Entry) : e.isGood = true ↔ e.status ≠ .writing := by
  unfold Entry.isGood
  cases e.status <;> simp

/-- Of entries in rising order, leaving out those with the LFN of one leaves out that one. -/
theorem filter_lfn_ne_of_rising {older newer : List Entry} {e : Entry}
    (rising : (older ++ e :: newer).Pairwise fun a b => a.lfn < b.lfn) :
    (older ++ e :: newer).filter (fun y => y.lfn != e.lfn) = older ++ newer := by
  obtain ⟨_, tail, before⟩ := List.pairwise_append.mp rising
  obtain ⟨after, _⟩ := List.pairwise_cons.mp tail
  have first : older.filter (fun y => y.lfn != e.lfn) = older :=
    List.filter_eq_self.mpr fun y hy => by simpa using (before y hy e (by simp)).ne
  have last : newer.filter (fun y => y.lfn != e.lfn) = newer :=
    List.filter_eq_self.mpr fun y hy => by simpa using (after y hy).ne'
  simp [List.filter_append, first, last]

theorem find?_append_cons {α : Type} {p : α → Bool} {older newer : List α} {e : α} (before : ∀ y ∈ older, p y = false)
    (here : p e = true) : (older ++ e :: newer).find? p = some e := by
  rw [List.find?_append, List.find?_eq_none.mpr fun y hy => by simp [before y hy]]
  simp [here]

theorem makeRoom_of_free {s : State} {l : Fin 8} (h : (s.lane l).freeSlots ≠ []) : s.makeRoom l = s := by
  simp only [State.makeRoom]
  split
  next => rfl
  next none => exact absurd none h

theorem makeRoom_of_full {s : State} {l : Fin 8} (h : (s.lane l).freeSlots = []) {e : Entry} (found : s.evictable l = some e) :
    s.makeRoom l = s.evict l e := by
  simp only [State.makeRoom, h, found]

/-- Settles O20. -/
theorem evictionTakesTheOldestUnprotected : Obligations.EvictionTakesTheOldestUnprotected := by
  unfold Obligations.EvictionTakesTheOldestUnprotected
  intro s l sorted sound x protects
  refine ⟨makeRoom_of_free, fun full older e newer entries before unprotected => ?_⟩
  have test (y : Entry) : (y.isGood && y.readCount == 0 && !s.isHeld l y.lfn) = true ↔ ¬protects y := by
    simp only [Bool.and_eq_true, Entry.isGood_iff, beq_iff_eq, Bool.not_eq_true', ← Bool.not_eq_true, isHeld_iff, protects, not_or,
      not_not, and_assoc]
  have found : s.evictable l = some e := by
    rw [State.evictable, show (s.lane l).entries = _ from entries]
    exact find?_append_cons (fun y hy => by simpa only [Bool.not_eq_true] using mt (test y).mp (not_not.mpr (before y hy)))
      ((test e).mpr unprotected)
  have left : { x.removeEntry e with evicted := x.evicted + 1 } =
      { x with entries := older ++ newer, freeSlots := [e.slot], evicted := x.evicted + 1 } := by
    rw [Lane.removeEntry, entries, filter_lfn_ne_of_rising (entries ▸ sound.rising), full]
    rfl
  have room : s.makeRoom l = (s.setLane l { x.removeEntry e with evicted := x.evicted + 1 }).evictedAt l e.lfn :=
    makeRoom_of_full full found
  have only : (s.setLane l { x.removeEntry e with evicted := x.evicted + 1 }).OnlyClips (s.makeRoom l) := by
    rw [room]
    exact .foldl (fun t n => .makeAbsent t l e.lfn 0 n) _ _
  have goes (c : Clip) : (c.mayBecomeAbsent && c.covers e.lfn) = true ↔
      c.locked = false ∧ (c.state = .opened ∨ c.state = .closed) ∧ c.covers e.lfn = true := by
    rw [Bool.and_eq_true, Clip.mayBecomeAbsent_iff, and_assoc]
  refine ⟨by rw [only.lane, State.lane_setLane, left], fun n => ?_,
    fun m other => by rw [only.lane, State.lane_setLane_ne _ _ (Ne.symm other)], ?_⟩
  · have change := clip_foldl_makeAbsent (s := s.setLane l { x.removeEntry e with evicted := x.evicted + 1 }) (by exact sorted) l
      (p := fun c => c.mayBecomeAbsent && c.covers e.lfn) rfl e.lfn 0 n
    rw [room]
    refine change.trans ?_
    simp only [goes, show ∀ y, (s.setLane l y).clip n = s.clip n from fun _ => rfl]
    refine ite_congr rfl (fun here => if_neg ?_) fun _ => rfl
    rcases here.2.2.1 with h | h <;> simp [h]
  · have posts := foldl_makeAbsent_posts (s := s.setLane l { x.removeEntry e with evicted := x.evicted + 1 }) (by exact sorted) l
      (fun c => c.mayBecomeAbsent && c.covers e.lfn) e.lfn 0
    simp only [goes] at posts
    rw [room]
    refine (congrArg (fun u : State => { u with lanes := s.lanes }) posts).trans ?_
    exact State.setLane_posts_withLanes s l _ _

/-! ### The held count (R34, R35) -/

theorem LfnRange.has_iff (r : LfnRange) (n : Nat) : r.has n = true ↔ r.lo ≤ n ∧ ∀ hi, r.hi = some hi → n ≤ hi := by
  unfold LfnRange.has
  cases r.hi <;> simp

/-- Settles O21. -/
theorem theHeldCountFollowsLocks : Obligations.TheHeldCountFollowsLocks := by
  unfold Obligations.TheHeldCountFollowsLocks
  intro s l r x n
  have count : s.unheldIn l r = n := by
    simp only [State.unheldIn, List.countP_eq_length_filter, n, State.isHeld, x]
    congr 3
    funext e
    rw [Bool.eq_iff_iff.mpr ((LfnRange.has_iff r e.lfn).trans decide_eq_true_iff.symm)]
  refine ⟨fun above => ?_, fun within => ?_, ?_⟩
  · simp only [State.admitLock, count]
    exact if_pos above
  · simp only [State.admitLock, count]
    exact if_neg (Nat.not_lt.mpr within)
  · simp only [State.release, count]
    rfl

/-! ### The signal and ingest damage (R22, R31) -/

theorem writing_eq_zero_iff (x : Lane) : x.writing = 0 ↔ ∀ y ∈ x.entries, y.status ≠ .writing := by
  simp [Lane.writing, List.countP_eq_zero]

theorem signalReport_changed {s : State} {l : Fin 8} {present : Bool} (change : (s.lane l).signal ≠ present) :
    s.signalReport l present =
      let t := if present then s else s.endDamaged l none
      let u := t.setLane l { t.lane l with signal := present }
      if (t.lane l).state = .off then u
      else u.post .lane (if present then 1 else 0) l.val (leBytes 1 (t.lane l).state.code) := by
  simp only [State.signalReport, if_neg change, State.modifyLane, State.lane_setLane]

theorem StopCause.code_eq (c : StopCause) : c.code = if c = .recStop then 0 else 1 := by
  cases c <;> rfl

/-- A STOPPING lane without pending writes enters STOPPED, with its notice. -/
theorem settleStopping_posts (s : State) (l : Fin 8) :
    ∃ own, (s.lane l).newestBytes own ∧ s.settleStopping l =
      if (s.lane l).state = .stopping ∧ (s.lane l).writing = 0 then
        (s.setLane l { s.lane l with state := .stopped }).posts
          [(.lane, 2, l.val, (s.lane l).stoppedData own (s.lane l).stopCause.code)]
      else s := by
  refine ⟨_, newestBytes_ownBytes (s.lane l) s.fresh, ?_⟩
  simp only [State.settleStopping, enterStopped_eq, State.posts_cons, State.posts_nil]

theorem settleStopping_lane (s : State) (l m : Fin 8) :
    (s.settleStopping l).lane m =
      if l = m ∧ (s.lane l).state = .stopping ∧ (s.lane l).writing = 0 then { s.lane l with state := .stopped } else s.lane m := by
  obtain ⟨own, -, settle⟩ := settleStopping_posts s l
  rw [settle]
  by_cases stops : (s.lane l).state = .stopping ∧ (s.lane l).writing = 0
  · rw [if_pos stops, State.posts_lane, State.lane_setLane_eq]
    simp [stops]
  · rw [if_neg stops, if_neg fun h => stops h.2]

theorem post_setLane (s : State) (l : Fin 8) (x : Lane) (k : NoticeClass) (a b : Nat) (d : List Byte) :
    (s.post k a b d).setLane l x = (s.setLane l x).post k a b d := by
  rw [State.post_eq, State.post_eq]
  rfl

/-- The Transfer Engine after a frame write is cancelled. -/
def State.cancelledXfer (s : State) (l : Fin 8) (n : Nat) : Xfer := (s.cancelWrite l n).xfer

theorem cancelWrite_eq (s : State) (l : Fin 8) (n : Nat) :
    s.cancelWrite l n = { s with xfer := s.cancelledXfer l n, emitted := s.emitted ++ [.dropBlocks l (some n)] } := rfl

theorem cancelWrite_ingest (s : State) (l : Fin 8) (n : Nat) (m : Fin 8) :
    (s.cancelWrite l n).ingest m = if l = m then (s.ingest l).filter (fun w => w.lfn != n) else s.ingest m := by
  simp only [State.cancelWrite, State.ingest, State.emit, State.setService, State.setIngest]
  by_cases same : l = m
  · subst same; simp
  · have : l.val ≠ m.val := fun h => same (Fin.ext h)
    simp [same, this]

/-- Notices posted over a change of lanes, transfers and emissions are those posted without it. -/
theorem State.posts_restored (s : State) (lanes : Vector Lane 8) (xfer : Xfer) (emitted : List Emission)
    (ns : List (NoticeClass × Nat × Nat × List Byte)) :
    { { s with lanes, xfer, emitted }.posts ns with lanes := s.lanes, xfer := s.xfer, emitted := s.emitted } = s.posts ns := by
  rw [State.posts_over (s := s) (t := { s with lanes, xfer, emitted }) rfl rfl rfl, State.posts_eq s]

/-- The lane after ingest damage of the frame of one of its entries. -/
def Lane.damagedAt (x : Lane) (e : Entry) (held : Bool) : Lane :=
  { x.removeEntry e with held := if held then x.held - 1 else x.held, damaged := x.damaged + 1 }

/-- Ingest damage of a WRITING entry's frame: what is cancelled, and the notices in their order. -/
theorem damageFrame_posts {s : State} {l : Fin 8} {lfn : Nat} {e : Entry}
    (found : ((s.lane l).entries.find? fun e => e.lfn == lfn && e.status == .writing) = some e) :
    let y := (s.lane l).damagedAt e (s.isHeld l lfn)
    ∃ own, (s.lane l).newestBytes own ∧ s.damageFrame l lfn =
      ((s.setLane l (if y.state = .stopping ∧ y.writing = 0 then { y with state := .stopped } else y)).cancelWrite l lfn).posts
        ((.cadence, 2, l.val, lfnBytes lfn ++ leBytes 2 e.slot) ::
          if y.state = .stopping ∧ y.writing = 0 then [(.lane, 2, l.val, y.stoppedData own y.stopCause.code)] else []) := by
  intro y
  have damaged : s.damageFrame l lfn =
      (((s.setLane l y).cancelWrite l lfn).post .cadence 2 l.val (lfnBytes lfn ++ leBytes 2 e.slot)).settleStopping l := by
    simp only [State.damageFrame, found]
    rfl
  obtain ⟨own, bytes, settle⟩ :=
    settleStopping_posts (((s.setLane l y).cancelWrite l lfn).post .cadence 2 l.val (lfnBytes lfn ++ leBytes 2 e.slot)) l
  have lane : (((s.setLane l y).cancelWrite l lfn).post .cadence 2 l.val (lfnBytes lfn ++ leBytes 2 e.slot)).lane l = y :=
    (State.lane_congr (State.post_lanes _ _ _ _ _) l).trans (State.lane_setLane s l y)
  rw [lane] at bytes settle
  refine ⟨own, bytes, ?_⟩
  rw [damaged, settle]
  by_cases stops : y.state = .stopping ∧ y.writing = 0
  · rw [if_pos stops, if_pos stops, if_pos stops, post_setLane]
    simp [State.cancelWrite, State.setLane, State.setIngest, State.setService, State.emit, State.ingest]
  · rw [if_neg stops, if_neg stops, if_neg stops]
    rfl

theorem exec_frameEnd {s : State} (running : s.resetHeld = false) (l : Fin 8) (x : FrameEnd) :
    exec (.frameEnd l x) s = .next (s.frameEnds l x) := by
  simp [exec, execFrameEnd, State.whenRunning, running]

/-- Settles O22. -/
theorem signalAndDamageAreTakenByTheLane : Obligations.SignalAndDamageAreTakenByTheLane := by
  unfold Obligations.SignalAndDamageAreTakenByTheLane
  refine ⟨fun s l running => ?_,
    fun s l frame lfn n port unended fault older newer e running sound ends bad entries isLfn writing => ?_⟩
  · intro reported
    have signal (present : Bool) : exec (.signalChange l present) s = .next (s.signalReport l present) := by
      simp [exec, execSignalChange, State.whenRunning, running]
    refine ⟨fun absent => ?_, fun present => ?_, ?_⟩
    · rw [signal, signalReport_changed (by simp [absent])]
      rfl
    · rw [signal, signalReport_changed (by simp [present])]
      rfl
    · rw [signal, State.signalReport, if_pos rfl]
  · intro x heldBefore last
    let t := s.setLane l { x with port, unended }
    have taken : s.frameEnds l { frame, streamFault := fault } = t.damageFrame l lfn := by
      rw [State.frameEnds_of_ends ends]
      exact if_pos (by simpa using bad)
    have lane : t.lane l = { x with port, unended } := State.lane_setLane _ _ _
    have others (y : Entry) (hy : y ∈ older) : (y.lfn == lfn && y.status == .writing) = false := by
      have : y.lfn < e.lfn := (List.pairwise_append.mp (entries ▸ sound.rising)).2.2 y hy e (by simp)
      simp [← isLfn, this.ne]
    have found : ((t.lane l).entries.find? fun e => e.lfn == lfn && e.status == .writing) = some e := by
      rw [lane, show ({ x with port, unended } : Lane).entries = _ from entries]
      exact find?_append_cons others (by simp [isLfn, writing])
    obtain ⟨own, bytes, damage⟩ := damageFrame_posts found
    have after : (t.lane l).damagedAt e (t.isHeld l lfn) =
        { x with
          entries := older ++ newer, freeSlots := insertSlot x.freeSlots e.slot,
          held := if heldBefore then x.held - 1 else x.held, damaged := x.damaged + 1, port, unended } := by
      rw [lane]
      have left : x.entries.filter (fun y => y.lfn != e.lfn) = older ++ newer := by
        rw [show x.entries = _ from entries]
        exact filter_lfn_ne_of_rising (entries ▸ sound.rising)
      simp only [Lane.damagedAt, Lane.removeEntry, left]
      rfl
    have stops : ((t.lane l).damagedAt e (t.isHeld l lfn)).state = .stopping ∧
        ((t.lane l).damagedAt e (t.isHeld l lfn)).writing = 0 ↔ x.state = .stopping ∧ last = true := by
      rw [after, writing_eq_zero_iff, decide_eq_true_iff]
    simp only [stops] at damage
    refine ⟨t.damageFrame l lfn, by rw [exec_frameEnd running, taken], ?_, ?_, ?_, fun m other => ⟨?_, ?_⟩, own, ?_, ?_⟩
    · rw [damage, State.posts_lane]
      refine (State.lane_setLane _ _ _).trans ?_
      rw [after]
      by_cases h : x.state = .stopping ∧ last = true
      · rw [if_pos h, if_pos h]
      · rw [if_neg h, if_neg h]
    · rw [damage, State.posts_eq]
      exact (cancelWrite_ingest _ l lfn l).trans (if_pos rfl)
    · rw [damage, State.posts_eq]
      rfl
    · rw [damage, State.posts_lane]
      exact ((State.lane_setLane_ne _ _ (Ne.symm other)).trans (State.lane_setLane_ne _ _ (Ne.symm other)))
    · rw [damage, State.posts_eq]
      exact (cancelWrite_ingest _ l lfn m).trans (if_neg (Ne.symm other))
    · rw [lane] at bytes
      exact bytes.congr rfl
    · have notice : ((t.lane l).damagedAt e (t.isHeld l lfn)).stoppedData own
          ((t.lane l).damagedAt e (t.isHeld l lfn)).stopCause.code =
          x.stoppedData own (if x.stopCause = .recStop then 0 else 1) := by
        rw [after, StopCause.code_eq]
        exact Lane.stoppedData_congr (x := x) rfl _ _
      rw [damage, notice, cancelWrite_eq]
      exact State.posts_restored s _ _ _ _

end Sys2Proof.Machine

/-!
PROOFS. Frame arrivals (spec/02, R24, R25, R39).
-/

namespace Sys2Proof.Machine

/-! ### Changes that list no other clip -/

theorem Sparse.map_fst_insert {α : Type} {t : List (Nat × α)} {n : Nat} (sorted : Sparse.Sorted t) (listed : n ∈ t.map Prod.fst)
    (v : α) : (Sparse.insert t n v).map Prod.fst = t.map Prod.fst := by
  induction t with
  | nil => simp at listed
  | cons e t ih =>
    obtain ⟨k, w⟩ := e
    obtain ⟨before, rest⟩ := List.pairwise_cons.mp sorted
    rw [Sparse.insert]
    by_cases same : n = k
    · subst same; simp
    · have deeper : n ∈ t.map Prod.fst := by simpa [same] using listed
      obtain ⟨e, he, rfl⟩ := List.mem_map.mp deeper
      rw [if_neg (Nat.not_lt.mpr (before e he).le), if_neg same, List.map_cons, ih rest deeper, List.map_cons]

/-- The clips that are not FREE stay those, in their order. -/
def State.SameNumbers (s t : State) : Prop :=
  Sparse.Sorted s.clips → Sparse.Sorted t.clips ∧ t.clips.map Prod.fst = s.clips.map Prod.fst

namespace State.SameNumbers

theorem refl (s : State) : s.SameNumbers s := fun sorted => ⟨sorted, rfl⟩

theorem of_clips {s t : State} (h : t.clips = s.clips) : s.SameNumbers t := fun sorted => ⟨h ▸ sorted, by rw [h]⟩

theorem trans {s t u : State} (h : s.SameNumbers t) (k : t.SameNumbers u) : s.SameNumbers u := fun sorted =>
  ⟨(k (h sorted).1).1, (k (h sorted).1).2.trans (h sorted).2⟩

theorem post (s : State) (k : NoticeClass) (a b : Nat) (d : List Byte) : s.SameNumbers (s.post k a b d) :=
  of_clips (State.post_clips _ _ _ _ _)

theorem modifyClip (s : State) (n : Nat) {f : Clip → Clip} (hf : (s.clip n).state ≠ .free → (f (s.clip n)).state ≠ .free) :
    s.SameNumbers (s.modifyClip n f) := by
  intro sorted
  by_cases free : (s.clip n).state = .free
  · have same : s.modifyClip n f = s := if_pos free
    rw [same]
    exact ⟨sorted, rfl⟩
  · have clips : (s.modifyClip n f).clips = Sparse.insert s.clips n (f (s.clip n)) := by
      rw [State.modifyClip, if_neg free, State.setClip, if_neg (hf free)]
    rw [clips]
    exact ⟨Sparse.sorted_insert n _ sorted,
      Sparse.map_fst_insert sorted (List.mem_map.mpr ⟨_, clip_mem_of_state free, rfl⟩) _⟩

theorem closeClip (s : State) (n out : Nat) : s.SameNumbers (s.closeClip n out) := modifyClip s n fun _ => by simp

theorem closePlannedClip (s : State) (l : Fin 8) (n : Nat) : s.SameNumbers (s.closePlannedClip l n) := by
  simp only [State.closePlannedClip]
  split
  · exact refl s
  · exact (closeClip s n _).trans (post _ _ _ _ _)

theorem closeAtCeiling (s : State) (l : Fin 8) (out arrival n : Nat) : s.SameNumbers (s.closeAtCeiling l out arrival n) :=
  (closeClip s n out).trans (post _ _ _ _ _)

theorem makeAbsent (s : State) (l : Fin 8) (lfn cause n : Nat) : s.SameNumbers (s.makeAbsent l lfn cause n) :=
  (modifyClip s n fun _ => by simp).trans (post _ _ _ _ _)

theorem foldl {α : Type} {f : State → α → State} (h : ∀ t a, State.SameNumbers t (f t a)) (l : List α) (s : State) :
    s.SameNumbers (l.foldl f s) := by
  induction l generalizing s with
  | nil => exact refl s
  | cons a l ih => exact (h s a).trans (ih (f s a))

theorem closePlanned (s : State) (l : Fin 8) (bound : Nat) : s.SameNumbers (s.closePlanned l bound) :=
  foldl (fun t n => closePlannedClip t l n) _ _

theorem closeBelow (s : State) (l : Fin 8) (bound : Nat) : s.SameNumbers (s.closeBelow l bound) := by
  cases bound with
  | zero => exact refl s
  | succ bound => exact closePlanned s l bound

theorem evictedAt (s : State) (l : Fin 8) (lfn : Nat) : s.SameNumbers (s.evictedAt l lfn) :=
  foldl (fun t n => makeAbsent t l lfn 0 n) _ _

theorem laneConfigured (s : State) (l : Fin 8) : s.SameNumbers (s.laneConfigured l) :=
  foldl (fun t n => makeAbsent t l 0 1 n) _ _

theorem makeRoom (s : State) (l : Fin 8) : s.SameNumbers (s.makeRoom l) := by
  simp only [State.makeRoom]
  split
  · exact refl s
  · split
    · exact refl s
    · exact (of_clips (State.modifyLane_clips _ _ _)).trans (evictedAt _ l _)

end State.SameNumbers

/-- The notices of clips by their numbers. -/
theorem clipNotices_eq_numbers {s : State} (sorted : Sparse.Sorted s.clips) (code : Nat) (d : Clip → Option (List Byte)) :
    s.clipNotices code d =
      (s.clips.map Prod.fst).filterMap fun n => (d (s.clip n)).map fun b => (NoticeClass.clip, code, n, b) := by
  rw [State.clipNotices, List.filterMap_map]
  refine List.filterMap_congr fun e he => ?_
  have : s.clip e.1 = e.2 := by
    rw [State.clip, Sparse.lookup_of_mem sorted (by exact he)]
    rfl
  simp only [Function.comp, this]

theorem clipNotices_of_sameNumbers {s t : State} (sorted : Sparse.Sorted s.clips) (same : s.SameNumbers t) {code : Nat}
    {d d' : Clip → Option (List Byte)} (h : ∀ n, d (t.clip n) = d' (s.clip n)) : t.clipNotices code d = s.clipNotices code d' := by
  obtain ⟨after, numbers⟩ := same sorted
  rw [clipNotices_eq_numbers sorted, clipNotices_eq_numbers after, numbers]
  simp only [h]

/-! ### What an eviction leaves of the lane -/

theorem State.OnlyClips.evictedAt (s : State) (l : Fin 8) (lfn : Nat) : s.OnlyClips (s.evictedAt l lfn) :=
  .foldl (fun t n => .makeAbsent t l lfn 0 n) _ _

/-- Making room changes the partition and the EVICTED count of the lane alone, and its clips. -/
structure Lane.RoomMade (x y : Lane) : Prop where
  partition : { y with entries := x.entries, freeSlots := x.freeSlots, evicted := x.evicted } = x
  sublist : y.entries.Sublist x.entries

theorem Lane.RoomMade.refl (x : Lane) : x.RoomMade x := ⟨rfl, List.Sublist.refl _⟩

theorem makeRoom_eq (s : State) (l : Fin 8) :
    ∃ y, (s.lane l).RoomMade y ∧ (s.setLane l y).OnlyClips (s.makeRoom l) := by
  have same : s.setLane l (s.lane l) = s := by
    simp [State.setLane, State.lane]
  simp only [State.makeRoom]
  split
  · exact ⟨_, .refl _, by rw [same]; exact .refl s⟩
  · split
    · exact ⟨_, .refl _, by rw [same]; exact .refl s⟩
    next e _ => exact ⟨{ (s.lane l).removeEntry e with evicted := (s.lane l).evicted + 1 }, ⟨rfl, List.filter_sublist⟩, .evictedAt _ l _⟩

/-! ### The port at an arrival -/

/-- The port goes on to another frame and is told what becomes of it. -/
def State.portGoesOn (s : State) (l : Fin 8) (port : PortFrame) (unended : List TakenFrame) (e : Emission) : State :=
  { s.setLane l { s.lane l with port, unended } with emitted := s.emitted ++ [e] }

theorem discardArrival_eq (s : State) (l : Fin 8) :
    s.discardArrival l = s.portGoesOn l .dropping (s.lane l).passed (.discard l) := by
  simp only [State.discardArrival, State.modifyLane, Lane.nextFrame_eq]
  rfl

theorem portGoesOn_lane (s : State) (l : Fin 8) (port : PortFrame) (unended : List TakenFrame) (e : Emission) :
    (s.portGoesOn l port unended e).lane l = { s.lane l with port, unended } := State.lane_setLane s l _

theorem portGoesOn_lane_ne (s : State) {l m : Fin 8} (other : m ≠ l) (port : PortFrame) (unended : List TakenFrame) (e : Emission) :
    (s.portGoesOn l port unended e).lane m = s.lane m := State.lane_setLane_ne s _ (Ne.symm other)

theorem portGoesOn_emitted (s : State) (l : Fin 8) (port : PortFrame) (unended : List TakenFrame) (e : Emission) :
    (s.portGoesOn l port unended e).emitted = s.emitted ++ [e] := rfl

theorem portGoesOn_clip (s : State) (l : Fin 8) (port : PortFrame) (unended : List TakenFrame) (e : Emission) (n : Nat) :
    (s.portGoesOn l port unended e).clip n = s.clip n := rfl

theorem portGoesOn_entryTimecode (s : State) (l : Fin 8) (port : PortFrame) (unended : List TakenFrame) (e : Emission) (n : Nat) :
    (s.portGoesOn l port unended e).entryTimecode l n = s.entryTimecode l n :=
  State.entryTimecode_congr (by rw [portGoesOn_lane]) n

theorem frameArrives_of_not_recording {s : State} {l : Fin 8} (h : (s.lane l).state ≠ .recording) :
    s.frameArrives l = s.discardArrival l := if_neg h

theorem exec_frameArrival {s : State} (running : s.resetHeld = false) (l : Fin 8) :
    exec (.frameArrival l) s = .next (s.frameArrives l) := by
  simp [exec, execFrameArrival, State.whenRunning, running]

/-- The lane with the number that an arrival takes. -/
def Lane.numbered (x : Lane) : Lane := { x with arrivals := x.arrivals + 1, newestAssigned := some x.nextLfn }

theorem frameArrives_over {s : State} {l : Fin 8} (recording : (s.lane l).state = .recording)
    (full : (s.lane l).arrivals = (s.lane l).p) :
    s.frameArrives l =
      ((s.setLane l { s.lane l with overs := (s.lane l).overs + 1 }).post .cadence 0 l.val
        (lfnBytes (s.lane l).periodBase ++ leBytes 1 (s.lane l).p)).discardArrival l := by
  rw [State.frameArrives, if_pos recording, State.arrive, if_pos full]

theorem frameArrives_lost {s : State} {l : Fin 8} (recording : (s.lane l).state = .recording)
    (room : (s.lane l).arrivals ≠ (s.lane l).p) (busy : 2 ≤ (s.lane l).writing) :
    s.frameArrives l = (s.setLane l (s.lane l).numbered).overrunArrival l (s.lane l).nextLfn := by
  simp only [State.frameArrives, if_pos recording, State.arrive, if_neg room, if_pos busy]
  rfl

theorem frameArrives_taken {s : State} {l : Fin 8} (recording : (s.lane l).state = .recording)
    (room : (s.lane l).arrivals ≠ (s.lane l).p) (idle : (s.lane l).writing < 2) :
    s.frameArrives l = (s.setLane l (s.lane l).numbered).takeArrival l ((s.lane l).newestAssigned.getD 0) (s.lane l).nextLfn
      (s.lane l).arrivals := by
  simp only [State.frameArrives, if_pos recording, State.arrive, if_neg room, if_neg (Nat.not_le.mpr idle)]
  rfl

theorem takeArrival_of_full {s : State} {l : Fin 8} (none : ((s.makeRoom l).lane l).freeSlots = []) (before lfn phase : Nat) :
    s.takeArrival l before lfn phase = ((s.makeRoom l).closePlanned l lfn).discardArrival l := by
  simp only [State.takeArrival, none]

theorem takeArrival_of_free {s : State} {l : Fin 8} {j : Nat} {rest : List Nat}
    (free : ((s.makeRoom l).lane l).freeSlots = j :: rest) (before lfn phase : Nat) :
    s.takeArrival l before lfn phase =
      ((((((s.makeRoom l).modifyLane l fun x => x.appendEntry lfn phase (s.makeRoom l).refu.rpn (s.makeRoom l).refu.timecode).holdArrival
        l before lfn).closePlanned l lfn).handWrite l lfn j).modifyLane l fun x => x.nextFrame (.taking lfn 0)).emit (.take l lfn) := by
  simp only [State.takeArrival, free]

theorem Lane.passed_congr {x y : Lane} (port : y.port = x.port) (unended : y.unended = x.unended) : y.passed = x.passed := by
  simp only [Lane.passed, port, unended]

theorem State.setLane_lane (s : State) (l : Fin 8) : s.setLane l (s.lane l) = s := by
  simp [State.setLane, State.lane]

/-- The held decision: a covered arrival is held below the ceiling, and closes the clips that cover it at the ceiling. -/
theorem holdArrival_eq (s : State) (l : Fin 8) (before lfn : Nat) :
    s.holdArrival l before lfn =
      if (s.lane l).h ≤ (s.lane l).held then (s.lockedAt l lfn).foldl (fun u n => u.closeAtCeiling l before lfn n) s
      else s.setLane l { s.lane l with
        held := if s.lockedAt l lfn ≠ [] then (s.lane l).held + 1 else (s.lane l).held } := by
  simp only [State.holdArrival]
  cases s.lockedAt l lfn with
  | nil =>
    simp
    exact fun _ => (s.setLane_lane l).symm
  | cons n rest =>
    by_cases below : (s.lane l).held < (s.lane l).h
    · simp [below, Nat.not_le.mpr below]
    · simp [below, Nat.not_lt.mp below]

theorem Lane.appendEntry_of_free {x : Lane} {j : Nat} {rest : List Nat} (free : x.freeSlots = j :: rest) (lfn phase : Nat)
    (rpn : Count32) (tc : Timecode) :
    x.appendEntry lfn phase rpn tc =
      { x with
        entries := x.entries ++ [{ lfn, slot := j, status := .writing, rpn, timecode := tc, phase, readCount := 0 }],
        freeSlots := rest, accepted := x.accepted + 1 } := by
  simp only [Lane.appendEntry, free]

theorem Clip.covers_free {c : Clip} (free : c.state = .free) (n : Nat) : c.covers n = false := by
  simp [Clip.covers, Clip.range, free]

theorem mem_lockedAt {s : State} {l : Fin 8} {lfn n : Nat} :
    n ∈ s.lockedAt l lfn ↔ ∃ c, (n, c) ∈ s.clips ∧ c.lane = l ∧ c.locked = true ∧ c.covers lfn = true := by
  simp [State.lockedAt, State.clipsOf]

theorem mem_lockedAt_iff {s : State} (sorted : Sparse.Sorted s.clips) {l : Fin 8} {lfn n : Nat} :
    n ∈ s.lockedAt l lfn ↔ (s.clip n).lane = l ∧ (s.clip n).locked = true ∧ (s.clip n).covers lfn = true := by
  rw [State.lockedAt, mem_clipsOf sorted l rfl, Bool.and_eq_true]

/-! ### The clips at an arrival -/

/-- The clip's planned out is reached by the arrival of `lfn`. -/
def Clip.reachedBy (c : Clip) (l : Fin 8) (lfn : Nat) (out : Nat) : Prop := c.lane = l ∧ c.state = .opened ∧ out ≤ lfn

/-- The clips after an arrival: those at the ceiling are closed before it, the others where their planned out is reached. -/
theorem clip_ceiled_closePlanned {s : State} (sorted : Sparse.Sorted s.clips) (l : Fin 8) (before lfn : Nat) (ceiling : Bool) (n : Nat) :
    let ceiled := if ceiling then (s.lockedAt l lfn).foldl (fun u n => u.closeAtCeiling l before lfn n) s else s
    (ceiled.closePlanned l lfn).clip n =
      if (s.clip n).lane = l ∧ (s.clip n).locked = true ∧ (s.clip n).covers lfn = true ∧ ceiling = true
      then { s.clip n with state := .closed, out := some before, planned := none, outTc := s.entryTimecode l before }
      else match (s.clip n).planned with
        | none => s.clip n
        | some q => if (s.clip n).lane = l ∧ (s.clip n).state = .opened ∧ q ≤ lfn
          then { s.clip n with state := .closed, out := some q, planned := none, outTc := s.entryTimecode l q } else s.clip n := by
  intro ceiled
  have only : s.OnlyClips ceiled := by
    cases ceiling with
    | false => exact .refl s
    | true => exact .foldl (fun t n => .closeAtCeiling t l before lfn n) _ _
  have numbers : s.SameNumbers ceiled := by
    cases ceiling with
    | false => exact .refl s
    | true => exact .foldl (fun t n => .closeAtCeiling t l before lfn n) _ _
  have before_closes : ceiled.clip n =
      if (s.clip n).lane = l ∧ (s.clip n).locked = true ∧ (s.clip n).covers lfn = true ∧ ceiling = true
      then s.closedAt (s.clip n) before else s.clip n := by
    cases ceiling with
    | false => simp [ceiled]
    | true =>
      refine (clip_foldl_closeAtCeiling l before lfn (clipsOf_nodup sorted l _) n).trans ?_
      have : n ∈ s.lockedAt l lfn ∧ (s.clip n).state ≠ .free ↔
          (s.clip n).lane = l ∧ (s.clip n).locked = true ∧ (s.clip n).covers lfn = true ∧ true = true := by
        rw [mem_lockedAt_iff sorted]
        refine ⟨fun h => ⟨h.1.1, h.1.2.1, h.1.2.2, rfl⟩, fun h => ⟨⟨h.1, h.2.1, h.2.2.1⟩, fun free => ?_⟩⟩
        simp [Clip.covers_free free] at h
      exact ite_congr (propext this) (fun _ => rfl) fun _ => rfl
  rw [clip_closePlanned (numbers sorted).1, before_closes]
  by_cases ceils : (s.clip n).lane = l ∧ (s.clip n).locked = true ∧ (s.clip n).covers lfn = true ∧ ceiling = true
  · rw [if_pos ceils, if_pos ceils]
    simp only [State.closedAt, ceils.1]
  · rw [if_neg ceils, if_neg ceils]
    cases (s.clip n).planned with
    | none => rfl
    | some q => exact ite_congr rfl (fun here => closedAt_eq_of_lane (by rw [only.lane]) here.1 q) fun _ => rfl

/-- The notices of an arrival's closes: those at the ceiling first, then those at a planned out. -/
theorem ceiled_closePlanned_posts {s : State} (sorted : Sparse.Sorted s.clips) (l : Fin 8) (before lfn : Nat) (ceiling : Bool) :
    let ceiled := if ceiling then (s.lockedAt l lfn).foldl (fun u n => u.closeAtCeiling l before lfn n) s else s
    let ceils := fun c : Clip => ceiling && c.locked && c.covers lfn
    { ceiled.closePlanned l lfn with clips := s.clips } = s.posts (
      (s.clipNotices 2 fun c =>
        if c.lane = l ∧ ceils c = true then some (leBytes 1 l.val ++ lfnBytes before ++ lfnBytes lfn) else none) ++
      s.clipNotices 0 fun c => c.planned.bind fun q =>
        if c.lane = l ∧ c.state = .opened ∧ q ≤ lfn ∧ (!ceils c) = true then some (leBytes 1 l.val ++ lfnBytes q) else none) := by
  intro ceiled ceils
  have numbers : s.SameNumbers ceiled := by
    cases ceiling with
    | false => exact .refl s
    | true => exact .foldl (fun t n => .closeAtCeiling t l before lfn n) _ _
  have first : { ceiled with clips := s.clips } = s.posts (s.clipNotices 2 fun c =>
      if c.lane = l ∧ ceils c = true then some (leBytes 1 l.val ++ lfnBytes before ++ lfnBytes lfn) else none) := by
    cases ceiling with
    | false => simp [ceils, ceiled, State.clipNotices]
    | true => exact foldl_closeAtCeiling_posts sorted l (fun c => c.locked && c.covers lfn) before lfn
  have changed (n : Nat) : ceiled.clip n =
      if (s.clip n).lane = l ∧ ceils (s.clip n) = true then s.closedAt (s.clip n) before else s.clip n := by
    cases ceiling with
    | false => simp [ceiled, ceils]
    | true =>
      refine (clip_foldl_closeAtCeiling l before lfn (clipsOf_nodup sorted l _) n).trans ?_
      have : n ∈ s.lockedAt l lfn ∧ (s.clip n).state ≠ .free ↔ (s.clip n).lane = l ∧ ceils (s.clip n) = true := by
        rw [mem_lockedAt_iff sorted]
        simp only [ceils, Bool.true_and, Bool.and_eq_true]
        refine ⟨fun h => h.1, fun h => ⟨h, fun free => ?_⟩⟩
        simp [Clip.covers_free free] at h
      exact ite_congr (propext this) (fun _ => rfl) fun _ => rfl
  have second := closePlanned_posts (numbers sorted).1 l lfn
  rw [clipNotices_of_sameNumbers sorted numbers (d' := fun c => c.planned.bind fun q =>
    if c.lane = l ∧ c.state = .opened ∧ q ≤ lfn ∧ (!ceils c) = true then some (leBytes 1 l.val ++ lfnBytes q) else none)] at second
  · rw [State.posts_append, ← first, State.posts_withClips, ← second]
  · intro n
    rw [changed n]
    by_cases here : (s.clip n).lane = l ∧ ceils (s.clip n) = true
    · simp [here]
    · rw [if_neg here]
      cases (s.clip n).planned with
      | none => rfl
      | some q =>
        refine ite_congr (propext ⟨fun h => ⟨h.1, h.2.1, h.2.2, ?_⟩, fun h => ⟨h.1, h.2.1, h.2.2.1⟩⟩) (fun _ => rfl) fun _ => rfl
        simpa [h.1] using here

/-- Nothing changes but lanes, clips, notices and what leaves the part. -/
def State.OnlyLanes (s t : State) : Prop :=
  { t with lanes := s.lanes, clips := s.clips, link := s.link, emitted := s.emitted, fresh := s.fresh } = s

namespace State.OnlyLanes

theorem refl (s : State) : s.OnlyLanes s := rfl

theorem trans {s t u : State} (h : s.OnlyLanes t) (k : t.OnlyLanes u) : s.OnlyLanes u := by
  unfold State.OnlyLanes at *
  exact (congrArg (fun w : State =>
    { w with lanes := s.lanes, clips := s.clips, link := s.link, emitted := s.emitted, fresh := s.fresh }) k).trans h

theorem of_onlyClips {s t : State} (h : s.OnlyClips t) : s.OnlyLanes t := by
  unfold State.OnlyClips at h
  exact congrArg (fun w : State => { w with lanes := s.lanes, emitted := s.emitted }) h

theorem setLane (s : State) (l : Fin 8) (x : Lane) : s.OnlyLanes (s.setLane l x) := rfl

theorem post (s : State) (k : NoticeClass) (a b : Nat) (d : List Byte) : s.OnlyLanes (s.post k a b d) :=
  of_onlyClips (.post s k a b d)

theorem portGoesOn (s : State) (l : Fin 8) (port : PortFrame) (unended : List TakenFrame) (e : Emission) :
    s.OnlyLanes (s.portGoesOn l port unended e) := rfl

end State.OnlyLanes

theorem State.OnlyClips.emitted {s t : State} (h : s.OnlyClips t) : t.emitted = s.emitted := by
  have := congrArg State.emitted h
  exact this

theorem State.OnlyClips.xfer {s t : State} (h : s.OnlyClips t) : t.xfer = s.xfer := by
  have := congrArg State.xfer h
  exact this

theorem State.OnlyClips.refu {s t : State} (h : s.OnlyClips t) : t.refu = s.refu := by
  have := congrArg State.refu h
  exact this

/-- The clips at an arrival that is not at the ceiling. -/
theorem clip_closePlanned_of_lane {s : State} (sorted : Sparse.Sorted s.clips) (l : Fin 8) (lfn n : Nat) :
    (s.closePlanned l lfn).clip n = match (s.clip n).planned with
      | none => s.clip n
      | some q => if (s.clip n).lane = l ∧ (s.clip n).state = .opened ∧ q ≤ lfn
        then { s.clip n with state := .closed, out := some q, planned := none, outTc := s.entryTimecode l q } else s.clip n := by
  rw [clip_closePlanned sorted]
  cases (s.clip n).planned with
  | none => rfl
  | some q => exact ite_congr rfl (fun here => closedAt_eq_of_lane rfl here.1 q) fun _ => rfl

/-- The state of a lost arrival before its closes (R24). -/
def State.countOverrun (s : State) (l : Fin 8) (lfn : Nat) : State :=
  (s.setLane l { s.lane l with overruns := (s.lane l).overruns + 1 }).post .cadence 1 l.val (lfnBytes lfn)

theorem countOverrun_lane (s : State) (l : Fin 8) (lfn : Nat) (m : Fin 8) :
    (s.countOverrun l lfn).lane m =
      if l = m then { s.lane l with overruns := (s.lane l).overruns + 1 } else s.lane m :=
  (State.lane_congr (State.post_lanes _ _ _ _ _) m).trans (State.lane_setLane_eq s l m _)

theorem overrunArrival_eq (s : State) (l : Fin 8) (lfn : Nat) :
    s.overrunArrival l lfn =
      ((s.countOverrun l lfn).closePlanned l lfn).portGoesOn l .dropping (s.lane l).passed (.discard l) := by
  have only : (s.countOverrun l lfn).OnlyClips ((s.countOverrun l lfn).closePlanned l lfn) := .closePlanned _ l lfn
  have passed : (((s.countOverrun l lfn).closePlanned l lfn).lane l).passed = (s.lane l).passed := by
    rw [only.lane, countOverrun_lane, if_pos rfl]
    rfl
  rw [← passed, ← discardArrival_eq]
  rfl

/-- The state of a recorded arrival before its closes: the entry appended, and held where a locked clip covers it below the ceiling. -/
def State.appendArrival (s : State) (l : Fin 8) (lfn phase j : Nat) (rest : List Nat) : State :=
  s.setLane l { s.lane l with
    entries := (s.lane l).entries ++
      [{ lfn, slot := j, status := .writing, rpn := s.refu.rpn, timecode := s.refu.timecode, phase, readCount := 0 }]
    freeSlots := rest
    accepted := (s.lane l).accepted + 1
    held := if s.lockedAt l lfn ≠ [] ∧ (s.lane l).held < (s.lane l).h then (s.lane l).held + 1 else (s.lane l).held }

/-- The closes of a recorded arrival. -/
def State.closeArrival (s : State) (l : Fin 8) (before lfn : Nat) (ceiling : Bool) : State :=
  (if ceiling then (s.lockedAt l lfn).foldl (fun u n => u.closeAtCeiling l before lfn n) s else s).closePlanned l lfn

theorem closeArrival_onlyClips (s : State) (l : Fin 8) (before lfn : Nat) (ceiling : Bool) :
    s.OnlyClips (s.closeArrival l before lfn ceiling) := by
  refine State.OnlyClips.trans ?_ (.closePlanned _ l lfn)
  cases ceiling with
  | false => exact .refl s
  | true => exact .foldl (fun t n => .closeAtCeiling t l before lfn n) _ _

theorem appendArrival_lane (s : State) (l : Fin 8) (lfn phase j : Nat) (rest : List Nat) (m : Fin 8) (other : m ≠ l) :
    (s.appendArrival l lfn phase j rest).lane m = s.lane m := State.lane_setLane_ne s _ (Ne.symm other)

theorem holdArrival_append (s : State) {l : Fin 8} {j : Nat} {rest : List Nat} (free : (s.lane l).freeSlots = j :: rest)
    (before lfn phase : Nat) :
    ((s.modifyLane l fun x => x.appendEntry lfn phase s.refu.rpn s.refu.timecode).holdArrival l before lfn).closePlanned l lfn =
      (s.appendArrival l lfn phase j rest).closeArrival l before lfn (decide ((s.lane l).h ≤ (s.lane l).held)) := by
  simp only [State.modifyLane, Lane.appendEntry_of_free free, State.closeArrival, holdArrival_eq, State.lane_setLane]
  congr 1
  by_cases ceiling : (s.lane l).h ≤ (s.lane l).held
  · simp only [ceiling, decide_true, if_true]
    congr 1
    simp only [State.appendArrival, Nat.not_lt.mpr ceiling, and_false, if_false]
  · have below := Nat.not_le.mp ceiling
    simp only [ceiling, decide_false, Bool.false_eq_true, if_false, State.appendArrival, below, and_true,
      setLane_setLane]
    rfl

/-- A recorded arrival: the closes, the lane's write queue with the write handed over, and the port told TAKE. -/
def State.recordArrival (s : State) (l : Fin 8) (before lfn phase j : Nat) (rest : List Nat) (ceiling : Bool) (queue : List FrameWrite)
    (unended : List TakenFrame) : State :=
  (((s.appendArrival l lfn phase j rest).closeArrival l before lfn ceiling).setIngest l queue).portGoesOn l (.taking lfn 0) unended
    (.take l lfn)

section Recorded

variable (s : State) (l : Fin 8) (before lfn phase j : Nat) (rest : List Nat) (ceiling : Bool) (queue : List FrameWrite)
  (unended : List TakenFrame)

theorem recordArrival_lane :
    (s.recordArrival l before lfn phase j rest ceiling queue unended).lane l =
      { (s.appendArrival l lfn phase j rest).lane l with port := .taking lfn 0, unended } := by
  refine (portGoesOn_lane _ _ _ _ _).trans ?_
  exact congrArg (fun z : Lane => { z with port := .taking lfn 0, unended }) ((closeArrival_onlyClips _ _ _ _ _).lane l)

theorem recordArrival_lane_ne {m : Fin 8} (other : m ≠ l) :
    (s.recordArrival l before lfn phase j rest ceiling queue unended).lane m = s.lane m :=
  (portGoesOn_lane_ne _ other _ _ _).trans (((closeArrival_onlyClips _ _ _ _ _).lane m).trans
    (appendArrival_lane s l lfn phase j rest m other))

theorem recordArrival_ingest_ne {m : Fin 8} (other : m ≠ l) :
    (s.recordArrival l before lfn phase j rest ceiling queue unended).ingest m = s.ingest m := by
  refine (State.ingest_setIngest_ne _ _ (Ne.symm other)).trans ?_
  rw [State.ingest, (closeArrival_onlyClips _ _ _ _ _).xfer]
  rfl

theorem recordArrival_emitted :
    (s.recordArrival l before lfn phase j rest ceiling queue unended).emitted = s.emitted ++ [.take l lfn] := by
  refine (portGoesOn_emitted _ _ _ _ _).trans ?_
  exact congrArg (· ++ [Emission.take l lfn]) (closeArrival_onlyClips _ _ _ _ _).emitted

theorem recordArrival_entryTimecode (n : Nat) :
    (s.recordArrival l before lfn phase j rest ceiling queue unended).entryTimecode l n =
      (s.appendArrival l lfn phase j rest).entryTimecode l n :=
  State.entryTimecode_congr (by rw [recordArrival_lane]) n

theorem recordArrival_clip (sorted : Sparse.Sorted s.clips) (n : Nat) :
    let t := s.recordArrival l before lfn phase j rest ceiling queue unended
    t.clip n =
      if (s.clip n).lane = l ∧ (s.clip n).locked = true ∧ (s.clip n).covers lfn = true ∧ ceiling = true
      then { s.clip n with state := .closed, out := some before, planned := none, outTc := t.entryTimecode l before }
      else match (s.clip n).planned with
        | none => s.clip n
        | some q => if (s.clip n).lane = l ∧ (s.clip n).state = .opened ∧ q ≤ lfn
          then { s.clip n with state := .closed, out := some q, planned := none, outTc := t.entryTimecode l q } else s.clip n := by
  intro t
  simp only [t, recordArrival_entryTimecode]
  exact clip_ceiled_closePlanned (s := s.appendArrival l lfn phase j rest) (by exact sorted) l before lfn ceiling n

theorem recordArrival_only :
    { s.recordArrival l before lfn phase j rest ceiling queue unended with
      lanes := s.lanes, clips := s.clips, xfer := s.xfer, link := s.link, emitted := s.emitted, fresh := s.fresh } = s := by
  have whole : s.OnlyLanes ((s.appendArrival l lfn phase j rest).closeArrival l before lfn ceiling) :=
    (State.OnlyLanes.setLane s l _).trans (.of_onlyClips (closeArrival_onlyClips _ _ _ _ _))
  unfold State.OnlyLanes at whole
  exact congrArg (fun u : State => { u with xfer := s.xfer }) whole

theorem recordArrival_only_of {w : State} (only : w.OnlyLanes s) :
    { s.recordArrival l before lfn phase j rest ceiling queue unended with
      lanes := w.lanes, clips := w.clips, xfer := w.xfer, link := w.link, emitted := w.emitted, fresh := w.fresh } = w := by
  have step := congrArg (fun u : State =>
    { u with
      lanes := w.lanes, clips := w.clips, xfer := w.xfer, link := w.link, emitted := w.emitted, fresh := w.fresh })
    (recordArrival_only s l before lfn phase j rest ceiling queue unended)
  unfold State.OnlyLanes at only
  have back := congrArg (fun u : State => { u with xfer := w.xfer }) only
  exact step.trans back

theorem recordArrival_posts (sorted : Sparse.Sorted s.clips) :
    let ceils := fun c : Clip => ceiling && c.locked && c.covers lfn
    { s.recordArrival l before lfn phase j rest ceiling queue unended with
      lanes := s.lanes, clips := s.clips, xfer := s.xfer, emitted := s.emitted } = s.posts (
      (s.clipNotices 2 fun c =>
        if c.lane = l ∧ ceils c = true then some (leBytes 1 l.val ++ lfnBytes before ++ lfnBytes lfn) else none) ++
      s.clipNotices 0 fun c => c.planned.bind fun q =>
        if c.lane = l ∧ c.state = .opened ∧ q ≤ lfn ∧ (!ceils c) = true then some (leBytes 1 l.val ++ lfnBytes q) else none) := by
  intro ceils
  have posts := ceiled_closePlanned_posts (s := s.appendArrival l lfn phase j rest) (by exact sorted) l before lfn ceiling
  refine (congrArg (fun u : State => { u with lanes := s.lanes, xfer := s.xfer, emitted := s.emitted }) posts).trans ?_
  have posted := State.posts_over (s := s) (t := s.appendArrival l lfn phase j rest) rfl rfl rfl
    ((s.clipNotices 2 fun c =>
        if c.lane = l ∧ ceils c = true then some (leBytes 1 l.val ++ lfnBytes before ++ lfnBytes lfn) else none) ++
      s.clipNotices 0 fun c => c.planned.bind fun q =>
        if c.lane = l ∧ c.state = .opened ∧ q ≤ lfn ∧ (!ceils c) = true then some (leBytes 1 l.val ++ lfnBytes q) else none)
  refine (congrArg (fun u : State => { u with lanes := s.lanes, xfer := s.xfer, emitted := s.emitted }) posted).trans ?_
  exact (State.posts_eq s _).symm

end Recorded

theorem takeArrival_eq {s : State} {l : Fin 8} {j : Nat} {rest : List Nat}
    (free : ((s.makeRoom l).lane l).freeSlots = j :: rest) (before lfn phase : Nat) :
    let s2 := s.makeRoom l
    let y := s2.lane l
    s.takeArrival l before lfn phase =
      s2.recordArrival l before lfn phase j rest (decide (y.h ≤ y.held)) (s2.ingest l ++
        [{ lfn, slot := j, firstBlock := y.base + j * y.s, size := y.s, granted := 0, done := 0, waiting := [],
           ended := false }]) y.passed := by
  intro s2 y
  let done := (s2.appendArrival l lfn phase j rest).closeArrival l before lfn (decide (y.h ≤ y.held))
  have only : (s2.appendArrival l lfn phase j rest).OnlyClips done := closeArrival_onlyClips _ _ _ _ _
  have lane : done.lane l = (s2.appendArrival l lfn phase j rest).lane l := only.lane l
  have fields : (s2.appendArrival l lfn phase j rest).lane l = _ := State.lane_setLane s2 l _
  have ingest : done.ingest l = s2.ingest l := by
    rw [State.ingest, only.xfer]
    rfl
  have write : done.handWrite l lfn j = done.setIngest l (s2.ingest l ++
      [{ lfn, slot := j, firstBlock := y.base + j * y.s, size := y.s, granted := 0, done := 0, waiting := [],
         ended := false }]) := by
    simp only [State.handWrite, Lane.slotBlock, lane, fields, ingest]
    rfl
  have passed : (done.lane l).passed = y.passed := by
    rw [lane, fields]
    rfl
  rw [takeArrival_of_free free, holdArrival_append _ free, State.recordArrival, ← passed, ← write]
  simp only [State.modifyLane, Lane.nextFrame_eq]
  rfl

/-- What making room before an arrival keeps of the lane. -/
theorem Lane.RoomMade.fields {x y : Lane} (made : x.RoomMade y) :
    y.h = x.h ∧ y.held = x.held ∧ y.accepted = x.accepted ∧ y.base = x.base ∧ y.s = x.s ∧ y.passed = x.passed := by
  have same := made.partition
  rw [← same]
  exact ⟨rfl, rfl, rfl, rfl, rfl, rfl⟩

/-- Settles O19. -/
theorem arrivalsAreRecordedOrDiscarded : Obligations.ArrivalsAreRecordedOrDiscarded := by
  unfold Obligations.ArrivalsAreRecordedOrDiscarded
  refine ⟨fun s l running => ⟨fun still => ?_, fun records full => ?_⟩, fun s l running records room => ?_⟩
  · rw [exec_frameArrival running, frameArrives_of_not_recording still, discardArrival_eq]
    rfl
  · rw [exec_frameArrival running, frameArrives_over records full, discardArrival_eq, State.portGoesOn, post_setLane,
      State.lane_congr (State.post_lanes _ _ _ _ _), State.lane_setLane, setLane_setLane]
    simp only [State.post_emitted, State.setLane_emitted]
    rfl
  · intro x lfn before told s1 s2 y closed reached closes
    have quiet : s.link.OnlyPosts (s.frameArrives l).link := (State.quiet_frameArrives (.refl s) l).link
    have lane1 : s1.lane l = x.numbered := State.lane_setLane s l _
    have others1 {m : Fin 8} (other : m ≠ l) : s1.lane m = s.lane m := State.lane_setLane_ne s _ (Ne.symm other)
    obtain ⟨made, isMade, only2⟩ := makeRoom_eq s1 l
    have lane2 : y = made := (only2.lane l).trans (State.lane_setLane s1 l made)
    rw [lane1, ← lane2] at isMade
    obtain ⟨h, held, accepted, base, size, passed⟩ : y.h = x.h ∧ y.held = x.held ∧ y.accepted = x.accepted ∧ y.base = x.base ∧
      y.s = x.s ∧ y.passed = x.passed := isMade.fields
    have others2 {m : Fin 8} (other : m ≠ l) : s2.lane m = s.lane m :=
      (only2.lane m).trans ((State.lane_setLane_ne s1 _ (Ne.symm other)).trans (others1 other))
    have sorted2 (sorted : Sparse.Sorted s.clips) : Sparse.Sorted s2.clips := (State.SameNumbers.makeRoom s1 l (by exact sorted)).1
    have taken (idle : x.writing < 2) : s.frameArrives l = s1.takeArrival l before lfn x.arrivals := frameArrives_taken records room idle
    refine ⟨fun busy => ?_, fun idle none => ⟨?_, fun sorted => ?_⟩, fun idle j rest free => ?_⟩
    · intro lost t
      have only : lost.OnlyClips (lost.closePlanned l lfn) := .closePlanned lost l lfn
      have isLost : s1.countOverrun l lfn = lost := by
        rw [State.countOverrun, lane1]
        exact congrArg (fun z : Lane => (s1.setLane l { z with overruns := x.overruns + 1 }).post .cadence 1 l.val (lfnBytes lfn)) lane1.symm
      have lostLane : lost.lane l = { x.numbered with overruns := x.overruns + 1 } := by
        rw [← isLost, countOverrun_lane, if_pos rfl, lane1]
        rfl
      have arrives : s.frameArrives l = t := by
        rw [frameArrives_lost records room busy, overrunArrival_eq]
        exact (congrArg (fun u : State => (u.closePlanned l lfn).portGoesOn l .dropping (s1.lane l).passed (.discard l)) isLost).trans
          (congrArg (fun p => (lost.closePlanned l lfn).portGoesOn l .dropping p (.discard l)) (by rw [lane1]; rfl))
      have lostLane' {m : Fin 8} (other : m ≠ l) : lost.lane m = s.lane m := by
        rw [← isLost, countOverrun_lane, if_neg (Ne.symm other), others1 other]
      have lostEmitted : lost.emitted = s.emitted := State.post_emitted _ _ _ _ _
      have isPost : lost = (s.setLane l { x.numbered with overruns := x.overruns + 1 }).post .cadence 1 l.val (lfnBytes lfn) := by
        rw [← isLost, State.countOverrun, lane1]
        exact congrArg (fun u : State => u.post .cadence 1 l.val (lfnBytes lfn)) (setLane_setLane s l _ _)
      have lostClips : lost.clips = s.clips := State.post_clips _ _ _ _ _
      refine ⟨by rw [exec_frameArrival running, arrives], ?_, ?_, fun sorted n => ?_, fun m other => ?_, arrives ▸ quiet, ?_, fun sorted => ?_⟩
      · refine (portGoesOn_lane _ _ _ _ _).trans ?_
        rw [only.lane, lostLane]
        rfl
      · refine (portGoesOn_emitted _ _ _ _ _).trans ?_
        rw [only.emitted, lostEmitted]
      · refine (clip_closePlanned_of_lane (s := lost) (by rw [State.post_clips]; exact sorted) l lfn n).trans ?_
        have tc (q : Nat) : t.entryTimecode l q = lost.entryTimecode l q :=
          (portGoesOn_entryTimecode (lost.closePlanned l lfn) l _ _ _ q).trans (only.entryTimecode l q)
        simp only [reached, closed, tc]
        rw [show lost.clip n = s.clip n from clip_post _ _ _ _ _ _] <;> rfl
      · exact (portGoesOn_lane_ne _ other _ _ _).trans ((only.lane m).trans (lostLane' other))
      · exact State.OnlyLanes.trans (isPost ▸ (State.OnlyLanes.setLane s l _).trans (.post _ _ _ _ _))
          ((State.OnlyLanes.of_onlyClips only).trans (.portGoesOn _ _ _ _ _))
      · have posts := closePlanned_posts (s := lost) (lostClips ▸ sorted) l lfn
        rw [clipNotices_congr (s := s) lostClips (d' := fun c => c.planned.bind fun q =>
          if c.lane = l ∧ c.state = .opened ∧ q ≤ lfn ∧ true = true then some (leBytes 1 l.val ++ lfnBytes q) else none)
          fun e _ => by simp only [and_true]] at posts
        refine (congrArg (fun u : State => { u with lanes := s.lanes, clips := s.clips, emitted := s.emitted }) posts).trans ?_
        rw [isPost]
        have posted := State.posts_over (s := s) (t := s.setLane l { x.numbered with overruns := x.overruns + 1 }) rfl rfl rfl
          ((.cadence, 1, l.val, lfnBytes lfn) :: closes s fun _ => true)
        refine (congrArg (fun u : State => { u with lanes := s.lanes, clips := s.clips, emitted := s.emitted }) posted).trans ?_
        exact (State.posts_eq s _).symm
    · rw [exec_frameArrival running, taken idle, takeArrival_of_full none, discardArrival_eq]
      have only : s2.OnlyClips (s2.closePlanned l lfn) := .closePlanned s2 l lfn
      have : ((s2.closePlanned l lfn).lane l).passed = x.passed := by rw [only.lane, ← passed]
      exact congrArg (fun p => Host.Outcome.next ((s2.closePlanned l lfn).portGoesOn l .dropping p (.discard l))) this
    · rw [closePlanned_posts (sorted2 sorted) l lfn]
      simp only [closes, and_true]
    · intro covering appended ceiled done t
      have isAppended : s2.appendArrival l lfn x.arrivals j rest = appended := by
        simp only [State.appendArrival, show s2.refu = s.refu from only2.refu]
        simp only [appended, covering, ← h, ← held, ← accepted]
        rfl
      have isDone : (s2.appendArrival l lfn x.arrivals j rest).closeArrival l before lfn (decide (x.h ≤ x.held)) = done := by
        rw [isAppended]
        simp only [State.closeArrival, decide_eq_true_eq, done, ceiled]
        rfl
      have queue : s2.ingest l = s.ingest l := by
        rw [State.ingest, only2.xfer]
        rfl
      have recorded : s2.recordArrival l before lfn x.arrivals j rest (decide (x.h ≤ x.held)) (s.ingest l ++
          [{ lfn, slot := j, firstBlock := x.base + j * x.s, size := x.s, granted := 0, done := 0, waiting := [],
             ended := false }]) x.passed = t := by
        rw [State.recordArrival, isDone]
        rfl
      have arrives : s.frameArrives l = t := by
        rw [taken idle, takeArrival_eq free, ← recorded, queue, h, held, base, size, passed]
      refine ⟨by rw [exec_frameArrival running, arrives], ?_, fun n => mem_lockedAt, ?_, fun sorted n => ?_,
        fun m other => ⟨?_, ?_⟩, arrives ▸ quiet, ?_, fun sorted => ?_⟩
      · rw [← recorded, recordArrival_lane, isAppended]
      · rw [← recorded, recordArrival_emitted]
        exact congrArg (· ++ [Emission.take l lfn]) only2.emitted
      · have clips := recordArrival_clip s2 l before lfn x.arrivals j rest (decide (x.h ≤ x.held)) (s.ingest l ++
          [{ lfn, slot := j, firstBlock := x.base + j * x.s, size := x.s, granted := 0, done := 0, waiting := [],
             ended := false }]) x.passed (sorted2 sorted) n
        simp only [recorded, decide_eq_true_eq] at clips
        exact clips
      · rw [← recorded, recordArrival_lane_ne _ _ _ _ _ _ _ _ _ _ other, others2 other]
      · rw [← recorded, recordArrival_ingest_ne _ _ _ _ _ _ _ _ _ _ other, State.ingest, only2.xfer]
        rfl
      · have before2 : s.OnlyLanes s2 := (State.OnlyLanes.setLane s l _).trans ((State.OnlyLanes.setLane s1 l made).trans
          (.of_onlyClips only2))
        rw [← recorded]
        exact recordArrival_only_of s2 l before lfn x.arrivals j rest _ _ _ before2
      · rw [← recorded]
        exact recordArrival_posts s2 l before lfn x.arrivals j rest _ _ _ (sorted2 sorted)

end Sys2Proof.Machine

/-!
PROOFS. The Clip Table's commands (spec/03).
-/

namespace Sys2Proof.Machine

/-! ### The shared checks (R53) -/

theorem withClip_listed {s : State} {n : Nat} (low : 1 ≤ n) (high : n ≤ 1023) (listed : (s.clip n).state ≠ .free)
    (run : Clip → Answer) : s.withClip n run = run (s.clip n) := by
  have inTable : ¬(n = 0 ∨ 1023 < n) := by omega
  rw [State.withClip, if_neg inTable, if_neg listed]

theorem withClip_free {s : State} {n : Nat} (low : 1 ≤ n) (high : n ≤ 1023) (free : (s.clip n).state = .free)
    (run : Clip → Answer) : s.withClip n run = s.refuse .clipFree := by
  have inTable : ¬(n = 0 ∨ 1023 < n) := by omega
  rw [State.withClip, if_neg inTable, if_pos free]

theorem withClip_outside {s : State} {n : Nat} (h : n = 0 ∨ 1023 < n) (run : Clip → Answer) : s.withClip n run = s.refuse .badField :=
  if_pos h

theorem withEdit_allowed {s : State} {n level : Nat} (low : 1 ≤ n) (high : n ≤ 1023) (listed : (s.clip n).state ≠ .free)
    (right : level ≤ (s.clip n).el) (run : Clip → Answer) : s.withEdit n level run = run (s.clip n) := by
  rw [State.withEdit, withClip_listed low high listed, if_neg (Nat.not_lt.mpr right)]

/-! ### Points (R54, R55) -/

/-- A named point has a source and a lane field that resolve to it. -/
theorem names_resolve {s : State} {f : MarkFields} {l : Fin 8} {lfn : Nat} (named : s.names f l lfn) :
    ∃ src field, pointSource? f.source f.value = some src ∧ markLane? src f.lane = some field ∧ s.pointLane src field = some l ∧
      s.pointLfn src l = some lfn := by
  rcases named with ⟨source, lane, value, inRange⟩ | ⟨source, c, r, value, onAir, lane, isLfn⟩ | ⟨source, lane, newest⟩
  · exact ⟨.explicit lfn, some l, by simp [pointSource?, source, value, inRange], by simp [markLane?, lane], rfl, rfl⟩
  · exact ⟨.channel c, none, by simp [pointSource?, source, value], rfl, by simp [State.pointLane, onAir, lane],
      by simp [State.pointLfn, onAir, isLfn]⟩
  · exact ⟨.newest, some l, by simp [pointSource?, source], by simp [markLane?, lane], rfl, newest⟩

theorem Lane.inValid_iff (x : Lane) (n : Nat) : x.inValid n = true ↔ x.admitsIn n := by
  unfold Lane.inValid Lane.floor Lane.admitsIn
  cases x.entries with
  | nil => simp
  | cons e rest => cases x.newestAssigned <;> simp

theorem Lane.outValid_iff (x : Lane) (n : Nat) : x.outValid n = true ↔ x.admitsOut n := by
  unfold Lane.outValid Lane.floor Lane.admitsOut
  cases x.entries <;> simp

theorem Lane.admitsIn.nonempty {x : Lane} {n : Nat} (h : x.admitsIn n) : x.entries.isEmpty = false := by
  obtain ⟨e, rest, _, entries, _⟩ := h
  simp [entries]

theorem Lane.admitsOut.nonempty {x : Lane} {n : Nat} (h : x.admitsOut n) : x.entries.isEmpty = false := by
  obtain ⟨e, rest, entries, _⟩ := h
  simp [entries]

theorem Lane.isPlanned_eq {x : Lane} {newest : Nat} (h : x.newestAssigned = some newest) (n : Nat) :
    x.isPlanned n = decide (newest < n) := by
  simp only [Lane.isPlanned, h, Option.any_some]
  by_cases above : newest < n
  · simp [above]
  · simp [above, Nat.not_lt.mp above]

theorem resolvePoint_valid {s : State} {src : PointSource} {field clipLane : Option (Fin 8)} {l : Fin 8} {lfn : Nat} {out : Bool}
    (lane : s.pointLane src field = some l) (point : s.pointLfn src l = some lfn) (same : clipLane.any (· != l) = false)
    (valid : if out then (s.lane l).admitsOut lfn else (s.lane l).admitsIn lfn) :
    s.resolvePoint src field clipLane out = .ok (l, lfn) := by
  have some : (s.lane l).entries.isEmpty = false := by
    cases out with
    | true => exact valid.nonempty
    | false => exact valid.nonempty
  have ok : (if out then (s.lane l).outValid lfn else (s.lane l).inValid lfn) = true := by
    cases out with
    | true => exact (Lane.outValid_iff _ _).mpr valid
    | false => exact (Lane.inValid_iff _ _).mpr valid
  simp only [State.resolvePoint, lane, point, same, some, ok, Bool.false_eq_true, if_false, if_true]

theorem lowestFree_eq {s : State} {n : Nat} (low : 1 ≤ n) (high : n ≤ 1023) (free : (s.clip n).state = .free)
    (below : ∀ m, 1 ≤ m → m < n → (s.clip m).state ≠ .free) : s.lowestFree = some n := by
  have found : (List.range 1023).find? (fun i => (s.clip (i + 1)).state == .free) = some (n - 1) := by
    rw [List.find?_range_eq_some]
    refine ⟨by rw [Nat.sub_add_cancel low]; simp [free], by simp; omega, fun j hj => ?_⟩
    simpa using below (j + 1) (by omega) (by omega)
  rw [State.lowestFree, List.find?_map]
  simp only [Function.comp_def, found, Option.map_some, Nat.sub_add_cancel low]

theorem recordFor_eq {s : State} {n k : Nat} (low : 1 ≤ n) (high : n ≤ 1023) (free : (s.clip n).state = .free)
    (isRecord : k = n ∨ k = 0 ∧ ∀ m, 1 ≤ m → m < n → (s.clip m).state ≠ .free) : s.recordFor k = some n := by
  rcases isRecord with rfl | ⟨rfl, below⟩
  · exact if_neg (by omega)
  · exact (if_pos rfl).trans (lowestFree_eq low high free below)

theorem levelsAllowed_iff (level vl el : Nat) : levelsAllowed level vl el = true ↔ level ≤ el ∧ el ≤ vl ∧ vl ≤ 3 := by
  simp [levelsAllowed, and_assoc]

/-! ### What a mark leaves (R46, R56) -/

theorem clip_setClip_same (s : State) (n : Nat) {c : Clip} (h : c.state ≠ .free) : (s.setClip n c).clip n = c := by
  rw [clip_setClip, if_pos rfl, if_neg h]

theorem clip_setClip_ne (s : State) {n m : Nat} (c : Clip) (h : m ≠ n) : (s.setClip n c).clip m = s.clip m := by
  rw [clip_setClip, if_neg (Ne.symm h)]

theorem setClip_restored (s : State) (n : Nat) (c : Clip) : { s.setClip n c with clips := s.clips } = s := by
  unfold State.setClip
  split <;> rfl

theorem putMarked_eq (s : State) (n : Nat) {m : Marked} (listed : m.clip.state ≠ .free) :
    s.putMarked n m =
      { state := s.setClip n (s.retimed m.clip), status := .ok,
        body := leBytes 2 n ++ leBytes 1 m.clip.state.code ++ lfnBytes m.clip.inLfn ++
          optBytes s.fresh 0 4 ((m.clip.out <|> m.clip.planned).map lfnBytes) ++ flagBytes m.swapped } := by
  have same : (s.setClip n (s.retimed m.clip)).clip n = s.retimed m.clip := clip_setClip_same s n (by exact listed)
  simp only [State.putMarked, State.markReply, same, State.setClip_fresh]
  rfl

/-- The state after a mark: the record with its timecodes taken anew, and nothing else. -/
theorem putMarked_state (s : State) (n : Nat) {m : Marked} (listed : m.clip.state ≠ .free) :
    (s.putMarked n m).state.clip n = s.retimed m.clip ∧ (∀ k, k ≠ n → (s.putMarked n m).state.clip k = s.clip k) ∧
      { (s.putMarked n m).state with clips := s.clips } = s ∧ (s.putMarked n m).state.fresh = s.fresh := by
  rw [putMarked_eq s n listed]
  exact ⟨clip_setClip_same s n (by exact listed), fun k other => clip_setClip_ne s _ other, setClip_restored s n _, State.setClip_fresh _ _ _⟩

/-! ### CLIP MARK (R54 to R59) -/

theorem createByMark_eq {s : State} {f : MarkFields} {l : Fin 8} {lfn n k level : Nat} {src : PointSource} {field : Option (Fin 8)}
    (lane : s.pointLane src field = some l) (point : s.pointLfn src l = some lfn) (valid : (s.lane l).admitsIn lfn)
    (allowed : level ≤ f.el ∧ f.el ≤ f.vl ∧ f.vl ≤ 3) (record : s.recordFor k = some n) :
    s.createByMark k src field f.vl f.el level = s.putMarked n { clip := newClip l lfn f.vl f.el s.rpn, swapped := false } := by
  have resolved : s.resolvePoint src field none false = .ok (l, lfn) := resolvePoint_valid lane point rfl valid
  simp [State.createByMark, (levelsAllowed_iff _ _ _).mpr allowed, resolved, record]

/-- What the model's marking makes of a record is what the rules' tables say. -/
theorem marked_eq {c c' : Clip} {newest point lfn : Nat} {swapped : Bool} (h : c.marked newest point lfn c' swapped) :
    (if (point == 1) then c.markOut lfn (decide (newest < lfn)) else c.markIn lfn) = { clip := c', swapped } := by
  rcases h with ⟨rfl, opened, rfl, rfl⟩ | ⟨rfl, closed, ⟨o, out, le⟩, rfl, rfl⟩ | ⟨rfl, closed, ⟨o, out, lt, rfl⟩, rfl⟩ |
    ⟨rfl, absent, rfl, rfl⟩ | ⟨rfl, -, above, rfl, rfl⟩ | ⟨rfl, -, reached, le, rfl, rfl⟩ | ⟨rfl, -, reached, lt, rfl, rfl⟩
  · simp [Clip.markIn, opened]
  · simp [Clip.markIn, closed, out, le]
  · simp [Clip.markIn, closed, out, Nat.not_le.mpr lt]
  · simp [Clip.markIn, absent]
  · simp [Clip.markOut, above]
  · simp [Clip.markOut, Clip.closeAt, Nat.not_lt.mpr reached, le]
  · simp [Clip.markOut, Clip.closeAt, Nat.not_lt.mpr reached, Nat.not_le.mpr lt]

/-- A mark keeps the record's lane, leaves it listed, and comes at point 0 or, not on an ABSENT clip, at point 1. -/
theorem Clip.marked.keeps {c c' : Clip} {newest point lfn : Nat} {swapped : Bool} (h : c.marked newest point lfn c' swapped) :
    c'.lane = c.lane ∧ c'.state ≠ .free ∧ ((point == 1) && c.state == .absent) = false := by
  rcases h with ⟨rfl, opened, rfl, -⟩ | ⟨rfl, closed, -, rfl, -⟩ | ⟨rfl, closed, ⟨o, -, -, rfl⟩, -⟩ |
    ⟨rfl, absent, rfl, -⟩ | ⟨rfl, live, -, rfl, -⟩ | ⟨rfl, live, -, -, rfl, -⟩ | ⟨rfl, live, -, -, rfl, -⟩
  · simp [opened]
  · simp [closed]
  · simp [closed]
  · simp
  · rcases live with h | h <;> simp [h]
  · rcases live with h | h <;> simp [h]
  · rcases live with h | h <;> simp [h]

theorem Clip.locked_of_flags {c : Clip} (op : c.opLock = false) (ex : c.exportLock = false) : c.locked = false := by
  simp [Clip.locked, op, ex]

/-- Settles O23. -/
theorem clipMarkCreatesOrMovesPoints : Obligations.ClipMarkCreatesOrMovesPoints := by
  unfold Obligations.ClipMarkCreatesOrMovesPoints
  refine ⟨fun s h f l lfn n ready isIn named valid right ordered top low high free record => ?_,
    fun s h f l lfn newest c' swapped ready named low high isPoint => ?_, fun s l lfn => ⟨fun sound e he isLfn => ?_, fun none => ?_⟩⟩
  · obtain ⟨src, field, source, isField, lane, point⟩ := names_resolve named
    have request : s.clipMarkRequest f (s.effective h) =
        s.putMarked n { clip := newClip l lfn f.vl f.el s.rpn, swapped := false } := by
      have created := createByMark_eq (f := f) lane point valid ⟨right, ordered, top⟩ (recordFor_eq low high free record)
      have inRange : ¬(1023 < f.clip ∨ 1 < f.point ∨ f.clip = 0 ∧ f.point = 1) := by omega
      simp only [State.clipMarkRequest, source, isField, if_neg inRange]
      rcases record with rfl | ⟨zero, -⟩
      · rw [if_neg (by omega), if_pos free, if_neg (by omega), created]
      · rw [if_pos zero, ← zero, created]
    have listed : (newClip l lfn f.vl f.el s.rpn).state ≠ .free := by simp [newClip]
    obtain ⟨same, others, rest, fresh⟩ :=
      putMarked_state s n (m := { clip := newClip l lfn f.vl f.el s.rpn, swapped := false }) listed
    refine ⟨_, ?_, same.trans rfl, others, rest⟩
    rw [exec_of_ready rfl ready, fresh]
    simp only [requestOf, request, putMarked_eq s n (m := { clip := newClip l lfn f.vl f.el s.rpn, swapped := false }) listed]
    rfl
  · intro c listed right op ex isLane assigned valid marked
    obtain ⟨src, field, source, isField, lane, point⟩ := names_resolve named
    obtain ⟨keepsLane, staysListed, notAbsent⟩ := marked.keeps
    have request : s.clipMarkRequest f (s.effective h) = s.putMarked f.clip { clip := c', swapped } := by
      have resolved : s.resolvePoint src field (some c.lane) (f.point == 1) = .ok (l, lfn) := by
        refine resolvePoint_valid lane point (by simp [isLane]) ?_
        rcases Nat.le_one_iff_eq_zero_or_eq_one.mp isPoint with zero | one
        · simpa [zero] using valid
        · simpa [one] using valid
      have inRange : ¬(1023 < f.clip ∨ 1 < f.point ∨ f.clip = 0 ∧ f.point = 1) := by omega
      have unlocked : (s.clip f.clip).locked = false := Clip.locked_of_flags op ex
      have mayEdit : ¬(s.effective h > (s.clip f.clip).el) := Nat.not_lt.mpr right
      have table : (if (f.point == 1) then (s.clip f.clip).markOut lfn (decide (newest < lfn)) else (s.clip f.clip).markIn lfn) =
        { clip := c', swapped } := marked_eq marked
      simp only [State.clipMarkRequest, source, isField, if_neg inRange]
      rw [if_neg (by omega), if_neg listed]
      simp only [State.markExisting, if_neg mayEdit]
      rw [unlocked, notAbsent]
      simp only [Bool.false_eq_true, if_false]
      rw [resolved]
      simp only [Lane.isPlanned_eq assigned, table]
    obtain ⟨same, others, rest, fresh⟩ := putMarked_state s f.clip (m := { clip := c', swapped }) staysListed
    refine ⟨_, ?_, ?_, others, rest⟩
    · rw [exec_of_ready rfl ready, fresh]
      simp only [requestOf, request, putMarked_eq s f.clip (m := { clip := c', swapped }) staysListed]
    · rw [same]
      simp only [State.retimed, keepsLane.trans isLane]
  · obtain ⟨older, newer, entries⟩ := List.append_of_mem he
    have before : ∀ y ∈ older, (y.lfn == lfn) = false := fun y hy => by
      have : y.lfn < e.lfn := (List.pairwise_append.mp (entries ▸ sound.rising)).2.2 y hy e (by simp)
      simp [← isLfn, this.ne]
    rw [State.entryTimecode, Lane.entryAt, entries, find?_append_cons before (by simp [isLfn])]
    rfl
  · rw [State.entryTimecode, Lane.entryAt, List.find?_eq_none.mpr fun e he => by simpa using none e he]
    rfl

/-! ### CLIP SPAN (R60) -/

theorem spanCheck_valid {x : Lane} {a b : Nat} (first : x.admitsIn a) (last : x.admitsOut b) : x.spanCheck a b = none := by
  simp [Lane.spanCheck, first.nonempty, (Lane.inValid_iff x a).mpr first, (Lane.outValid_iff x b).mpr last]

/-- Settles O24. -/
theorem clipSpanSetsBothPoints : Obligations.ClipSpanSetsBothPoints := by
  unfold Obligations.ClipSpanSetsBothPoints
  intro s h f l n newest ready isLane inRange outRange assigned first last low high c created changed lo hi spanned either
  have points := spanCheck_valid first last
  have record : ∃ b : Clip, b.lane = l ∧ (created → b = { Clip.free with state := .opened, lane := l, inLfn := f.inLfn, vl := f.vl, el := f.el, creationRpn := s.refu.rpn }) ∧
      (changed → b = c) ∧ (requestOf (.clipSpan h f) (s.effective h) s) = s.putMarked n (b.span f.inLfn f.outLfn (s.lane l)) := by
    have lane : fin? 8 f.lane = some l := by rw [isLane, fin?_val]
    simp only [requestOf, lane]
    rcases either with new | old
    · obtain ⟨free, right, ordered, top, isRecord⟩ := id new
      refine ⟨newClip l f.inLfn f.vl f.el s.rpn, rfl, fun _ => rfl, fun old => absurd free old.1, ?_⟩
      have inTable : ¬(1023 < f.clip ∨ maxLfn < f.inLfn ∨ maxLfn < f.outLfn) := by
        simp only [maxLfn]
        omega
      have isFree : f.clip = 0 ∨ (s.clip f.clip).state = .free := by
        rcases isRecord with rfl | ⟨zero, -⟩
        · exact .inr free
        · exact .inl zero
      rw [if_neg inTable, if_pos isFree]
      simp [State.createBySpan, (levelsAllowed_iff _ _ _).mpr ⟨right, ordered, top⟩, points, recordFor_eq low high free isRecord]
    · obtain ⟨listed, same, right, op, ex, onLane⟩ := id old
      refine ⟨c, onLane, fun new => absurd new.1 listed, fun _ => rfl, ?_⟩
      have inTable : ¬(1023 < f.clip ∨ maxLfn < f.inLfn ∨ maxLfn < f.outLfn) := by
        simp only [maxLfn]
        omega
      have notFree : ¬(f.clip = 0 ∨ (s.clip f.clip).state = .free) := by
        rw [same]
        exact fun h => h.elim (by omega) listed
      have mayEdit : ¬(s.effective h > (s.clip n).el) := Nat.not_lt.mpr right
      have unlocked : (s.clip n).locked = false := Clip.locked_of_flags op ex
      rw [if_neg inTable, if_neg notFree, same]
      simp only [State.spanExisting, if_neg mayEdit, show (s.clip n).lane = l from onLane, unlocked, points, ne_eq,
        not_true_eq_false, Bool.false_eq_true, if_false]
      rfl
  obtain ⟨b, onLane, isNew, isOld, request⟩ := record
  have span : b.span f.inLfn f.outLfn (s.lane l) =
      { clip := if hi ≤ newest then { b with state := .closed, inLfn := lo, out := some hi, planned := none }
          else { b with state := .opened, inLfn := lo, out := none, planned := some hi },
        swapped := decide (f.outLfn < f.inLfn) } := by
    simp only [Clip.span, Lane.isPlanned_eq assigned, decide_eq_true_eq]
    by_cases reached : hi ≤ newest
    · rw [if_neg (Nat.not_lt.mpr reached), if_pos reached]
    · rw [if_pos (Nat.not_le.mp reached), if_neg reached]
  have listed : (b.span f.inLfn f.outLfn (s.lane l)).clip.state ≠ .free := by
    rw [span]
    by_cases reached : hi ≤ newest <;> simp [reached]
  obtain ⟨same, others, rest, fresh⟩ := putMarked_state s n listed
  have retimed : (s.putMarked n (b.span f.inLfn f.outLfn (s.lane l))).state.clip n = spanned b := by
    rw [same, span]
    by_cases reached : hi ≤ newest <;> simp [reached, State.retimed, spanned, onLane]
  refine ⟨_, ?_, fun new => ?_, fun old => ?_, others, rest⟩
  · rw [exec_of_ready rfl ready, request, putMarked_eq s n listed, span]
    by_cases reached : hi ≤ newest <;> simp only [reached, if_true, if_false] <;> rfl
  · rw [retimed, isNew new]
  · rw [retimed, isOld old]

/-! ### Locks (R62 to R64) -/

theorem heldReply_eq (s : State) (l : Fin 8) : s.heldReply l = { state := s, status := .ok, body := leBytes 2 (s.lane l).held } := rfl

theorem relax_locked {s : State} {n : Nat} {c : Clip} (locked : c.locked = true) : s.relax n c = s.setClip n c := if_pos locked

theorem relax_unlocked {s : State} {n : Nat} {c : Clip} (unlocked : c.locked = false) {r : LfnRange} (range : c.range = some r) :
    s.relax n c = (s.setClip n c).release c.lane r := by
  simp [State.relax, unlocked, range]

theorem Clip.range_withOpLock (c : Clip) (b : Bool) : ({ c with opLock := b } : Clip).range = c.range := rfl

theorem setClip_heldReply (s : State) (n : Nat) (c : Clip) (l : Fin 8) :
    (s.setClip n c).heldReply l = { state := s.setClip n c, status := .ok, body := leBytes 2 (s.lane l).held } := by
  rw [heldReply_eq, State.lane_congr (State.setClip_lanes s n c)]

/-- Settles O25. -/
theorem clipLockAndUnlock : Obligations.ClipLockAndUnlock := by
  unfold Obligations.ClipLockAndUnlock
  intro s h n low high c listed right held lock unlocked
  have edit (run : Clip → Answer) : s.withEdit n (s.effective h) run = run c := withEdit_allowed low high listed right run
  refine ⟨fun ready present => ?_, fun ready => ⟨fun off => ?_, fun on ex => ?_, fun on ex r range => ?_⟩⟩
  · have request : requestOf (.clipLock h n) (s.effective h) s = s.lockRequest n c := edit _
    simp only [State.lockRequest, if_neg present] at request
    refine ⟨fun on => ?_, fun off ex => ?_, fun off ex r range => ⟨fun refused => ?_, fun t admitted => ?_⟩⟩
    · rw [exec_of_ready rfl ready, request, if_pos on]
      rfl
    · rw [exec_of_ready rfl ready, request, if_neg (by simp [off]), if_pos ex, setClip_heldReply]
    · rw [exec_of_ready rfl ready, request, if_neg (by simp [off]), if_neg (by simp [ex]), range]
      simp only [refused]
      rfl
    · rw [exec_of_ready rfl ready, request, if_neg (by simp [off]), if_neg (by simp [ex]), range]
      simp only [admitted, setClip_heldReply, lock, held]
  · have request : requestOf (.clipUnlock h n) (s.effective h) s = s.unlockRequest n c := edit _
    rw [exec_of_ready rfl ready, request, State.unlockRequest, if_neg (by simp [off])]
    rfl
  · have request : requestOf (.clipUnlock h n) (s.effective h) s = s.unlockRequest n c := edit _
    rw [exec_of_ready rfl ready, request, State.unlockRequest, if_pos on, relax_locked (by simp [Clip.locked, ex])]
    exact congrArg (fun b => Host.Outcome.next (unlocked.answers h .clipUnlock .ok (flagBytes false ++ flagBytes b))) ex
  · have request : requestOf (.clipUnlock h n) (s.effective h) s = s.unlockRequest n c := edit _
    rw [exec_of_ready rfl ready, request, State.unlockRequest, if_pos on,
      relax_unlocked (by simp [Clip.locked, ex]) ((Clip.range_withOpLock c false).trans range)]
    exact congrArg (fun b =>
      Host.Outcome.next ((unlocked.release c.lane r).answers h .clipUnlock .ok (flagBytes false ++ flagBytes b))) ex

/-! ### Deletion, rights and labels (R51, R67, R68) -/

theorem dropWorking_mark (s : State) (n : Nat) (m : Fin 8) :
    (s.dropWorking n).mark m =
      { s.mark m with workingClip := if (s.mark m).workingClip = n then 0 else (s.mark m).workingClip } := by
  simp only [State.dropWorking, State.mark]
  rw [Fin.getElem_fin, Vector.getElem_map]
  split
  next same => simp only [Fin.getElem_fin, same, if_true]
  next other => simp only [Fin.getElem_fin, other, if_false]

theorem dropWorking_restored (s : State) (n : Nat) : { s.dropWorking n with marks := s.marks } = s := rfl

theorem clip_setClip_free (s : State) (n : Nat) : (s.setClip n Clip.free).clip n = Clip.free := by
  rw [clip_setClip, if_pos rfl]
  exact ite_self _

/-- Settles O26. -/
theorem clipDeleteRightsAndLabel : Obligations.ClipDeleteRightsAndLabel := by
  unfold Obligations.ClipDeleteRightsAndLabel
  intro s h n vl el text low high c listed right
  have edit (run : Clip → Answer) : s.withEdit n (s.effective h) run = run c := withEdit_allowed low high listed right run
  refine ⟨fun ready op ex unused => ?_, fun ready top may ordered => ?_, fun ready short plain => ?_⟩
  · have request : requestOf (.clipDelete h n) (s.effective h) s = s.deleteRequest n c := edit _
    refine ⟨(s.setClip n Clip.free).dropWorking n, ?_, ?_, fun m other => ?_, fun m => ?_, ?_⟩
    · rw [exec_of_ready rfl ready, request, State.deleteRequest, Clip.locked_of_flags op ex, if_neg (by simp), if_neg (by simp [unused])]
      rfl
    · exact clip_setClip_free s n
    · exact clip_setClip_ne s _ other
    · rw [dropWorking_mark, show (s.setClip n Clip.free).mark m = s.mark m by simp [State.mark]]
    · exact setClip_restored s n _
  · rw [exec_of_ready rfl ready]
    simp only [requestOf]
    rw [if_neg (by omega), edit, if_pos ((levelsAllowed_iff _ _ _).mpr ⟨may, ordered, top⟩)]
    rfl
  · have valid : labelValid text.length text = true := by
      simp only [labelValid, beq_self_eq_true, Bool.true_and, Bool.and_eq_true, decide_eq_true_eq, List.all_eq_true]
      exact ⟨short, fun b hb => plain b hb⟩
    rw [exec_of_ready rfl ready]
    simp only [requestOf]
    rw [if_pos valid, edit]
    rfl

/-! ### Reading the table (R52, R69, R70) -/

theorem clip_of_mem {s : State} (sorted : Sparse.Sorted s.clips) {e : Nat × Clip} (he : e ∈ s.clips) : s.clip e.1 = e.2 := by
  rw [State.clip, Sparse.lookup_of_mem sorted (by exact he)]
  rfl

theorem nextClip_eq {s : State} (sound : s.clipsSound) {n m : Nat} (above : n < m) (listed : (s.clip m).state ≠ .free)
    (between : ∀ k, n < k → k < m → (s.clip k).state = .free) : s.nextClip n = (m, (s.clip m).state) := by
  obtain ⟨older, newer, clips⟩ := List.append_of_mem (clip_mem_of_state listed)
  have before : ∀ e ∈ older, decide (n < e.1) = false := fun e he => by
    have lower : e.1 < m := (List.pairwise_append.mp (clips ▸ sound.inOrder)).2.2 e he (m, s.clip m) (by simp)
    have listed' : e ∈ s.clips := by rw [clips]; exact List.mem_append_left _ he
    refine decide_eq_false fun past => (sound.numbers e listed').2.2 ?_
    rw [← clip_of_mem sound.inOrder listed']
    exact between e.1 past lower
  have found : s.clips.find? (fun e => decide (n < e.1)) = some (m, s.clip m) := by
    rw [clips]
    exact find?_append_cons before (decide_eq_true above)
  simp only [State.nextClip, found]

theorem nextClip_none {s : State} (sound : s.clipsSound) {n : Nat} (none : ∀ k, n < k → (s.clip k).state = .free) :
    s.nextClip n = (0, .free) := by
  have nothing : s.clips.find? (fun e => decide (n < e.1)) = Option.none := by
    refine List.find?_eq_none.mpr fun e he past => (sound.numbers e he).2.2 ?_
    rw [← clip_of_mem sound.inOrder he]
    exact none e.1 (of_decide_eq_true past)
  simp only [State.nextClip, nothing]

theorem clip_of_free {s : State} (sound : s.clipsSound) {n : Nat} (free : (s.clip n).state = .free) : s.clip n = Clip.free :=
  (clip_eq_free_or_mem s n).resolve_right fun he => (sound.numbers _ he).2.2 free

/-- Settles O27. -/
theorem clipEnumerationReadsTheTable : Obligations.ClipEnumerationReadsTheTable := by
  unfold Obligations.ClipEnumerationReadsTheTable
  intro s h n sound inTable c
  refine ⟨fun ready => ⟨fun m above listed between => ?_, fun none => ?_⟩, fun ready low => ⟨fun free => ?_, fun listed => ?_⟩,
    fun ready low => ⟨fun free => ?_, fun listed hidden => ?_, fun listed seen => ?_⟩,
    fun k outside => ⟨fun ready => ?_, fun ready => ⟨?_, ?_⟩, fun ready => ⟨?_, ?_⟩⟩⟩
  · rw [exec_of_ready rfl ready]
    simp only [requestOf]
    rw [if_neg (by omega), nextClip_eq sound above listed between]
    rfl
  · rw [exec_of_ready rfl ready]
    simp only [requestOf]
    rw [if_neg (by omega), nextClip_none sound none]
    rfl
  · rw [exec_of_ready rfl ready]
    simp only [requestOf]
    rw [if_neg (by omega), clip_of_free sound free]
    rfl
  · have present : ((s.clip n).state != .free) = true := by simpa using listed
    rw [exec_of_ready rfl ready]
    simp only [requestOf]
    rw [if_neg (by omega)]
    simp only [State.accept, Clip.probeBytes, present, Bool.true_and]
    rfl
  · rw [exec_of_ready rfl ready]
    simp only [requestOf, withClip_free low inTable free]
    rfl
  · rw [exec_of_ready rfl ready]
    simp only [requestOf, withClip_listed low inTable listed]
    rw [if_pos (by exact hidden)]
    rfl
  · rw [exec_of_ready rfl ready]
    simp only [requestOf, withClip_listed low inTable listed]
    rw [if_neg (Nat.not_lt.mpr seen)]
    rfl
  · rw [exec_of_ready rfl ready]
    simp only [requestOf, if_pos outside]
    rfl
  · rw [exec_of_ready rfl ready]
    simp only [requestOf, if_pos (show k = 0 ∨ 1023 < k from .inr outside)]
    rfl
  · rw [exec_of_ready rfl ready]
    rfl
  · rw [exec_of_ready rfl ready]
    simp only [requestOf, withClip_outside (.inr outside)]
    rfl
  · rw [exec_of_ready rfl ready]
    simp only [requestOf, withClip_outside (.inl rfl)]
    rfl

end Sys2Proof.Machine

/-!
PROOFS. The mark lines (spec/04): their configuration and edges, the mark actions and their locks, and the actions ignored.
-/

namespace Sys2Proof.Machine

/-! ### LINE CONFIG (R71, R77) -/

theorem lineAction?_code (a : LineAction) : lineAction? a.code = some a := by
  cases a <;> rfl

theorem flag?_of_le_one {n : Nat} (h : n ≤ 1) : flag? n = some (n == 1) := by
  rcases Nat.le_one_iff_eq_zero_or_eq_one.mp h with rfl | rfl <;> rfl

/-- The fields of a binding spell it (R71, R205). -/
theorem lineBinding?_eq {b : LineBinding} {kind channel lane : Nat} (onChannel : ∀ c, b = .channel c → kind = 0 ∧ channel = c.val)
    (onLane : ∀ l, b = .lane l → kind = 1 ∧ lane = l.val) : lineBinding? kind channel lane = some b := by
  cases b with
  | channel c =>
    obtain ⟨rfl, rfl⟩ := onChannel c rfl
    simp [lineBinding?]
  | lane l =>
    obtain ⟨rfl, rfl⟩ := onLane l rfl
    simp [lineBinding?]

theorem edge?_eq {e : Edge} {n : Nat} (rising : e = .rising → n = 0) (falling : e = .falling → n = 1) : edge? n = some e := by
  cases e with
  | rising => rw [rising rfl]; rfl
  | falling => rw [falling rfl]; rfl

theorem mem_allLines (m : Fin 8) : m ∈ allLines := mem_allLanes m

/-- The working clip that the other lines of a binding hold. -/
theorem groupWorking_eq {s : State} {m : Fin 8} {b : LineBinding} {w : Nat}
    (shared : ∀ k, k ≠ m → (s.mark k).binding = b → (s.mark k).workingClip = w)
    (alone : (∀ k, k ≠ m → (s.mark k).binding ≠ b) → w = 0) : s.groupWorking m b = w := by
  unfold State.groupWorking
  split
  next k found =>
    have inGroup := List.find?_some found
    simp at inGroup
    exact shared k inGroup.1 inGroup.2
  next none =>
    refine (alone fun k other => ?_).symm
    have := List.find?_eq_none.mp none k (mem_allLines k)
    simpa [other] using this

theorem lineConfig?_eq {f : LineFields} {x : MarkLine} {action : LineAction} {b : LineBinding} {edge : Edge} {lane : Fin 8}
    (isAction : f.action = action.code) (isBinding : lineBinding? f.bindKind f.bindChannel f.bindLane = some b)
    (isEdge : edge? f.edge = some edge) (lock : f.lockOnCreate ≤ 1) (isLane : f.snapLane = lane.val)
    (inRange : f.holdOff ≤ 15 ∧ f.preRoll ≤ 65535 ∧ f.postRoll ≤ 65535 ∧ f.vl ≤ 3 ∧ f.el ≤ f.vl ∧ f.actingLevel ≤ 3 ∧
      f.snapDelay ≤ 65535 ∧ ¬(action.onChannel ∧ b.isLane)) :
    lineConfig? f x =
      some { x with
        action, binding := b, edge, holdOff := f.holdOff, preRoll := f.preRoll, postRoll := f.postRoll, vl := f.vl, el := f.el,
        lockOnCreate := f.lockOnCreate == 1, actingLevel := f.actingLevel, snapLane := lane, snapDelay := f.snapDelay } := by
  simp only [lineConfig?, isAction, lineAction?_code, isBinding, isEdge, flag?_of_le_one lock, isLane, fin?_val, Option.bind_eq_bind,
    Option.bind_some, if_pos inRange]

/-! ### Edges and hold-off (R73, R74) -/

theorem Edge.isTo_iff (e : Edge) (level : Bool) :
    e.isTo level = true ↔ (e = .rising ∧ level = true) ∨ (e = .falling ∧ level = false) := by
  cases e <;> cases level <;> simp [Edge.isTo]

theorem setMark_mark (s : State) (m : Fin 8) : s.setMark m (s.mark m) = s := by
  simp [State.setMark, State.mark]

theorem setMark_setMark (s : State) (m : Fin 8) (x y : MarkLine) : (s.setMark m x).setMark m y = s.setMark m y := by
  simp [State.setMark]

theorem exec_markEdge {s : State} (running : s.resetHeld = false) (m : Fin 8) (level : Bool) :
    exec (.markEdge m level) s = .next (s.lineInput m level) := by
  simp [exec, execMarkEdge, State.whenRunning, running]

/-- Settles O28. -/
theorem markLinesAreConfiguredAndTakeEdges : Obligations.MarkLinesAreConfiguredAndTakeEdges := by
  unfold Obligations.MarkLinesAreConfiguredAndTakeEdges
  refine ⟨fun s h f m action b edge lane w ready line isAction onChannel onLane rising falling holdOff pre post vl el lock acting snap
    delay shared alone => ?_, fun s m level running => ?_⟩
  · have offLane : ¬(action.onChannel = true ∧ b.isLane = true) := by
      rintro ⟨toChannel, toLane⟩
      cases b with
      | channel c => simp [LineBinding.isLane] at toLane
      | lane l =>
        obtain ⟨-, -, notContinue, notSnap, notResume⟩ := onLane l rfl
        cases action <;> simp_all [LineAction.onChannel]
    have config := lineConfig?_eq (x := s.mark m) isAction
      (lineBinding?_eq onChannel fun l h => ⟨(onLane l h).1, (onLane l h).2.1⟩) (edge?_eq rising falling) lock snap
      ⟨holdOff, pre, post, vl, el, acting, delay, offLane⟩
    rw [exec_of_ready rfl ready]
    simp only [requestOf, State.lineConfigRequest, line, fin?_val, config, groupWorking_eq shared alone]
    rfl
  · intro x active
    refine ⟨fun same => ?_, fun change idle => ?_, fun change isActive some zero => ?_, fun one => ?_, fun _ => rfl, fun zero => ?_⟩
    · rw [exec_markEdge running, State.lineInput, if_pos same]
    · have notTaken : ¬(x.edge.isTo level = true ∧ x.action ≠ .none ∧ x.counter = 0) := by
        rw [Edge.isTo_iff]
        exact idle
      rw [exec_markEdge running, State.lineInput, if_neg change]
      exact congrArg Host.Outcome.next (if_neg notTaken)
    · have taken : x.edge.isTo level = true ∧ x.action ≠ .none ∧ x.counter = 0 :=
        ⟨(Edge.isTo_iff _ _).mpr isActive, some, zero⟩
      rw [exec_markEdge running, State.lineInput, if_neg change]
      refine congrArg Host.Outcome.next ((if_pos taken).trans ?_)
      rw [setMark_setMark]
    · have due : (s.mark m).counter = 1 := one
      simp only [exec, execHoldOffEnd, State.whenRunning, running, Bool.false_eq_true, if_false, due, if_true, State.lineTick,
        Nat.sub_self]
      rfl
    · refine (congrArg (s.setMark m) ?_).trans (setMark_mark s m)
      have : (s.mark m).counter = 0 := zero
      rw [this, Nat.zero_sub, ← this]

/-! ### Acting level, capture and working clip (R75 to R77) -/

theorem actingLevel_eq (s : State) (x : MarkLine) :
    s.actingLevel x = match x.binding with
      | .lane _ => x.actingLevel
      | .channel c => match (s.channel c).owner with
        | some _ => (s.channel c).level
        | none => 3 := by
  unfold State.actingLevel
  cases x.binding with
  | lane l => rfl
  | channel c =>
    dsimp only
    cases (s.channel c).owner <;> rfl

theorem capture_channel {s : State} {x : MarkLine} {c : Fin 4} {f : FrameRef} (binding : x.binding = .channel c)
    (onAir : (s.channel c).onAir = some f) (entries : (s.lane f.lane).entries ≠ []) : s.capture x = .ok (f.lane, f.lfn) := by
  simp [State.capture, binding, onAir, entries]

theorem capture_lane {s : State} {x : MarkLine} {l : Fin 8} {n : Nat} (binding : x.binding = .lane l)
    (newest : (s.lane l).newestGood = some n) : s.capture x = .ok (l, n) := by
  simp [State.capture, binding, newest]

theorem capture_eq {s : State} {x : MarkLine} {l : Fin 8} {lfn : Nat}
    (captured : (∃ c f, x.binding = .channel c ∧ (s.channel c).onAir = some f ∧ f.lane = l ∧ f.lfn = lfn ∧ (s.lane l).entries ≠ []) ∨
      x.binding = .lane l ∧ (s.lane l).newestGood = some lfn) : s.capture x = .ok (l, lfn) := by
  rcases captured with ⟨c, f, binding, onAir, rfl, rfl, entries⟩ | ⟨binding, newest⟩
  · exact capture_channel binding onAir entries
  · exact capture_lane binding newest

theorem openWorking_usable {s : State} {x : MarkLine} (usable : x.workingClip ≠ 0 ∧ (s.clip x.workingClip).state = .opened) :
    s.openWorking x = some (x.workingClip, s.clip x.workingClip) := if_pos usable

theorem openWorking_none {s : State} {x : MarkLine} (unusable : ¬(x.workingClip ≠ 0 ∧ (s.clip x.workingClip).state = .opened)) :
    s.openWorking x = none := if_neg unusable

theorem markAction_captured {s : State} {m l : Fin 8} {lfn : Nat} (captured : s.capture (s.mark m) = .ok (l, lfn))
    (run : Fin 8 → Nat → State) : s.markAction m run = run l lfn := by
  simp only [State.markAction, captured]

theorem markAction_failed {s : State} {m : Fin 8} {r : MarkReason} (failed : s.capture (s.mark m) = .error r)
    (run : Fin 8 → Nat → State) : s.markAction m run = s.markIgnored m (s.mark m).workingClip r (leBytes 4 0) := by
  simp only [State.markAction, failed]

/-- A mark action is its capture followed by the action of its kind. -/
theorem lineAction_marks {s : State} {m : Fin 8} :
    ((s.mark m).action = .markIn → s.lineAction m = s.markAction m (s.markInAction m)) ∧
    ((s.mark m).action = .markOut → s.lineAction m = s.markAction m (s.markOutAction m)) ∧
    ((s.mark m).action = .markSnap → s.lineAction m = s.markAction m (s.markSnapAction m)) :=
  ⟨fun h => by simp only [State.lineAction, h], fun h => by simp only [State.lineAction, h],
    fun h => by simp only [State.lineAction, h]⟩

theorem markInAction_creates {s : State} {m l : Fin 8} {lfn : Nat}
    (none : ¬(((s.mark m).workingClip ≠ 0 ∧ (s.clip (s.mark m).workingClip).state = .opened) ∧
      (s.clip (s.mark m).workingClip).lane = l)) : s.markInAction m l lfn = s.markInCreates m l lfn := by
  by_cases usable : (s.mark m).workingClip ≠ 0 ∧ (s.clip (s.mark m).workingClip).state = .opened
  · have other : ¬(s.clip (s.mark m).workingClip).lane = l := fun h => none ⟨usable, h⟩
    simp only [State.markInAction, openWorking_usable usable, if_neg other]
  · simp only [State.markInAction, openWorking_none usable]

theorem markInAction_replaces {s : State} {m l : Fin 8} {lfn : Nat}
    (usable : (s.mark m).workingClip ≠ 0 ∧ (s.clip (s.mark m).workingClip).state = .opened)
    (here : (s.clip (s.mark m).workingClip).lane = l) :
    s.markInAction m l lfn = s.markInReplaces m l (s.mark m).workingClip (s.clip (s.mark m).workingClip) lfn := by
  simp only [State.markInAction, openWorking_usable usable, if_pos here]

theorem Clip.closeAt_eq (c : Clip) (n : Nat) :
    c.closeAt n =
      { clip := { c with state := .closed, inLfn := min c.inLfn n, out := some (max c.inLfn n), planned := none },
        swapped := decide (n < c.inLfn) } := by
  unfold Clip.closeAt
  by_cases le : c.inLfn ≤ n
  · rw [if_pos le, Nat.min_eq_left le, Nat.max_eq_right le, decide_eq_false (Nat.not_lt.mpr le)]
  · have lt := Nat.lt_of_not_le le
    rw [if_neg le, Nat.min_eq_right lt.le, Nat.max_eq_left lt.le, decide_eq_true lt]

theorem lowestFree_none {s : State} (full : ∀ n, 1 ≤ n → n ≤ 1023 → (s.clip n).state ≠ .free) : s.lowestFree = none := by
  refine List.find?_eq_none.mpr fun n hn free => ?_
  simp only [List.mem_map, List.mem_range] at hn
  obtain ⟨k, lt, rfl⟩ := hn
  exact full (k + 1) (by omega) (by omega) (by simpa using free)

/-- The points of MARK_SNAP are in order. -/
theorem snap_points_ordered {x : Lane} {lfn pre post : Nat} (top : lfn ≤ 4294967295) (valid : x.admitsOut (min maxLfn (lfn + post))) :
    max (x.floor.getD 0) (lfn - pre) ≤ min maxLfn (lfn + post) := by
  obtain ⟨e, rest, entries, floor⟩ := valid
  have isFloor : x.floor.getD 0 = e.lfn := by simp [Lane.floor, entries]
  rw [isFloor]
  simp only [maxLfn] at *
  omega

theorem span_ordered {c : Clip} {a b newest : Nat} {x : Lane} (ordered : a ≤ b) (assigned : x.newestAssigned = some newest) :
    (c.span a b x).clip =
      if b ≤ newest then { c with state := .closed, inLfn := a, out := some b, planned := none }
      else { c with state := .opened, inLfn := a, out := none, planned := some b } := by
  simp only [Clip.span, Nat.min_eq_left ordered, Nat.max_eq_right ordered, Lane.isPlanned_eq assigned, decide_eq_true_eq]
  by_cases reached : b ≤ newest
  · rw [if_neg (Nat.not_lt.mpr reached), if_pos reached]
  · rw [if_pos (Nat.not_le.mp reached), if_neg reached]

/-! ### Locks at a mark line (R81, R83) -/

theorem askLock_eq {t : State} {n : Nat} {k : Clip} (h : t.clip n = k) :
    t.askLock n = match k.range.bind fun r => t.admitLock k.lane r with
      | none => (t, .budget)
      | some t' => (t'.setClip n { k with opLock := true }, .locked) := by
  subst h
  rfl

theorem retimed_congr {s t : State} (h : ∀ l, (t.lane l).entries = (s.lane l).entries) (c : Clip) : t.retimed c = s.retimed c := by
  have (l : Fin 8) : t.entryTimecode l = s.entryTimecode l := funext (State.entryTimecode_congr (h l))
  simp only [State.retimed, this]

theorem release_entries (s : State) (l : Fin 8) (r : LfnRange) (m : Fin 8) : ((s.release l r).lane m).entries = (s.lane m).entries := by
  simp only [State.release, State.modifyLane_lane_eq]
  split <;> rfl

theorem createByLine_unlocked (s : State) (n : Nat) (c : Clip) : s.createByLine n c false = (s.setClip n (s.retimed c), .noLock) := rfl

theorem createByLine_locked {s : State} {n : Nat} {c : Clip} (listed : c.state ≠ .free) :
    s.createByLine n c true = match (s.retimed c).range.bind fun r => (s.setClip n (s.retimed c)).admitLock (s.retimed c).lane r with
      | none => (s.setClip n (s.retimed c), .budget)
      | some t' => (t'.setClip n { s.retimed c with opLock := true }, .locked) :=
  askLock_eq (clip_setClip_same s n (by exact listed))

theorem repoint_unlocked {s : State} {n : Nat} (c : Clip) (unlocked : (s.clip n).opLock = false) :
    s.repoint n c = (s.setClip n (s.retimed c), .noLock) := by
  simp [State.repoint, unlocked]

theorem repoint_locked {s : State} {n : Nat} {c : Clip} (listed : c.state ≠ .free) (locked : (s.clip n).opLock = true)
    (noExport : (s.clip n).exportLock = false) {r : LfnRange} (range : (s.clip n).range = some r) :
    let free : Clip := { s.retimed c with opLock := false }
    let t := ((s.setClip n { s.clip n with opLock := false }).release (s.clip n).lane r).setClip n free
    s.repoint n c = match free.range.bind fun r => t.admitLock free.lane r with
      | none => (t, .budget)
      | some t' => (t'.setClip n { free with opLock := true }, .locked) := by
  intro free t
  have relaxed : s.relax n { s.clip n with opLock := false } = (s.setClip n { s.clip n with opLock := false }).release (s.clip n).lane r :=
    relax_unlocked (by simp [Clip.locked, noExport]) ((Clip.range_withOpLock _ _).trans range)
  have timed : ((s.setClip n { s.clip n with opLock := false }).release (s.clip n).lane r).retimed c = s.retimed c :=
    retimed_congr (fun l => (release_entries _ _ _ l).trans (congrArg Lane.entries (State.lane_congr (State.setClip_lanes _ _ _) l))) c
  have same : s.repoint n c = t.askLock n := by
    simp only [State.repoint, locked, if_true, relaxed, timed]
    rfl
  rw [same]
  exact askLock_eq (clip_setClip_same _ n (by exact listed))

/-! ### The mark actions (R79 to R82, R86) -/

theorem markTaken_eq (t : State) (m : Fin 8) (clip point lfn : Nat) (o : LockOutcome) (swapped : Bool) :
    t.markTaken m clip point lfn o swapped =
      t.post .mark 0 m.val (leBytes 2 clip ++ leBytes 1 point ++ lfnBytes lfn ++ leBytes 1
        ((match o with
          | .noLock => 0
          | .locked => 2
          | .budget => 4) + if swapped then 1 else 0)) := rfl

section Taken

variable {s : State} {m l : Fin 8} {lfn : Nat}

theorem markInCreates_taken {n : Nat} (allowed : s.actingLevel (s.mark m) ≤ (s.mark m).el) (valid : (s.lane l).admitsIn lfn)
    (free : s.lowestFree = some n) :
    let r := s.createByLine n (newClip l lfn (s.mark m).vl (s.mark m).el s.rpn) (s.mark m).lockOnCreate
    s.markInCreates m l lfn = (r.1.setWorking (s.mark m).binding n).markTaken m n 0 lfn r.2 false := by
  simp only [State.markInCreates, if_neg (Nat.not_lt.mpr allowed), (Lane.inValid_iff _ _).mpr valid, free]
  rfl

theorem markInReplaces_taken {n : Nat} {c : Clip} (allowed : s.actingLevel (s.mark m) ≤ c.el) (valid : (s.lane l).admitsIn lfn) :
    let r := s.repoint n { c with inLfn := lfn }
    s.markInReplaces m l n c lfn = r.1.markTaken m n 0 lfn r.2 false := by
  simp only [State.markInReplaces, if_neg (Nat.not_lt.mpr allowed), (Lane.inValid_iff _ _).mpr valid]
  rfl

theorem markOutAction_taken
    (usable : (s.mark m).workingClip ≠ 0 ∧ (s.clip (s.mark m).workingClip).state = .opened)
    (here : (s.clip (s.mark m).workingClip).lane = l) (allowed : s.actingLevel (s.mark m) ≤ (s.clip (s.mark m).workingClip).el)
    (valid : (s.lane l).admitsOut lfn) :
    let k := (s.clip (s.mark m).workingClip).closeAt lfn
    let r := s.repoint (s.mark m).workingClip k.clip
    s.markOutAction m l lfn = (r.1.setWorking (s.mark m).binding 0).markTaken m (s.mark m).workingClip 1 lfn r.2 k.swapped := by
  have same : ¬(s.clip (s.mark m).workingClip).lane ≠ l := not_not.mpr here
  simp only [State.markOutAction, openWorking_usable usable, if_neg same, if_neg (Nat.not_lt.mpr allowed),
    (Lane.outValid_iff _ _).mpr valid]
  rfl

theorem markSnapAction_taken {n : Nat} (allowed : s.actingLevel (s.mark m) ≤ (s.mark m).el)
    (valid : (s.lane l).admitsOut (min maxLfn (lfn + (s.mark m).postRoll))) (free : s.lowestFree = some n) :
    let a := max ((s.lane l).floor.getD 0) (lfn - (s.mark m).preRoll)
    let b := min maxLfn (lfn + (s.mark m).postRoll)
    let r := s.createByLine n ((newClip l a (s.mark m).vl (s.mark m).el s.rpn).span a b (s.lane l)).clip (s.mark m).lockOnCreate
    s.markSnapAction m l lfn = r.1.markTaken m n 2 lfn r.2 false := by
  simp only [State.markSnapAction, if_neg (Nat.not_lt.mpr allowed), (Lane.outValid_iff _ _).mpr valid, free]
  rfl

end Taken

/-- Settles O29. -/
theorem markActionsMarkAndLock : Obligations.MarkActionsMarkAndLock := by
  unfold Obligations.MarkActionsMarkAndLock
  refine ⟨fun s m l lfn newest n => ?_, fun s n c listed noExport => ?_⟩
  · intro x lane w usable acting lowest fresh taken a b snapped captured assigned
    have isActing : s.actingLevel x = acting := actingLevel_eq s x
    have isCaptured : s.capture (s.mark m) = .ok (l, lfn) := capture_eq captured
    obtain ⟨markIn, markOut, markSnap⟩ := lineAction_marks (s := s) (m := m)
    have isLowest (h : lowest) : s.lowestFree = some n := lowestFree_eq h.2.1 h.2.2.1 h.1 h.2.2.2
    refine ⟨fun action fresh' allowed valid free => ?_, fun action usable here allowed valid => ?_,
      fun action usable here allowed valid => ?_, fun action allowed valid free top => ?_⟩
    · intro r
      rw [markIn action, markAction_captured isCaptured, markInAction_creates fresh',
        markInCreates_taken (isActing.trans_le allowed) valid (isLowest free)]
      exact markTaken_eq _ m n 0 lfn _ false
    · intro r
      rw [markIn action, markAction_captured isCaptured, markInAction_replaces usable here,
        markInReplaces_taken (isActing.trans_le allowed) valid]
      exact markTaken_eq _ m _ 0 lfn _ false
    · intro k r
      have close : (s.clip (s.mark m).workingClip).closeAt lfn = { clip := k, swapped := decide (lfn < w.inLfn) } := Clip.closeAt_eq _ _
      rw [markOut action, markAction_captured isCaptured, markOutAction_taken usable here (isActing.trans_le allowed) valid, close]
      exact markTaken_eq _ m _ 1 lfn _ _
    · intro r
      have points : ((newClip l a x.vl x.el s.rpn).span a b lane).clip = snapped := by
        rw [span_ordered (snap_points_ordered top valid) assigned]
        exact ite_congr rfl (fun _ => rfl) fun _ => rfl
      rw [markSnap action, markAction_captured isCaptured, markSnapAction_taken (isActing.trans_le allowed) valid (isLowest free)]
      exact (congrArg (fun c => (s.createByLine n c x.lockOnCreate).1.markTaken m n 2 lfn (s.createByLine n c x.lockOnCreate).2 false)
        points).trans (markTaken_eq _ m n 2 lfn _ false)
  · intro timed asked free
    exact ⟨createByLine_unlocked s n c, createByLine_locked listed, repoint_unlocked c,
      fun locked r range => repoint_locked listed locked noExport range⟩

/-! ### Ignored mark actions (R78, R87) -/

theorem setWorking_mark (s : State) (b : LineBinding) (w : Nat) (m : Fin 8) :
    (s.setWorking b w).mark m = if (s.mark m).binding = b then { s.mark m with workingClip := w } else s.mark m := by
  have : (s.setWorking b w).mark m = if s.marks[m.val].binding = b then { s.marks[m.val] with workingClip := w } else s.marks[m.val] := by
    simp only [State.setWorking, State.mark, Fin.getElem_fin, Vector.getElem_map]
  exact this

theorem setWorking_action (s : State) (b : LineBinding) (w : Nat) (m : Fin 8) :
    ((s.setWorking b w).mark m).action = (s.mark m).action := by
  rw [setWorking_mark]
  split <;> rfl

theorem markIgnored_eq {s t : State} {m : Fin 8} (action : (t.mark m).action = (s.mark m).action) (w : Nat) (r : MarkReason)
    (detail : List Byte) :
    t.markIgnored m w r detail =
      t.post .mark 1 m.val (leBytes 1 (s.mark m).action.code ++ leBytes 1 r.code ++ detail ++ leBytes 2 w) := by
  rw [State.markIgnored, action]

theorem channelAction_eq {s : State} {m : Fin 8} {c : Fin 4} (binding : (s.mark m).binding = .channel c) {request : Fin 4 → Answer}
    (clean : (request c).RefusesCleanly s) :
    s.channelAction m request =
      if (request c).status.success then (request c).state
      else (request c).state.post .mark 1 m.val
        (leBytes 1 (s.mark m).action.code ++ leBytes 1 8 ++ leBytes 4 (request c).status.code ++ leBytes 2 (s.mark m).workingClip) := by
  simp only [State.channelAction, binding]
  cases refused : (request c).status.success with
  | true => rfl
  | false =>
    simp only [Bool.false_eq_true, if_false]
    exact markIgnored_eq (by rw [(clean refused).1]) _ .refused _

/-- Settles O30. -/
theorem ignoredMarkActionsAreReported : Obligations.IgnoredMarkActionsAreReported := by
  unfold Obligations.IgnoredMarkActionsAreReported
  intro s m x w ignored marks usable acting
  have isActing : s.actingLevel x = acting := actingLevel_eq s x
  obtain ⟨markIn, markOut, markSnap⟩ := lineAction_marks (s := s) (m := m)
  have no (r : MarkReason) (detail : List Byte) : s.markIgnored m x.workingClip r detail = ignored s r.code detail := markIgnored_eq rfl _ r _
  have failed {r : MarkReason} (isMark : marks) (capture : s.capture (s.mark m) = .error r) :
      s.lineAction m = ignored s r.code [0, 0, 0, 0] := by
    rw [← no r [0, 0, 0, 0]]
    rcases isMark with h | h | h
    · rw [markIn h, markAction_failed capture]; rfl
    · rw [markOut h, markAction_failed capture]; rfl
    · rw [markSnap h, markAction_failed capture]; rfl
  refine ⟨fun c binding isMark onAir => failed (r := .noSource) isMark ?_, fun c f binding isMark onAir entries =>
    failed (r := .noFrames) isMark ?_, fun l binding isMark newest => failed (r := .noFrames) isMark ?_, fun l lfn captured => ?_,
    fun c binding => ?_⟩
  · simp [State.capture, show (s.mark m).binding = _ from binding, onAir]
  · simp [State.capture, show (s.mark m).binding = _ from binding, onAir, entries]
  · simp [State.capture, show (s.mark m).binding = _ from binding, newest]
  · intro lane out full no'
    have isCaptured : s.capture (s.mark m) = .ok (l, lfn) := capture_eq captured
    have goodIn (h : lane.admitsIn lfn) : (s.lane l).inValid lfn = true := (Lane.inValid_iff _ _).mpr h
    have goodSnap (h : lane.admitsOut out) : (s.lane l).outValid (min maxLfn (lfn + (s.mark m).postRoll)) = true :=
      (Lane.outValid_iff _ _).mpr h
    have badSnap (h : ¬lane.admitsOut out) : (s.lane l).outValid (min maxLfn (lfn + (s.mark m).postRoll)) = false := by
      simpa using mt (Lane.outValid_iff _ _).mp h
    have aboveClip (h : w.el < acting) : (s.clip (s.mark m).workingClip).el < s.actingLevel (s.mark m) := h.trans_eq isActing.symm
    have aboveLine (h : x.el < acting) : (s.mark m).el < s.actingLevel (s.mark m) := h.trans_eq isActing.symm
    have withinClip (h : acting ≤ w.el) : ¬((s.clip (s.mark m).workingClip).el < s.actingLevel (s.mark m)) :=
      Nat.not_lt.mpr (isActing.trans_le h)
    have withinLine (h : acting ≤ x.el) : ¬((s.mark m).el < s.actingLevel (s.mark m)) := Nat.not_lt.mpr (isActing.trans_le h)
    have badIn (h : ¬lane.admitsIn lfn) : (s.lane l).inValid lfn = false := by simpa using mt (Lane.inValid_iff _ _).mp h
    have badOut (n : Nat) (h : ¬lane.admitsOut n) : (s.lane l).outValid n = false := by simpa using mt (Lane.outValid_iff _ _).mp h
    refine ⟨fun action => ⟨fun unusable => ?_, fun usable other => ?_, fun usable here above => ?_, fun usable here ok bad => ?_⟩,
      fun action usable here => ⟨fun above => ?_, fun ok bad => ?_⟩,
      fun action none => ⟨fun above => ?_, fun ok bad => ?_, fun ok valid full => ?_⟩,
      fun action => ⟨fun above => ?_, fun ok bad => ?_, fun ok valid full => ?_⟩⟩
    · show s.lineAction m = _
      rw [markOut action, markAction_captured isCaptured]
      simp only [State.markOutAction, openWorking_none (x := s.mark m) unusable]
      exact markIgnored_eq (setWorking_action s _ 0 m) _ .noIn _
    · show s.lineAction m = _
      have other : (s.clip (s.mark m).workingClip).lane ≠ l := other
      rw [markOut action, markAction_captured isCaptured]
      simp only [State.markOutAction, openWorking_usable (x := s.mark m) usable, if_pos other]
      exact no .wrongLane _
    · show s.lineAction m = _
      have same : ¬(s.clip (s.mark m).workingClip).lane ≠ l := not_not.mpr here
      rw [markOut action, markAction_captured isCaptured]
      simp only [State.markOutAction, openWorking_usable (x := s.mark m) usable, if_neg same, if_pos (aboveClip above)]
      exact no .rights _
    · show s.lineAction m = _
      have same : ¬(s.clip (s.mark m).workingClip).lane ≠ l := not_not.mpr here
      rw [markOut action, markAction_captured isCaptured]
      simp only [State.markOutAction, openWorking_usable (x := s.mark m) usable, if_neg same, if_neg (withinClip ok), badOut _ bad]
      exact no .range _
    · show s.lineAction m = _
      rw [markIn action, markAction_captured isCaptured, markInAction_replaces usable here]
      simp only [State.markInReplaces, if_pos (aboveClip above)]
      exact no .rights _
    · show s.lineAction m = _
      rw [markIn action, markAction_captured isCaptured, markInAction_replaces usable here]
      simp only [State.markInReplaces, if_neg (withinClip ok), badIn bad]
      exact no .range _
    · show s.lineAction m = _
      rw [markIn action, markAction_captured isCaptured, markInAction_creates none]
      simp only [State.markInCreates, if_pos (aboveLine above)]
      exact no .levels _
    · show s.lineAction m = _
      rw [markIn action, markAction_captured isCaptured, markInAction_creates none]
      simp only [State.markInCreates, if_neg (withinLine ok), badIn bad]
      exact no .range _
    · show s.lineAction m = _
      rw [markIn action, markAction_captured isCaptured, markInAction_creates none]
      simp only [State.markInCreates, if_neg (withinLine ok), goodIn valid, lowestFree_none full]
      exact no .tableFull _
    · show s.lineAction m = _
      rw [markSnap action, markAction_captured isCaptured]
      simp only [State.markSnapAction, if_pos (aboveLine above)]
      exact no .levels _
    · show s.lineAction m = _
      rw [markSnap action, markAction_captured isCaptured]
      simp only [State.markSnapAction, if_neg (withinLine ok), badSnap bad]
      exact no .range _
    · show s.lineAction m = _
      rw [markSnap action, markAction_captured isCaptured]
      simp only [State.markSnapAction, if_neg (withinLine ok), goodSnap valid, lowestFree_none full]
      exact no .tableFull _
  · intro delivered
    obtain ⟨-, -, -, -, -, -, -, continues, snaps, -, resumes, -⟩ := channelRequest_refusesCleanly s c
    refine ⟨fun action => ?_, fun action => ?_, fun action => ?_⟩
    · have : s.lineAction m = s.channelAction m s.continueRequest := by
        simp only [State.lineAction, show (s.mark m).action = _ from action]
      rw [this, channelAction_eq binding continues]
    · have : s.lineAction m = s.channelAction m fun c => s.snapLaneRequest c x.snapLane x.snapDelay := by
        simp only [State.lineAction, show (s.mark m).action = _ from action, x]
      rw [this, channelAction_eq binding (snaps _ _)]
    · have : s.lineAction m = s.channelAction m fun c => s.resumeRequest c acting := by
        rw [← isActing]
        simp only [State.lineAction, show (s.mark m).action = _ from action, x]
      rw [this, channelAction_eq binding (resumes _)]

end Sys2Proof.Machine

/-!
PROOFS. The jog counters and the lever converter (spec/05): edges and detents, the configuration commands, the scan and its conversions,
and the motions that reach a channel.
-/

namespace Sys2Proof.Machine

/-! ### Edges and detents (R88 to R91) -/

section
variable {x : Jog} {a b : Bool}

theorem Jog.edge_forward (h : (x.a, x.b, a, b) ∈ [(false, false, true, false), (true, false, true, true), (true, true, false, true),
    (false, true, false, false)]) : x.edge a b = { x with a, b, count := x.count + 1 } := by
  simp only [List.mem_cons, Prod.mk.injEq, List.not_mem_nil, or_false] at h
  rcases h with ⟨ha, hb, rfl, rfl⟩ | ⟨ha, hb, rfl, rfl⟩ | ⟨ha, hb, rfl, rfl⟩ | ⟨ha, hb, rfl, rfl⟩ <;>
    simp only [Jog.edge, ha, hb, phaseCode]

theorem Jog.edge_backward (h : (a, b, x.a, x.b) ∈ [(false, false, true, false), (true, false, true, true), (true, true, false, true),
    (false, true, false, false)]) : x.edge a b = { x with a, b, count := x.count - 1 } := by
  simp only [List.mem_cons, Prod.mk.injEq, List.not_mem_nil, or_false] at h
  rcases h with ⟨rfl, rfl, ha, hb⟩ | ⟨rfl, rfl, ha, hb⟩ | ⟨rfl, rfl, ha, hb⟩ | ⟨rfl, rfl, ha, hb⟩ <;>
    simp only [Jog.edge, ha, hb, phaseCode]

theorem Jog.edge_glitch (ha : a ≠ x.a) (hb : b ≠ x.b) : x.edge a b = { x with a, b, glitch := true } := by
  have offA : a = !x.a := Bool.eq_not.mpr ha
  have offB : b = !x.b := Bool.eq_not.mpr hb
  subst offA offB
  have differs : (phaseCode (!x.a) (!x.b) + 4 - phaseCode x.a x.b) % 4 = 2 := by
    cases x.a <;> cases x.b <;> rfl
  simp only [Jog.edge, differs]

end

/-- The count that a tick leaves in a jog (R91). -/
def Jog.remainder (x : Jog) : BitVec 16 := BitVec.ofInt 16 (x.count.toInt - x.detents * x.counts)

/-- The remainder of R91 is that of a division truncated toward zero. -/
theorem Jog.remainder_toInt {x : Jog} (h : x.counts = 1 ∨ x.counts = 2 ∨ x.counts = 4) :
    x.remainder.toInt = x.count.toInt.tmod x.counts := by
  have isMod : x.count.toInt - x.detents * x.counts = x.count.toInt.tmod x.counts := by
    rw [Jog.detents, Int.tmod_def, Int.mul_comm]
  have below : (x.count.toInt.tmod x.counts).natAbs < 4 := by
    have := Int.natAbs_tmod x.count.toInt x.counts
    rcases h with h | h | h <;> simp only [h, Int.natAbs_natCast] at this ⊢ <;> omega
  rw [Jog.remainder, isMod, BitVec.toInt_ofInt, Int.bmod_eq_of_le] <;> omega

theorem Jog.ticked_quiet {x : Jog} (h : x.detents = 0 ∨ x.binding = none) : x.ticked = { x with count := x.remainder } := by
  rcases h with none | unbound
  · simp only [Jog.ticked, if_pos none]
    rfl
  · simp only [Jog.ticked, unbound, ite_self]
    rfl

theorem Jog.ticked_bound {x : Jog} {c : Fin 4} (h : x.detents ≠ 0) (bound : x.binding = some c) : x.ticked = { x with
    count := x.remainder
    motions := x.motions ++ [{ channel := c, detents := x.detents, step := x.step, takeover := x.takeover }] } := by
  simp only [Jog.ticked, if_neg h, bound]
  rfl

/-- Settles O31. -/
theorem jogsCountEdgesAndGiveDetents : Obligations.JogsCountEdgesAndGiveDetents := by
  unfold Obligations.JogsCountEdgesAndGiveDetents
  refine ⟨fun s j a b running => ?_, fun s j => ?_⟩
  · have step : exec (.jogEdge j a b) s = .next (s.setJog j ((s.jog j).edge a b)) := by
      simp [exec, execJogEdge, State.whenRunning, running]
    refine ⟨fun forward => ?_, fun backward => ?_, fun ha hb => ?_⟩
    · rw [step, Jog.edge_forward forward]
    · rw [step, Jog.edge_backward backward]
    · rw [step, Jog.edge_glitch ha hb]
  · intro x counts
    have division := Int.mul_tdiv_add_tmod x.count.toInt x.counts
    refine ⟨x.detents, x.remainder, ?_, ?_, fun up => ?_, fun down => ?_, fun quiet => ?_, fun c moved bound => ?_⟩
    · rw [Jog.remainder_toInt counts, Jog.detents, Int.mul_comm, division]
    · rw [Jog.remainder_toInt counts, Int.natAbs_tmod, Int.natAbs_natCast]
      exact Nat.mod_lt _ (by omega)
    · rw [Jog.remainder_toInt counts]
      exact Int.tmod_nonneg _ up
    · rw [Jog.remainder_toInt counts]
      have := Int.tmod_nonneg (x.counts : Int) (Int.neg_nonneg_of_nonpos down)
      rw [Int.neg_tmod] at this
      omega
    · exact congrArg (s.setJog j) (Jog.ticked_quiet quiet)
    · exact congrArg (s.setJog j) (Jog.ticked_bound moved bound)

/-! ### The configuration commands (R92, R93, R99, R100) -/

/-- The fields of a channel binding spell it (R92, R99; log 35). -/
theorem channelBinding?_eq {bind : Option (Fin 4)} {kind channel : Nat} (unbound : bind = none → kind = 1)
    (bound : ∀ c, bind = some c → kind = 0 ∧ channel = c.val) : channelBinding? kind channel = some bind := by
  cases bind with
  | none =>
    rw [unbound rfl]
    rfl
  | some c =>
    obtain ⟨rfl, rfl⟩ := bound c rfl
    simp [channelBinding?]

theorem curveValid_of {points : List Int} (length : points.length = 17) (inRange : ∀ p ∈ points, -8192 ≤ p ∧ p ≤ 8192) :
    curveValid points = true := by
  simp only [curveValid, length, beq_self_eq_true, Bool.true_and, List.all_eq_true, Bool.and_eq_true, decide_eq_true_eq]
  exact inRange

/-- Settles O32. -/
theorem jogAndLeverCommandsConfigure : Obligations.JogAndLeverCommandsConfigure := by
  unfold Obligations.JogAndLeverCommandsConfigure
  intro s h j bind kind channel takeover unbound bound flag
  have binding := channelBinding?_eq unbound bound
  have taken := flag?_of_le_one flag
  refine ⟨fun counts step ready isCounts low high => ?_, fun centre halfWidth ready isCentre isWidth => ?_,
    fun points ready length inRange => ?_, fun ready => ?_⟩
  · have config : jogConfig? { jog := j.val, bindKind := kind, channel, counts, step, takeover } (s.jog j) =
        some { s.jog j with binding := bind, counts, step, takeover := takeover == 1, count := 0 } := by
      have inRange : counts ∈ [1, 2, 4] ∧ 1 ≤ step ∧ step ≤ 16 := ⟨by simpa using isCounts, low, high⟩
      simp only [jogConfig?, binding, taken, Option.bind_eq_bind, Option.bind_some, if_pos inRange]
    rw [exec_of_ready rfl ready]
    simp only [requestOf, State.jogConfigRequest, fin?_val, config]
    rfl
  · have config : leverConfig? { lever := j.val, bindKind := kind, channel, centre, halfWidth, takeover } (s.lever j) =
        some { s.lever j with binding := bind, centre, halfWidth, takeover := takeover == 1 } := by
      simp only [leverConfig?, binding, taken, Option.bind_eq_bind, Option.bind_some, if_pos (And.intro isCentre isWidth)]
    rw [exec_of_ready rfl ready]
    simp only [requestOf, State.leverConfigRequest, fin?_val, config]
    rfl
  · rw [exec_of_ready rfl ready]
    simp only [requestOf, fin?_val, curveValid_of length inRange, if_true]
    rfl
  · rw [exec_of_ready rfl ready]
    simp only [requestOf, fin?_val]
    rfl

/-! ### The scan and its conversions (R95 to R98) -/

theorem nextConversion_eq (s : State) : s.nextConversion = { s with underWay := s.scanList.head?, scanList := s.scanList.tail } := by
  cases list : s.scanList with
  | nil =>
    simp only [State.nextConversion, list, List.head?_nil, List.tail_nil]
  | cons v rest => simp only [State.nextConversion, list, List.head?_cons, List.tail_cons]

/-- A lever skipped when a tick restarts the scan (R97). -/
def State.skipLever (s : State) (v : Fin 4) : State := s.setLever v { s.lever v with skipped := (s.lever v).skipped + 1 }

theorem foldl_skipLever {vs : List (Fin 4)} (hn : vs.Nodup) (s : State) :
    (∀ v, (vs.foldl State.skipLever s).lever v =
      { s.lever v with skipped := if v ∈ vs then (s.lever v).skipped + 1 else (s.lever v).skipped }) ∧
    { vs.foldl State.skipLever s with levers := s.levers } = s := by
  induction vs generalizing s with
  | nil => simp
  | cons k vs ih =>
    obtain ⟨new, rest⟩ := List.nodup_cons.mp hn
    obtain ⟨levers, others⟩ := ih rest (s.skipLever k)
    rw [List.foldl_cons]
    refine ⟨fun v => ?_, ?_⟩
    · rw [levers, State.skipLever, State.lever_setLever_eq]
      by_cases same : v = k
      · simp [same, new]
      · simp [same, Ne.symm same]
    · exact congrArg (fun t : State => { t with levers := s.levers }) others

theorem skipLevers_eq (s : State) : s.skipLevers = (s.underWay.toList ++ s.scanList).foldl State.skipLever s := rfl

/-- No lever stands twice in a scan (R95). -/
theorem scan_nodup {s : State} (list : s.scanList.Nodup) (new : ∀ v, s.underWay = some v → v ∉ s.scanList) :
    (s.underWay.toList ++ s.scanList).Nodup := by
  cases h : s.underWay with
  | none => exact list
  | some v => exact List.nodup_cons.mpr ⟨new v h, list⟩

theorem Lever.convert_inBand {x : Lever} {v : Nat} (h : v ≤ x.centre + x.halfWidth ∧ x.centre ≤ v + x.halfWidth) :
    x.convert v = (0, true) := by
  have : max v x.centre - min v x.centre ≤ x.halfWidth := by omega
  rw [Lever.convert, if_pos this]

theorem Lever.convert_outOfBand {x : Lever} {v : Nat} (h : ¬(v ≤ x.centre + x.halfWidth ∧ x.centre ≤ v + x.halfWidth)) {i r : Nat}
    {p q : Int} (value : v = 64 * i + r) (part : r < 64) (low : x.curve[i]? = some p) (high : x.curve[i + 1]? = some q) :
    x.convert v = ((p * (64 - r) + q * r).tdiv 64, false) := by
  have outside : ¬max v x.centre - min v x.centre ≤ x.halfWidth := by omega
  have whole : v / 64 = i := by omega
  have left : v % 64 = r := by omega
  rw [Lever.convert, if_neg outside]
  simp only [whole, left, List.getD_eq_getElem?_getD, low, high, Option.getD_some]

theorem leverResult_eq {s : State} {v : Fin 4} {value : Nat} (running : s.resetHeld = false) (busy : s.underWay = some v)
    (inRange : value ≤ 1023) :
    exec (.leverResult value) s = .next (s.setLever v ((s.lever v).converted value)).nextConversion := by
  simp [exec, execLeverResult, State.whenRunning, running, State.leverResult, busy, inRange]

/-- Settles O33. -/
theorem leversAreScannedAndConverted : Obligations.LeversAreScannedAndConverted := by
  unfold Obligations.LeversAreScannedAndConverted
  refine ⟨fun s list new => ?_, fun x v _ _ => ⟨Lever.convert_inBand, fun out _ _ _ _ => Lever.convert_outOfBand out⟩,
    fun s v value running busy inRange => ?_⟩
  · obtain ⟨levers, others⟩ := foldl_skipLever (scan_nodup list new) s
    rw [← skipLevers_eq] at levers others
    have bindings : (allLevers.filter fun v => (s.skipLevers.lever v).binding.isSome) =
        allLevers.filter fun v => (s.lever v).binding.isSome := by
      simp only [levers]
    have tick : s.tickAction .levers =
        ({ s.skipLevers with scanList := allLevers.filter fun v => (s.lever v).binding.isSome } : State).nextConversion := by
      rw [← bindings]
      rfl
    intro t bound
    have isT : t = { s.skipLevers with underWay := bound.head?, scanList := bound.tail } := tick.trans (nextConversion_eq _)
    rw [isT]
    refine ⟨rfl, rfl, fun v => ?_, ?_⟩
    · have member : v ∈ s.underWay.toList ++ s.scanList ↔ s.underWay = some v ∨ v ∈ s.scanList := by simp
      exact (levers v).trans (by simp only [member])
    · exact congrArg (fun u : State => { u with underWay := s.underWay, scanList := s.scanList }) others
  · intro x r motion t
    have isT : s.setLever v (x.converted value) = t := by
      simp only [t, motion, x, r]
      cases bound : (s.lever v).binding with
      | none => simp [Lever.converted, bound]
      | some c => simp [Lever.converted, bound]
    rw [leverResult_eq running busy inRange, isT, nextConversion_eq]
    rfl

/-! ### Motions at their channel (R125, R126) -/

theorem Channel.takeJog_eq (x : Channel) (m : JogMotion) : x.takeJog m =
    if x.state = .jog then { x with jogAcc := holdAcc (x.jogAcc + m.detents * m.step) }
    else if x.state = .idle ∨ m.takeover = false then x
    else { x with state := .jog, current := 0, target := 0, jogAcc := holdAcc (m.detents * m.step),
                  source := x.source.withoutDelay } := by
  cases state : x.state <;> cases takeover : m.takeover <;> simp [Channel.takeJog, state, takeover]

theorem Channel.takeLever_eq (x : Channel) (m : LeverMotion) : x.takeLever m =
    if x.state = .shuttle then { x with target := if m.inBand then 0 else m.target }
    else if x.state = .idle ∨ m.takeover = false ∨ m.inBand = true then x
    else { x with state := .shuttle, target := m.target,
                  current := if x.state = .playing ∨ x.state = .live then x.current else 0, jogAcc := 0,
                  source := x.source.withoutDelay } := by
  cases state : x.state <;> cases takeover : m.takeover <;> cases inBand : m.inBand <;>
    simp [Channel.takeLever, Channel.keptSpeed, state, takeover, inBand]

/-- Settles O34. -/
theorem motionsReachTheirChannel : Obligations.MotionsReachTheirChannel := by
  unfold Obligations.MotionsReachTheirChannel
  intro s j running
  refine ⟨fun m rest waiting => ?_, fun m rest waiting => ?_⟩
  · have step : exec (.jogMotion j) s = .next ((s.setJog j { s.jog j with motions := rest }).setChannel m.channel
        ((s.channel m.channel).takeJog m)) := by
      simp only [exec, execJogMotion, State.whenRunning, running, State.deliverJog, waiting]
      rfl
    rw [step, Channel.takeJog_eq]
    rfl
  · have step : exec (.leverMotion j) s = .next ((s.setLever j { s.lever j with motions := rest }).setChannel m.channel
        ((s.channel m.channel).takeLever m)) := by
      simp only [exec, execLeverMotion, State.whenRunning, running, State.deliverLever, waiting]
      rfl
    rw [step, Channel.takeLever_eq]

end Sys2Proof.Machine

/-!
PROOFS. The playout channels (spec/06): ownership and flags, ranges and uses, cueing and going live, and the speeds in percent.
-/

namespace Sys2Proof.Machine

/-! ### Speeds in percent (R112) -/

/-- Settles O38. -/
theorem percentSpeedsAreRounded : Obligations.PercentSpeedsAreRounded := by
  unfold Obligations.PercentSpeedsAreRounded
  intro p v product r
  have isR : r = if 0 ≤ product then (2 * product + 1000) / 2000 else -((-(2 * product) + 1000) / 2000) := rfl
  have isInexact : percentInexact p v = true ↔ product % 1000 ≠ 0 := bne_iff_ne
  generalize product = m at isR isInexact ⊢
  refine ⟨?_, ?_, isInexact.trans ⟨fun left k whole => ?_, fun never whole => ?_⟩⟩
  · split at isR <;> omega
  · split at isR <;> omega
  · omega
  · exact never (m / 1000) (by omega)

/-! ### Ownership (R104, R105) -/

theorem owned_eq {s : State} {h : Header} {c : Fin 4} (owner : (s.channel c).owner = some h.station) (run : Fin 4 → Answer) :
    s.owned h c.val run = run c := by
  simp only [State.owned, fin?_val, owner, if_true]

/-- An owner's command of a channel, when it is taken. -/
theorem exec_of_owned {s : State} {i : Instr} {k : Kind} {h : Header} {c : Fin 4} {run : Fin 4 → Answer}
    (command : commandOf i = some (k, h)) (ready : s.Ready h k) (owner : (s.channel c).owner = some h.station)
    (request : requestOf i (s.effective h) s = s.owned h c.val run) :
    exec i s = .next ((run c).state.answers h k (run c).status (run c).body) := by
  rw [exec_of_ready command ready, request, owned_eq owner]

/-! ### Flags (R127, R128) -/

theorem Flag.bit_eq (f : Flag) : f.bit = BitVec.twoPow 8 f.code := by
  cases f <;> rfl

theorem and_bit_ne_zero (m : BitVec 8) (f : Flag) : (m &&& f.bit != 0) = m.getLsbD f.code := by
  rw [f.bit_eq, BitVec.and_twoPow]
  cases m.getLsbD f.code with
  | true => cases f <;> rfl
  | false => rfl

/-- A channel's flag is set in its record (R127). -/
def State.flagged (s : State) (c : Fin 4) (f : Flag) : State :=
  { s with channels := s.channels.set c { s.channel c with flags := (s.channel c).flags ||| (1 <<< f.code) } }

section
variable {s : State} {c : Fin 4} {f : Flag}

theorem setFlag_of_set (isSet : (s.channel c).flags.getLsbD f.code = true) : s.setFlag c f = s := by
  simp only [State.setFlag, Channel.hasFlag, and_bit_ne_zero, if_pos isSet]

theorem setFlag_of_clear (isClear : (s.channel c).flags.getLsbD f.code = false) : s.setFlag c f =
    if (s.channel c).enables.getLsbD f.code = true then (s.flagged c f).post .channel 0 c.val ((s.channel c).flagData s.fresh f)
    else s.flagged c f := by
  have shift : f.bit = 1 <<< f.code := by cases f <;> rfl
  simp only [State.setFlag, Channel.hasFlag, and_bit_ne_zero, isClear, Bool.false_eq_true, if_false, State.flagged, ← shift]

end

theorem Channel.flagData_onAir {x : Channel} {r : FrameRef} (z : Nat) (f : Flag) (onAir : x.onAir = some r) :
    x.flagData z f = leBytes 1 f.code ++ leBytes 1 x.state.code ++ lfnBytes r.lfn ++ [1] := by
  simp only [Channel.flagData, onAir]
  rfl

theorem Channel.flagData_offAir {x : Channel} (z : Nat) (f : Flag) (offAir : x.onAir = none) :
    x.flagData z f = leBytes 1 f.code ++ leBytes 1 x.state.code ++ absentBytes z 0 4 ++ [0] := by
  simp only [Channel.flagData, offAir]
  rfl

/-- Settles O35. -/
theorem channelsAreTakenReleasedAndFlagged : Obligations.ChannelsAreTakenReleasedAndFlagged := by
  unfold Obligations.ChannelsAreTakenReleasedAndFlagged
  refine ⟨fun s h c => ?_, fun s h c mask f => ?_⟩
  · intro x level reply
    refine ⟨fun ready => ?_, fun ready owner => exec_of_owned (i := .channelRelease h c.val) rfl ready owner rfl⟩
    have taken : exec (.channelTake h c.val) s = .next ((s.takeChannel c h.station level).state.answers h .channelTake
        (s.takeChannel c h.station level).status (s.takeChannel c h.station level).body) := by
      rw [exec_of_ready rfl ready]
      simp only [requestOf, fin?_val]
      rfl
    refine ⟨fun mine => ?_, fun o owner other top => ?_, fun o owner other low => ?_⟩
    · have take : s.takeChannel c h.station level = (s.setChannel c { x with owner := some h.station, level }).takeReply c := by
        rcases mine with free | own
        · simp only [State.takeChannel, show (s.channel c).owner = none from free, x]
        · simp only [State.takeChannel, show (s.channel c).owner = some h.station from own, if_true, x]
      rw [taken, take]
      simp only [State.takeReply, State.accept, channel_setChannel_same]
      rfl
    · have take : s.takeChannel c h.station level =
          ((s.setChannel c { x with owner := some h.station, level := 0 }).post .channel 1 c.val
            (leBytes 1 o.val ++ leBytes 1 h.station.val)).takeReply c := by
        simp only [State.takeChannel, show (s.channel c).owner = some o from owner, if_neg other, if_pos top, x]
      rw [taken, take]
      simp only [State.takeReply, State.accept, State.channel_congr (State.post_channels _ _ _ _ _), channel_setChannel_same]
      rfl
    · have take : s.takeChannel c h.station level = s.refuse .channelHeld := by
        simp only [State.takeChannel, show (s.channel c).owner = some o from owner, if_neg other, if_neg (Nat.ne_of_gt low)]
      rw [taken, take]
      rfl
  · intro x set
    refine ⟨setFlag_of_set, fun clear off => ?_, fun r clear on onAir => ?_, fun clear on offAir => ?_, fun ready owner => ?_,
      fun ready owner => ?_⟩
    · rw [setFlag_of_clear clear, if_neg (by exact Bool.eq_false_iff.mp off)]
      rfl
    · rw [setFlag_of_clear clear, if_pos (by exact on), Channel.flagData_onAir _ _ onAir]
      rfl
    · refine ⟨absentBytes s.fresh 0 4, by simp [absentBytes], ?_⟩
      rw [setFlag_of_clear clear, if_pos (by exact on), Channel.flagData_offAir _ _ offAir]
      rfl
    · rw [exec_of_owned rfl ready owner rfl]
      simp only [State.flagsReply, State.accept, channel_setChannel_same]
      rfl
    · rw [exec_of_owned rfl ready owner rfl]
      simp only [State.flagsReply, State.accept, channel_setChannel_same]
      rfl

/-! ### Ranges and uses (R66, R106, R107, R136) -/

theorem closeRange_some (lo hi : Nat) : closeRange (lo, some hi) = (lo, max lo hi) := rfl

section
variable {s : State} {x : Channel}

theorem channelRange_of_running {n : Nat} {r : Running} (source : x.source = .clip n) (running : x.running = some r) :
    s.channelRange x = ((s.clip n).inLfn + r.startOffset,
      max ((s.clip n).inLfn + r.startOffset) ((s.clip n).inLfn + r.endOffset)) := by
  simp only [State.channelRange, running, source]
  rfl

theorem channelRange_of_idle (running : x.running = none) : s.channelRange x = closeRange (s.sourceRange x.source) := by
  simp only [State.channelRange, running]

theorem sourceRange_of_ended {n o : Nat} (ended : (s.clip n).state = .closed ∨ (s.clip n).state = .absent)
    (out : (s.clip n).out = some o) : s.sourceRange (.clip n) = ((s.clip n).inLfn, some o) := by
  rcases ended with state | state <;> simp only [State.sourceRange, state, out]

theorem sourceRange_of_open {n : Nat}
    (isOpen : (s.clip n).state = .opened ∨ (s.clip n).state = .absent ∧ (s.clip n).out = none) :
    s.sourceRange (.clip n) = ((s.clip n).inLfn, (s.lane (s.clip n).lane).newestGood.map fun g => match (s.clip n).planned with
      | none => g
      | some q => min g q) := by
  rcases isOpen with state | ⟨state, out⟩
  · simp only [State.sourceRange, state] <;> rfl
  · simp only [State.sourceRange, state, out] <;> rfl

theorem Lane.floor_eq (x : Lane) : x.floor = x.entries.head?.map Entry.lfn := rfl

end

/-- A role is left, and then entered: both halves of a move (R107). -/
theorem moveRole_split (s : State) (old new : Source) : s.moveRole old new = (s.moveRole .none new).moveRole old .none := by
  cases old <;> cases new <;> rfl

theorem clip_moveRole_in (s : State) {new : Source} (used : ∀ n, new = .clip n → (s.clip n).state ≠ .free) (m : Nat) :
    (s.moveRole .none new).clip m =
      { s.clip m with useCount := (s.clip m).useCount + (if new = .clip m then 1 else 0) } := by
  cases new with
  | clip n =>
    have keeps : (s.moveRole .none (.clip n)).clip m = _ := clip_modifyClip s n m _ id
    by_cases same : n = m
    · subst same
      rw [keeps, if_pos ⟨rfl, used n rfl⟩]
      simp
    · rw [keeps, if_neg fun h => same h.1]
      simp [same]
  | none => rfl
  | lane => rfl
  | live => rfl

theorem clip_moveRole_out (s : State) {old : Source} (used : ∀ n, old = .clip n → (s.clip n).state ≠ .free) (m : Nat) :
    (s.moveRole old .none).clip m =
      { s.clip m with useCount := (s.clip m).useCount - (if old = .clip m then 1 else 0) } := by
  cases old with
  | clip n =>
    have keeps : (s.moveRole (.clip n) .none).clip m = _ := clip_modifyClip s n m _ id
    by_cases same : n = m
    · subst same
      rw [keeps, if_pos ⟨rfl, used n rfl⟩]
      simp
    · rw [keeps, if_neg fun h => same h.1]
      simp [same]
  | none => rfl
  | lane => rfl
  | live => rfl

theorem clip_moveRole (s : State) {old new : Source} (leaves : ∀ n, old = .clip n → (s.clip n).state ≠ .free)
    (enters : ∀ n, new = .clip n → (s.clip n).state ≠ .free) (m : Nat) : (s.moveRole old new).clip m = { s.clip m with
      useCount := (s.clip m).useCount + (if new = .clip m then 1 else 0) - (if old = .clip m then 1 else 0) } := by
  rw [moveRole_split, clip_moveRole_out _ fun n h => ?_, clip_moveRole_in s enters]
  rw [clip_moveRole_in s enters]
  exact leaves n h

theorem moveRole_withClips (s : State) (old new : Source) : { s.moveRole old new with clips := s.clips } = s := by
  have enter (s : State) : { s.moveRole .none new with clips := s.clips } = s := by
    cases new with
    | clip n => exact modifyClip_withClips s n _
    | none => rfl
    | lane => rfl
    | live => rfl
  have leave (s : State) : { s.moveRole old .none with clips := s.clips } = s := by
    cases old with
    | clip n => exact modifyClip_withClips s n _
    | none => rfl
    | lane => rfl
    | live => rfl
  rw [moveRole_split]
  exact (congrArg (fun t : State => { t with clips := s.clips }) (leave (s.moveRole .none new))).trans (enter s)

/-- Settles O36. -/
theorem rangesAndUsesFollowTheSource : Obligations.RangesAndUsesFollowTheSource := by
  unfold Obligations.RangesAndUsesFollowTheSource
  refine ⟨fun s x => ?_, fun s old new _ leaves enters =>
    ⟨clip_moveRole s (fun n h => (leaves n h).1) enters, moveRole_withClips s old new⟩⟩
  intro point
  refine ⟨fun n r => channelRange_of_running, fun n o source running ended out => ?_, fun n source running isOpen => ?_,
    fun l source running => ?_⟩
  · rw [channelRange_of_idle running, source, sourceRange_of_ended ended out, closeRange_some]
  · rw [channelRange_of_idle running, source, sourceRange_of_open isOpen]
    cases (s.lane (s.clip n).lane).newestGood with
    | none => simp [closeRange]
    | some g => cases (s.clip n).planned <;> rfl
  · rw [channelRange_of_idle running]
    rcases source with source | ⟨d, source⟩ <;> rw [source] <;> rfl

/-! ### Cueing and going live (R108 to R110) -/

/-- A channel parked on a source at an LFN (R108, R109). -/
def Channel.parked (x : Channel) (src : Source) (lfn : Nat) : Channel :=
  { x with state := .cued, source := src, position := lfn * 256, current := 0, target := 0, jogAcc := 0, running := none,
           hold := false, request := none }

theorem cueAt_eq (s : State) (c : Fin 4) (src : Source) (lfn : Nat) :
    s.cueAt c src lfn = (s.moveRole (s.channel c).source src).setChannel c ((s.channel c).parked src lfn) := rfl

theorem positionBytes_whole (lfn : Nat) : positionBytes (lfn * 256) = [0] ++ lfnBytes lfn := by
  have fraction : BitVec.ofNat 8 (lfn * 256) = 0 := BitVec.eq_of_toNat_eq (by simp)
  rw [positionBytes, leBytes_one, fraction, Nat.mul_div_cancel _ (by decide)]

theorem positionReply_cueAt (s : State) (c : Fin 4) (src : Source) (lfn : Nat) :
    (s.cueAt c src lfn).positionReply c =
      ((s.moveRole (s.channel c).source src).setChannel c ((s.channel c).parked src lfn)).accept ([0] ++ lfnBytes lfn) := by
  rw [State.positionReply, cueAt_eq, channel_setChannel_same, Channel.parked, positionBytes_whole]

section
variable {s : State} {n offset level : Nat}

/-- The checks of a clip that can be cued leave the offset (R108). -/
theorem cueClipAt_usable (usable : (s.clip n).state = .opened ∨ (s.clip n).state = .closed) (rights : level ≤ (s.clip n).vl) :
    s.cueClipAt n offset level =
      if offset > (closeRange (s.sourceRange (.clip n))).2 - (closeRange (s.sourceRange (.clip n))).1 then .error .range
      else .ok ((closeRange (s.sourceRange (.clip n))).1 + offset) := by
  have notFree : (s.clip n).state ≠ .free := by rcases usable with h | h <;> simp [h]
  have present : (s.clip n).state ≠ .absent := by rcases usable with h | h <;> simp [h]
  simp only [State.cueClipAt, if_neg notFree, if_neg (Nat.not_lt.mpr rights), if_neg present]

end

theorem clipNumber_of {n : Nat} (low : 1 ≤ n) (high : n ≤ 1023) : clipNumber n = true := by
  simp [clipNumber, low, high]

theorem laneTake_floor (x : Lane) (g delay : Nat) :
    x.liveLfn g delay = max ((x.entries.head?.map Entry.lfn).getD 0) (g - delay) := rfl

/-- Settles O37. -/
theorem cuesParkAndLiveFollows : Obligations.CuesParkAndLiveFollows := by
  unfold Obligations.CuesParkAndLiveFollows
  intro s h c owner x parked
  refine ⟨fun n offset ready low high isLfn usable rights => ?_, fun l newest lfn g ready flag isLfn good => ?_,
    fun l delay g ready delayed good => ?_⟩
  · have inRange : clipNumber n ∧ offset ≤ maxLfn := ⟨clipNumber_of low high, isLfn⟩
    have asked : requestOf (.cueClip h c.val n offset) (s.effective h) s = s.owned h c.val fun c => s.cueClipRequest c n offset :=
      if_pos inRange
    have step : exec (.cueClip h c.val n offset) s = .next ((s.cueClipRequest c n offset).state.answers h .cueClip
        (s.cueClipRequest c n offset).status (s.cueClipRequest c n offset).body) :=
      exec_of_owned rfl ready owner asked
    refine ⟨fun inside => ?_, fun outside => ?_⟩
    · have checks : s.cueClipAt n offset (s.channel c).level = .ok ((closeRange (s.sourceRange (.clip n))).1 + offset) :=
        (cueClipAt_usable usable rights).trans (if_neg (Nat.not_lt.mpr inside))
      rw [step]
      simp only [State.cueClipRequest, checks, positionReply_cueAt]
      rfl
    · have checks : s.cueClipAt n offset (s.channel c).level = .error .range :=
        (cueClipAt_usable usable rights).trans (if_pos outside)
      rw [step]
      simp only [State.cueClipRequest, checks]
      rfl
  · have asked : requestOf (.cueLane h c.val l.val newest lfn) (s.effective h) s =
        s.owned h c.val fun c => s.cueLaneRequest c l (newest == 1) lfn := by
      simp only [requestOf, fin?_val, flag?_of_le_one flag]
      exact if_pos isLfn
    refine ⟨fun isNewest => ?_, fun isOlder low high => ?_⟩
    · have request : s.cueLaneRequest c l (newest == 1) lfn = (s.cueAt c (.lane l) g).positionReply c := by
        simp [State.cueLaneRequest, good, isNewest]
      rw [exec_of_owned rfl ready owner asked, request, positionReply_cueAt]
      rfl
    · have request : s.cueLaneRequest c l (newest == 1) lfn = (s.cueAt c (.lane l) lfn).positionReply c := by
        have inside : (s.lane l).floor.getD 0 ≤ lfn ∧ lfn ≤ g := ⟨low, high⟩
        simp [State.cueLaneRequest, good, isOlder, inside]
      rw [exec_of_owned rfl ready owner asked, request, positionReply_cueAt]
      rfl
  · have asked : requestOf (.live h c.val l.val delay) (s.effective h) s = s.owned h c.val fun c => s.liveRequest c l delay := by
      simp only [requestOf, fin?_val]
      exact if_pos delayed
    have request : s.liveRequest c l delay = (s.goLive c l delay g).positionReply c := by
      simp only [State.liveRequest, good]
    rw [exec_of_owned rfl ready owner asked, request]
    simp only [State.positionReply, State.goLive, channel_setChannel_same, positionBytes_whole]
    rfl

end Sys2Proof.Machine

/-!
PROOFS. Steering a channel (spec/06): PLAY, PAUSE, SPEED, STEP and CONTINUE, and SYNC PLAY.
-/

namespace Sys2Proof.Machine

/-! ### Channel records (R127, R186) -/

theorem setFlag_channels (s : State) (c : Fin 4) (f : Flag) :
    (s.setFlag c f).channels = s.channels.set c { s.channel c with flags := (s.channel c).flags ||| f.bit } := by
  have isBit : f.bit = 1 <<< f.code := by cases f <;> rfl
  cases flag : (s.channel c).flags.getLsbD f.code with
  | false =>
    rw [setFlag_of_clear flag, isBit]
    split
    · exact State.post_channels _ _ _ _ _
    · rfl
  | true =>
    have already : (s.channel c).flags ||| f.bit = (s.channel c).flags := by
      rw [f.bit_eq]
      ext i hi
      simp only [BitVec.getElem_or, BitVec.getElem_twoPow, Bool.or_eq_left_iff_imp, decide_eq_true_eq]
      rintro rfl
      rwa [BitVec.getLsbD_eq_getElem hi] at flag
    rw [setFlag_of_set flag, already]
    exact (Vector.set_getElem_self _).symm

theorem channel_setFlag (s : State) (c d : Fin 4) (f : Flag) : (s.setFlag c f).channel d =
    if c = d then { s.channel c with flags := (s.channel c).flags ||| f.bit } else s.channel d := by
  unfold State.channel
  simp only [setFlag_channels]
  by_cases same : c = d
  · subst same
    simp [State.channel]
  · have : c.val ≠ d.val := fun e => same (Fin.ext e)
    simp [same, this]

@[simp] theorem channel_setFlag_same (s : State) (c : Fin 4) (f : Flag) :
    (s.setFlag c f).channel c = { s.channel c with flags := (s.channel c).flags ||| f.bit } := by
  rw [channel_setFlag, if_pos rfl]

theorem rateMultiple_congr {s t : State} (lanes : t.lanes = s.lanes) (clips : t.clips = s.clips) {x y : Channel}
    (source : y.source = x.source) : t.rateMultiple y = s.rateMultiple x := by
  simp only [State.rateMultiple, State.sourceLane, source, State.clip_congr clips, State.lane_congr lanes]

theorem segmentSpeed_congr {s t : State} (banks : t.banks = s.banks) {x y : Channel} (running : y.running = x.running) :
    t.segmentSpeed y = s.segmentSpeed x := by
  simp only [State.segmentSpeed, running, State.segment, banks]

theorem channelRange_congr {s t : State} (lanes : t.lanes = s.lanes) (clips : t.clips = s.clips) {x y : Channel}
    (source : y.source = x.source) (running : y.running = x.running) : t.channelRange y = s.channelRange x := by
  simp only [State.channelRange, State.sourceRange, State.segmentBase, source, running, State.clip_congr clips, State.lane_congr lanes]

/-! ### Speeds and positions (R111, R112, R115, R120) -/

/-- A speed field of kind 0 or 1 in its range, or of kind 2 (R111). -/
def speedInRange (kind : Nat) (value : Int) : Prop :=
  (kind = 0 ∧ -8192 ≤ value ∧ value ≤ 8192) ∨ (kind = 1 ∧ -3200 ≤ value ∧ value ≤ 3200)

theorem speedField?_eq {kind : Nat} {value : Int} (h : speedInRange kind value ∨ kind = 2) :
    ∃ f, speedField? kind value = some f ∧ (f = .segment ↔ kind = 2) ∧ ∀ (s : State) (x : Channel), s.speedOf x f =
      (if kind = 0 then value else if kind = 1 then percentSpeed (s.rateMultiple x) value else s.segmentSpeed x,
        decide (kind = 1 ∧ percentInexact (s.rateMultiple x) value = true)) := by
  rcases h with (⟨rfl, inRange⟩ | ⟨rfl, inRange⟩) | rfl
  · exact ⟨.exact value, if_pos inRange, by simp, fun s x => by simp [State.speedOf]⟩
  · exact ⟨.percent value, if_pos inRange, by simp, fun s x => by simp [State.speedOf]⟩
  · exact ⟨.segment, rfl, by simp, fun s x => by simp [State.speedOf]⟩

theorem plainSpeed?_eq {kind : Nat} {value : Int} (h : speedInRange kind value) :
    plainSpeed? kind value = speedField? kind value := if_pos (by unfold speedInRange at h; omega)

theorem rampStep?_eq {ramp : Nat} (low : 1 ≤ ramp) (high : ramp ≤ 8192) : rampStep? ramp = some ramp := if_pos ⟨low, high⟩

theorem roundMode?_eq {round : Nat} (h : round ≤ 1) : roundMode? round = some (if round = 0 then .floor else .nearest) := by
  rcases Nat.le_one_iff_eq_zero_or_eq_one.mp h with rfl | rfl <;> rfl

theorem Channel.keptSpeed_eq (x : Channel) :
    x.keptSpeed = if x.state = .playing ∨ x.state = .shuttle ∨ x.state = .live then x.current else 0 := by
  cases state : x.state <;> simp [Channel.keptSpeed, state]

/-- A channel that plays toward a speed (R111, R146). -/
def Channel.plays (y : Channel) (target : Int) (ramp : Nat) (round : RoundMode) : Channel :=
  { y with
    state := .playing, target, ramp, round, jogAcc := 0, source := y.source.withoutDelay,
    current := if y.state = .playing ∨ y.state = .shuttle ∨ y.state = .live then y.current else 0,
    request := if y.hold then some .release else y.request, hold := false }

theorem playChannel_eq (s : State) (c : Fin 4) (speed : Int) (ramp : Nat) (round : RoundMode) :
    s.playChannel c speed ramp round = s.setChannel c ((s.channel c).plays speed ramp round) := by
  simp only [State.playChannel, Channel.keptSpeed_eq]
  rfl

/-- A position is the raw one held to the range, which moves it exactly when it differs (R120). -/
theorem holdTo_eq (lo hi : Nat) (raw : Int) : holdTo lo hi raw =
    ((max (lo * 256 : Int) (min raw (max (lo * 256) (hi * 256)))).toNat,
      decide (((max (lo * 256 : Int) (min raw (max (lo * 256) (hi * 256)))).toNat : Int) ≠ raw)) := by
  simp only [holdTo]
  split
  · refine Prod.ext ?_ ?_
    · show lo * 256 = _
      omega
    · refine (decide_eq_true ?_).symm
      omega
  · split
    · refine Prod.ext ?_ ?_
      · show max lo hi * 256 = _
        omega
      · refine (decide_eq_true ?_).symm
        omega
    · refine Prod.ext ?_ ?_
      · show raw.toNat = _
        omega
      · refine (decide_eq_false ?_).symm
        omega

/-! ### The owner's commands (R111 to R116, R146) -/

section
variable {s : State} {h : Header} {c : Fin 4}

/-- The state after a conversion, with QUANT set when it is not exact (R112; log 23). -/
def State.quantised (s : State) (c : Fin 4) (kind : Nat) (value : Int) : State :=
  if kind = 1 ∧ percentInexact (s.rateMultiple (s.channel c)) value = true then s.setFlag c .quant else s

theorem noteQuant_eq (s : State) (c : Fin 4) (kind : Nat) (value : Int) :
    s.noteQuant c (decide (kind = 1 ∧ percentInexact (s.rateMultiple (s.channel c)) value = true)) = s.quantised c kind value := by
  simp only [State.noteQuant, State.quantised, decide_eq_true_eq]

end

/-- Settles O39. -/
theorem ownersSteerTheirChannel : Obligations.OwnersSteerTheirChannel := by
  unfold Obligations.OwnersSteerTheirChannel
  refine ⟨fun s h c kind ramp round value owner => ?_, fun s x => ⟨fun l source => ?_, fun l d source => ?_, fun n source => ?_,
    fun r running => ?_⟩⟩
  · intro x p target inRange quantised y playing
    refine ⟨fun ready busy isSpeed low high isRound => ?_, fun ready moves => ?_, fun ready plays isSpeed low high => ?_,
      fun count ready steps low high => ?_, fun ready busy => ?_⟩
    · obtain ⟨f, isField, isSegment, speeds⟩ := speedField?_eq (isSpeed.imp_right And.left)
      have fields : playFields? { speedKind := kind, speed := value, ramp, round } =
          some (f, ramp, if round = 0 then .floor else .nearest) := by
        simp only [playFields?, isField, rampStep?_eq low high, roundMode?_eq isRound, Option.bind_eq_bind, Option.bind_some]
      have asked : requestOf (.play h c.val { speedKind := kind, speed := value, ramp, round }) (s.effective h) s =
          s.owned h c.val fun c => s.playRequest c f ramp (if round = 0 then .floor else .nearest) := by
        simp only [requestOf, fields]
      have runs : ¬(f = .segment ∧ (s.channel c).running = none) := by
        rintro ⟨isS, none⟩
        rcases isSpeed with plain | ⟨-, active⟩
        · have := isSegment.mp isS
          rcases plain with ⟨isK, -⟩ | ⟨isK, -⟩ <;> omega
        · exact active none
      have request : s.playRequest c f ramp (if round = 0 then .floor else .nearest) =
          (s.playAt c f ramp (if round = 0 then .floor else .nearest)).targetReply c := by
        simp only [State.playRequest, if_neg (show ¬(s.channel c).state = .idle from busy), if_neg runs]
      have played : s.playAt c f ramp (if round = 0 then .floor else .nearest) =
          quantised.setChannel c (y.plays target ramp (if round = 0 then .floor else .nearest)) := by
        simp only [State.playAt, speeds, noteQuant_eq, playChannel_eq]
        rfl
      rw [exec_of_owned rfl ready owner asked, request, played]
      simp only [State.targetReply, channel_setChannel_same]
      rfl
    · have request : s.pauseRequest c = (s.setChannel c { x with state := .paused, current := 0, target := 0, jogAcc := 0,
                                                                  source := x.source.withoutDelay }).positionReply c := by
        simp only [State.pauseRequest]
        exact if_pos moves
      rw [exec_of_owned rfl ready owner rfl, request]
      simp only [State.positionReply, channel_setChannel_same]
      rfl
    · obtain ⟨f, isField, -, speeds⟩ := speedField?_eq (.inl isSpeed)
      have asked : requestOf (.speed h c.val kind value ramp) (s.effective h) s =
          s.owned h c.val fun c => s.speedRequest c f ramp := by
        simp only [requestOf, plainSpeed?_eq isSpeed, isField, rampStep?_eq low high]
      have request : s.speedRequest c f ramp = (quantised.setChannel c { y with target, ramp }).targetReply c := by
        simp only [State.speedRequest, if_pos (show (s.channel c).state = .playing from plays), speeds, noteQuant_eq]
        rfl
      rw [exec_of_owned rfl ready owner asked, request]
      simp only [State.targetReply, channel_setChannel_same]
      rfl
    · intro lo hi moved position stepped
      have asked : requestOf (.stepFrames h c.val count) (s.effective h) s = s.owned h c.val fun c => s.stepRequest c count :=
        if_pos ⟨low, high⟩
      have request : s.stepRequest c count =
          State.positionReply (if (position : Int) = moved then stepped else stepped.setFlag c .clamp) c := by
        have held : holdTo (s.channelRange (s.channel c)).1 (s.channelRange (s.channel c)).2
            ((s.channel c).position + count * 256) = (position, decide ((position : Int) ≠ moved)) := holdTo_eq _ _ _
        simp only [State.stepRequest, held, decide_eq_true_eq, ite_not]
        exact if_pos steps
      have reply : ∀ t : State, t = stepped ∨ t = stepped.setFlag c .clamp →
          t.positionReply c = t.accept (positionBytes position) := by
        rintro t (rfl | rfl)
        · simp only [State.positionReply, stepped, channel_setChannel_same]
        · simp only [State.positionReply, stepped, channel_setFlag_same, channel_setChannel_same]
      rw [exec_of_owned rfl ready owner asked, request, reply _ (by split <;> simp)]
      rfl
    · have request : s.continueRequest c = State.accept
          (if x.hold then s.setChannel c { x with request := some .release, hold := false }
           else if x.state = .playing then s
           else s.setChannel c (playing x (if x.running = none then p * 256 else s.segmentSpeed x) 8192 x.round)) [] := by
        have speed : (if x.running.isSome then s.segmentSpeed x else (s.rateMultiple x : Int) * 256) =
            if x.running = none then (p : Int) * 256 else s.segmentSpeed x := by
          cases x.running <;> rfl
        simp only [State.continueRequest, if_neg (show ¬(s.channel c).state = .idle from busy), playChannel_eq]
        show (if x.hold then _ else _) = _
        split
        · rfl
        · show (if x.state = .playing then _ else _) = _
          split
          · rfl
          · rw [← speed]
            rfl
      rw [exec_of_owned rfl ready owner rfl, request]
      rfl
  · simp only [State.rateMultiple, State.sourceLane, source]
  · simp only [State.rateMultiple, State.sourceLane, source]
  · simp only [State.rateMultiple, State.sourceLane, source]
  · simp only [State.segmentSpeed, running]

end Sys2Proof.Machine

/-!
PROOFS. SYNC PLAY over the channels that a mask names, and SNAP, RESUME and SAVE DISCARD (spec/06, R117, R129 to R132).
-/

namespace Sys2Proof.Machine

/-! ### What steering a channel leaves alone -/

theorem cueFollows_withCues (s : State) (c : Fin 4) (p : Bool) (k : Fin 8) : { s.cueFollows c p k with cues := s.cues } = s := by
  simp only [State.cueFollows]
  split <;> rfl

theorem foldl_cueFollows_withCues (s : State) (c : Fin 4) (p : Bool) (ks : List (Fin 8)) :
    { ks.foldl (fun t k => t.cueFollows c p k) s with cues := s.cues } = s := by
  induction ks generalizing s with
  | nil => rfl
  | cons k ks ih =>
    rw [List.foldl_cons]
    exact (congrArg (fun u : State => { u with cues := s.cues }) (ih (s.cueFollows c p k))).trans (cueFollows_withCues s c p k)

theorem setChannel_eq (s : State) (c : Fin 4) (x : Channel) : s.setChannel c x =
    if (s.channel c).state.isPlaying = x.state.isPlaying then { s with channels := s.channels.set c x }
    else allCues.foldl (fun t k => t.cueFollows c x.state.isPlaying k) { s with channels := s.channels.set c x } := rfl

theorem setChannel_withChannels (s : State) (c : Fin 4) (x : Channel) :
    { s.setChannel c x with channels := s.channels, cues := s.cues } = s := by
  by_cases same : (s.channel c).state.isPlaying = x.state.isPlaying
  · rw [setChannel_eq, if_pos same]
  · rw [setChannel_eq, if_neg same]
    have follows := foldl_cueFollows_withCues { s with channels := s.channels.set c x } c x.state.isPlaying allCues
    generalize allCues.foldl (fun t k => t.cueFollows c x.state.isPlaying k) { s with channels := s.channels.set c x } = u at follows ⊢
    exact congrArg (fun v : State => { v with channels := s.channels }) follows

/-- Nothing but channels, cue lines and posted notices differs. -/
structure State.Steered (s t : State) : Prop where
  rest  : { t with channels := s.channels, cues := s.cues, link := s.link, fresh := s.fresh } = s
  posts : s.link.OnlyPosts t.link

namespace State.Steered
variable {s t u : State}

theorem refl (s : State) : s.Steered s := ⟨rfl, .refl _⟩

theorem trans (h : s.Steered t) (g : t.Steered u) : s.Steered u :=
  ⟨(congrArg (fun v : State => { v with channels := s.channels, cues := s.cues, link := s.link, fresh := s.fresh }) g.rest).trans
    h.rest, h.posts.trans g.posts⟩

theorem lanes (h : s.Steered t) : t.lanes = s.lanes := by
  have := congrArg State.lanes h.rest
  exact this
theorem clips (h : s.Steered t) : t.clips = s.clips := by
  have := congrArg State.clips h.rest
  exact this

theorem setChannel (s : State) (c : Fin 4) (x : Channel) : s.Steered (s.setChannel c x) := by
  refine ⟨?_, ?_⟩
  · exact congrArg (fun v : State => { v with link := s.link, fresh := s.fresh }) (setChannel_withChannels s c x)
  · rw [State.setChannel_link]
    exact .refl _

theorem post (s : State) (k : NoticeClass) (code subject : Nat) (data : List Byte) : s.Steered (s.post k code subject data) := by
  refine ⟨?_, State.post_onlyPosts s k code subject data⟩
  rw [State.post_eq]

theorem setFlag (s : State) (c : Fin 4) (f : Flag) : s.Steered (s.setFlag c f) := by
  cases flag : (s.channel c).flags.getLsbD f.code with
  | true =>
    rw [setFlag_of_set flag]
    exact refl s
  | false =>
    rw [setFlag_of_clear flag]
    have record : s.Steered (s.flagged c f) := ⟨rfl, .refl _⟩
    split
    · exact record.trans (post _ _ _ _ _)
    · exact record

end State.Steered

/-! ### SYNC PLAY (R117, R132) -/

section
variable (s : State) (h : Header) (mask : BitVec 8) (p : PlayFields)

/-- SYNC PLAY acts on a channel: it is named, the sender owns it, and it is CUED. -/
abbrev State.syncActs (c : Fin 4) : Prop :=
  mask.getLsbD c.val = true ∧ (s.channel c).owner = some h.station ∧ (s.channel c).state = .cued

/-- The speed field cannot be held exactly on a channel (R112). -/
abbrev State.syncInexact (c : Fin 4) : Prop := p.speedKind = 1 ∧ percentInexact (s.rateMultiple (s.channel c)) p.speed = true

/-- The record `y` of a channel that SYNC PLAY rolls. -/
def State.syncPlayed (y : Channel) (c : Fin 4) : Channel :=
  { y with
    state := .playing, target := if p.speedKind = 0 then p.speed else percentSpeed (s.rateMultiple (s.channel c)) p.speed,
    ramp := p.ramp, round := if p.round = 0 then .floor else .nearest, current := 0, jogAcc := 0,
    source := (s.channel c).source.withoutDelay,
    request := if (s.channel c).hold then some .release else (s.channel c).request, hold := false }

/-- SYNC PLAY on one channel, told by the state `s` that the command found. -/
def State.syncStep (t : State) (c : Fin 4) : State :=
  if mask.getLsbD c.val = false then t
  else if (s.channel c).owner ≠ some h.station then t.post .sync 0 c.val [0x16, BitVec.ofNat 8 h.station.val]
  else if (s.channel c).state ≠ .cued then t.post .sync 0 c.val [0x19, BitVec.ofNat 8 h.station.val]
  else
    let u := if s.syncInexact p c then t.setFlag c .quant else t
    u.setChannel c (s.syncPlayed p (u.channel c) c)

end

section
variable {s t : State} {h : Header} {mask : BitVec 8} {p : PlayFields}

theorem syncStep_of_acts {c : Fin 4} (acts : s.syncActs h mask c) : s.syncStep h mask p t c =
    (if s.syncInexact p c then t.setFlag c .quant else t).setChannel c
      (s.syncPlayed p ((if s.syncInexact p c then t.setFlag c .quant else t).channel c) c) := by
  obtain ⟨named, owner, cued⟩ := acts
  simp only [State.syncStep, if_neg (Bool.eq_false_iff.not.mpr (not_not.mpr named)), if_neg (not_not.mpr owner),
    if_neg (not_not.mpr cued)]

/-- A channel not acted on is left alone, but for a notice. -/
theorem syncStep_of_not_acts {c : Fin 4} (passed : ¬s.syncActs h mask c) :
    s.syncStep h mask p t c = t ∨ ∃ data, s.syncStep h mask p t c = t.post .sync 0 c.val data := by
  unfold State.syncStep
  split
  · exact .inl rfl
  · split
    · exact .inr ⟨_, rfl⟩
    · split
      · exact .inr ⟨_, rfl⟩
      · exact absurd ⟨Bool.not_eq_false _ ▸ ‹_›, not_not.mp ‹_›, not_not.mp ‹_›⟩ passed

theorem syncStep_steered (c : Fin 4) : t.Steered (s.syncStep h mask p t c) := by
  by_cases acts : s.syncActs h mask c
  · rw [syncStep_of_acts acts]
    refine .trans ?_ (.setChannel _ c _)
    split
    · exact .setFlag t c .quant
    · exact .refl t
  · rcases syncStep_of_not_acts (p := p) (t := t) acts with same | ⟨data, post⟩
    · rw [same]
      exact .refl t
    · rw [post]
      exact .post _ _ _ _ _

/-- The record that SYNC PLAY leaves a channel with. -/
def State.synced (s : State) (h : Header) (mask : BitVec 8) (p : PlayFields) (c : Fin 4) : Channel :=
  if s.syncActs h mask c then s.syncPlayed p { s.channel c with
    flags := if s.syncInexact p c then (s.channel c).flags ||| 8 else (s.channel c).flags } c
  else s.channel c

theorem channel_syncStep_ne {c d : Fin 4} (other : c ≠ d) : (s.syncStep h mask p t c).channel d = t.channel d := by
  by_cases acts : s.syncActs h mask c
  · rw [syncStep_of_acts acts, channel_setChannel, if_neg other]
    split
    · rw [channel_setFlag, if_neg other]
    · rfl
  · rcases syncStep_of_not_acts (p := p) (t := t) acts with same | ⟨data, post⟩
    · rw [same]
    · rw [post, State.channel_congr (State.post_channels _ _ _ _ _)]

theorem channel_syncStep_same {c : Fin 4} (same : t.channel c = s.channel c) :
    (s.syncStep h mask p t c).channel c = s.synced h mask p c := by
  by_cases acts : s.syncActs h mask c
  · rw [syncStep_of_acts acts, channel_setChannel_same, State.synced, if_pos acts]
    split
    · rw [channel_setFlag_same, same]
      rfl
    · rw [same]
  · rw [State.synced, if_neg acts, ← same]
    rcases syncStep_of_not_acts (p := p) (t := t) acts with none | ⟨data, post⟩
    · rw [none]
    · rw [post, State.channel_congr (State.post_channels _ _ _ _ _)]

/-- The command's step on a named channel is the one told by the state that it found. -/
theorem syncOne_eq {f : SpeedField} {c : Fin 4} (l : List Nat) (inRange : speedInRange p.speedKind p.speed)
    (field : speedField? p.speedKind p.speed = some f) (steered : s.Steered t) (same : t.channel c = s.channel c)
    (named : mask.getLsbD c.val = true) :
    syncOne h.station f p.ramp (if p.round = 0 then .floor else .nearest) (t, l) c =
      (s.syncStep h mask p t c, if s.syncActs h mask c then l else l ++ [c.val]) := by
  by_cases owner : (s.channel c).owner = some h.station
  · by_cases cued : (s.channel c).state = .cued
    · have acts : s.syncActs h mask c := ⟨named, owner, cued⟩
      have takes : (t.channel c).syncRefusal h.station = none := by
        simp only [Channel.syncRefusal, same, if_neg (not_not.mpr owner), if_neg (not_not.mpr cued)]
      have rate : t.rateMultiple (t.channel c) = s.rateMultiple (s.channel c) :=
        rateMultiple_congr steered.lanes steered.clips (by rw [same])
      have speed : t.speedOf (t.channel c) f = (if p.speedKind = 0 then p.speed else
          percentSpeed (s.rateMultiple (s.channel c)) p.speed, decide (s.syncInexact p c)) := by
        obtain ⟨g, isField, -, speeds⟩ := speedField?_eq (.inl inRange)
        obtain rfl : g = f := Option.some.inj (isField.symm.trans field)
        rw [speeds, rate]
        rcases inRange with ⟨kind, -⟩ | ⟨kind, -⟩ <;> simp [kind]
      simp only [syncOne, takes, State.playAt, speed, State.noteQuant, decide_eq_true_eq, playChannel_eq, if_pos acts,
        syncStep_of_acts acts]
      congr 2
      split
      · rw [channel_setFlag_same, same]
        simp [Channel.plays, State.syncPlayed, cued]
      · rw [same]
        simp [Channel.plays, State.syncPlayed, cued]
    · have passed : ¬s.syncActs h mask c := fun acts => cued acts.2.2
      have refuses : (t.channel c).syncRefusal h.station = some .wrongState := by
        simp only [Channel.syncRefusal, same, if_neg (not_not.mpr owner), if_pos cued]
      have step : s.syncStep h mask p t c = t.postSync h.station .wrongState c := by
        simp only [State.syncStep, named, Bool.true_eq_false, if_false, if_neg (not_not.mpr owner), if_pos cued]
        rfl
      simp only [syncOne, refuses, if_neg passed, step]
  · have passed : ¬s.syncActs h mask c := fun acts => owner acts.2.1
    have refuses : (t.channel c).syncRefusal h.station = some .notOwner := by
      simp only [Channel.syncRefusal, same, if_pos owner]
    have step : s.syncStep h mask p t c = t.postSync h.station .notOwner c := by
      simp only [State.syncStep, named, Bool.true_eq_false, if_false, if_pos owner]
      rfl
    simp only [syncOne, refuses, if_neg passed, step]

/-- SYNC PLAY over channels not yet visited. -/
theorem foldl_syncStep {cs : List (Fin 4)} (new : cs.Nodup) (steered : s.Steered t) (same : ∀ c ∈ cs, t.channel c = s.channel c) :
    s.Steered (cs.foldl (s.syncStep h mask p) t) ∧
    ∀ c, (cs.foldl (s.syncStep h mask p) t).channel c = if c ∈ cs then s.synced h mask p c else t.channel c := by
  induction cs generalizing t with
  | nil => exact ⟨steered, by simp⟩
  | cons k cs ih =>
    obtain ⟨notIn, rest⟩ := List.nodup_cons.mp new
    have others : ∀ c ∈ cs, (s.syncStep h mask p t k).channel c = s.channel c := fun c hc => by
      rw [channel_syncStep_ne (by rintro rfl; exact notIn hc)]
      exact same c (List.mem_cons_of_mem k hc)
    obtain ⟨all, channels⟩ := ih rest (steered.trans (syncStep_steered k)) others
    refine ⟨all, fun c => ?_⟩
    rw [List.foldl_cons, channels]
    by_cases isK : c = k
    · subst isK
      rw [if_neg notIn, channel_syncStep_same (same c List.mem_cons_self), if_pos List.mem_cons_self]
    · simp [isK, channel_syncStep_ne (Ne.symm isK)]

theorem foldl_syncOne {f : SpeedField} (inRange : speedInRange p.speedKind p.speed)
    (field : speedField? p.speedKind p.speed = some f) {cs : List (Fin 4)} (new : cs.Nodup) (l : List Nat)
    (steered : s.Steered t) (same : ∀ c ∈ cs, t.channel c = s.channel c) :
    (cs.filter fun c => mask.getLsbD c.val).foldl (syncOne h.station f p.ramp (if p.round = 0 then .floor else .nearest)) (t, l) =
      (cs.foldl (s.syncStep h mask p) t,
        l ++ (cs.filter fun c => mask.getLsbD c.val && !decide (s.syncActs h mask c)).map Fin.val) := by
  induction cs generalizing t l with
  | nil => simp
  | cons k cs ih =>
    obtain ⟨notIn, rest⟩ := List.nodup_cons.mp new
    have others : ∀ c ∈ cs, (s.syncStep h mask p t k).channel c = s.channel c := fun c hc => by
      rw [channel_syncStep_ne (by rintro rfl; exact notIn hc)]
      exact same c (List.mem_cons_of_mem k hc)
    have ih := ih rest (t := s.syncStep h mask p t k)
    cases named : mask.getLsbD k.val with
    | true =>
      rw [List.filter_cons_of_pos (by exact named), List.foldl_cons, List.foldl_cons,
        syncOne_eq l inRange field steered (same k List.mem_cons_self) named, ih _ (steered.trans (syncStep_steered k)) others]
      by_cases acts : s.syncActs h mask k
      · rw [if_pos acts, List.filter_cons_of_neg (by simp [acts])]
      · rw [if_neg acts, List.filter_cons_of_pos (by simp only [named, acts]; rfl), List.map_cons, List.append_assoc]
        rfl
    | false =>
      have skips : s.syncStep h mask p t k = t := by simp only [State.syncStep, named, if_true]
      rw [skips] at ih others
      rw [List.filter_cons_of_neg (by simp [named]), List.filter_cons_of_neg (by simp [named]), List.foldl_cons, skips,
        ih l steered others]

end

theorem speedInRange_of_plain {kind : Nat} {value : Int} {f : SpeedField} (h : plainSpeed? kind value = some f) :
    speedInRange kind value := by
  unfold plainSpeed? at h
  split at h
  next plain =>
    rcases Nat.le_one_iff_eq_zero_or_eq_one.mp plain with rfl | rfl
    · simp only [speedField?, Option.ite_none_right_eq_some] at h
      exact .inl ⟨rfl, h.1⟩
    · simp only [speedField?, Option.ite_none_right_eq_some] at h
      exact .inr ⟨rfl, h.1⟩
  next => cases h

/-- SYNC PLAY with a field out of range (R117). -/
theorem syncRequest_of_outOfRange (s : State) (h : Header) (mask : BitVec 8) {p : PlayFields}
    (outside : ¬(speedInRange p.speedKind p.speed ∧ 1 ≤ p.ramp ∧ p.ramp ≤ 8192 ∧ p.round ≤ 1)) : s.syncRequest h mask p =
      (if h.broadcast then (maskChannels mask).foldl (fun s c => s.postSync h.station .badField c) s else s).refuse .badField := by
  simp only [State.syncRequest]
  split
  next f ramp round isSpeed isRamp isRound =>
    simp only [rampStep?, Option.ite_none_right_eq_some] at isRamp
    have isRound : p.round ≤ 1 := by
      by_contra big
      obtain ⟨n, hn⟩ := Nat.exists_eq_add_of_le (Nat.lt_of_not_le big)
      rw [hn, show 1 + 1 + n = n + 2 by omega] at isRound
      cases isRound
    exact absurd ⟨speedInRange_of_plain isSpeed, isRamp.1.1, isRamp.1.2, isRound⟩ outside
  next => split <;> rfl

/-- SYNC PLAY with its fields in range. -/
theorem syncRequest_of_inRange (s : State) (h : Header) (mask : BitVec 8) {p : PlayFields}
    (inRange : speedInRange p.speedKind p.speed ∧ 1 ≤ p.ramp ∧ p.ramp ≤ 8192 ∧ p.round ≤ 1) : s.syncRequest h mask p =
      (allChannels.foldl (s.syncStep h mask p) s).accept (maskByte (maskOf
        ((allChannels.filter fun c => mask.getLsbD c.val && !decide (s.syncActs h mask c)).map Fin.val))) := by
  obtain ⟨isSpeed, low, high, isRound⟩ := inRange
  obtain ⟨f, field, -⟩ := speedField?_eq (.inl isSpeed)
  simp only [State.syncRequest, plainSpeed?_eq isSpeed, field, rampStep?_eq low high, roundMode?_eq isRound, maskChannels]
  rw [foldl_syncOne isSpeed field (by decide) [] (.refl s) fun _ _ => rfl]
  rfl

/-- Settles O40. -/
theorem syncPlayRollsCuedChannels : Obligations.SyncPlayRollsCuedChannels := by
  unfold Obligations.SyncPlayRollsCuedChannels
  intro s h mask kind ramp round value i inRange refused acts inexact played one t
  have isT : t = allChannels.foldl (s.syncStep h mask { speedKind := kind, speed := value, ramp, round }) s := rfl
  clear_value t
  subst isT
  refine ⟨fun good => ⟨fun ready => ?_, fun ready => ?_, ?_⟩, fun bad => ⟨fun ready => ?_, fun ready => ?_⟩⟩
  · refine ⟨maskOf ((allChannels.filter fun c => mask.getLsbD c.val && !decide (s.syncActs h mask c)).map Fin.val), ?_,
      fun b => ?_⟩
    · rw [exec_of_ready rfl ready]
      simp only [i, requestOf]
      rw [syncRequest_of_inRange s h mask (p := { speedKind := kind, speed := value, ramp, round }) good]
      rfl
    · by_cases small : b < 8
      · rw [show b = (⟨b, small⟩ : Fin 8).val from rfl, getLsbD_maskOf]
        simp only [List.mem_map, List.mem_filter, mem_allChannels, true_and, Bool.and_eq_true, Bool.not_eq_true', decide_eq_false_iff_not]
        constructor
        · rintro ⟨c, ⟨named, passed⟩, rfl⟩
          exact ⟨c, rfl, named, passed⟩
        · rintro ⟨c, rfl, named, passed⟩
          exact ⟨c, ⟨named, passed⟩, rfl⟩
      · rw [BitVec.getLsbD_of_ge _ _ (Nat.le_of_not_lt small)]
        refine ⟨fun no => absurd no Bool.false_ne_true, ?_⟩
        rintro ⟨c, rfl, -⟩
        omega
  · rw [exec_of_readyAll rfl ready]
    simp only [i, requestOf]
    rw [syncRequest_of_inRange s h mask (p := { speedKind := kind, speed := value, ramp, round }) good]
    rfl
  · obtain ⟨steered, channels⟩ := foldl_syncStep (h := h) (mask := mask) (p := { speedKind := kind, speed := value, ramp, round })
      (cs := allChannels) (by decide) (.refl s) fun _ _ => rfl
    refine ⟨fun c isActed => ?_, fun c passed => ?_, steered.rest, steered.posts⟩
    · rw [channels c, if_pos (mem_allChannels c)]
      exact if_pos isActed
    · rw [channels c, if_pos (mem_allChannels c)]
      exact if_neg passed
  · rw [exec_of_ready rfl ready]
    simp only [i, requestOf]
    rw [syncRequest_of_outOfRange s h mask (p := { speedKind := kind, speed := value, ramp, round }) bad, if_neg (by rw [ready.2.1]; exact Bool.false_ne_true)]
    rfl
  · rw [exec_of_readyAll rfl ready]
    simp only [i, requestOf]
    rw [syncRequest_of_outOfRange s h mask (p := { speedKind := kind, speed := value, ramp, round }) bad, if_pos ready.2.1]
    rfl

end Sys2Proof.Machine

/-!
PROOFS. SNAP, RESUME and SAVE DISCARD, and a channel at each tick (spec/06, R118 to R120, R129 to R131).
-/

namespace Sys2Proof.Machine

/-! ### SNAP, RESUME and SAVE DISCARD (R129 to R131) -/

/-- A channel that follows a lane from an LFN on (R110). -/
def Channel.following (x : Channel) (l : Fin 8) (delay lfn p : Nat) : Channel :=
  { x with state := .live, source := .live l delay, position := lfn * 256, current := p * 256, target := p * 256, jogAcc := 0,
           running := none, hold := false, request := none }

theorem goLive_eq (s : State) (c : Fin 4) (l : Fin 8) (delay g : Nat) : s.goLive c l delay g =
    (s.moveRole (s.channel c).source (.live l delay)).setChannel c
      ((s.channel c).following l delay ((s.lane l).liveLfn g delay) (s.lane l).p) := rfl

theorem saveContext_eq (s : State) (c : Fin 4) : s.saveContext c =
    if (s.channel c).saved ≠ none ∨ (s.channel c).state = .idle then s
    else (s.moveRole .none (s.channel c).source).setChannel c { s.channel c with saved := some (s.channel c).context } := by
  simp only [State.saveContext, Option.isSome_iff_ne_none]

theorem channel_saveContext (s : State) (c : Fin 4) : (s.saveContext c).channel c = { s.channel c with
    saved := if (s.channel c).saved ≠ none ∨ (s.channel c).state = .idle then (s.channel c).saved
      else some (s.channel c).context } := by
  rw [saveContext_eq]
  split
  · rfl
  · rw [channel_setChannel_same]

theorem saveContext_lanes (s : State) (c : Fin 4) : (s.saveContext c).lanes = s.lanes := by
  rw [saveContext_eq]
  split
  · rfl
  · rw [State.setChannel_lanes, State.moveRole_lanes]

theorem snapStatus_eq (x : Channel) : x.snapStatus = if x.saved = none then .ok else .saveKept := by
  unfold Channel.snapStatus
  cases x.saved <;> rfl

/-- The checks that RESUME makes on a saved source (R130). -/
theorem resumeCheck_none {s : State} {src : Source} {level : Nat}
    (ok : ∀ n, src = .clip n → (s.clip n).state ≠ .absent ∧ level ≤ (s.clip n).vl) : s.resumeCheck src level = none := by
  cases src with
  | clip n =>
    obtain ⟨present, rights⟩ := ok n rfl
    simp only [State.resumeCheck, if_neg present, if_neg (Nat.not_lt.mpr rights)]
  | none => rfl
  | lane => rfl
  | live => rfl

/-- Settles O41. -/
theorem snapSavesAndResumeRestores : Obligations.SnapSavesAndResumeRestores := by
  unfold Obligations.SnapSavesAndResumeRestores
  intro s h c owner x saved kept slot status
  have isKept : s.saveContext c = kept := saveContext_eq s c
  have isChannel : kept.channel c = { x with saved := slot } := isKept ▸ channel_saveContext s c
  have isLane (l : Fin 8) : kept.lane l = s.lane l := State.lane_congr (isKept ▸ saveContext_lanes s c) l
  have isStatus : (s.channel c).snapStatus = status := snapStatus_eq x
  refine ⟨fun l delay g clip offset ready delayed good => ?_,
    fun n offset lane delay ready low high isLfn usable rights => ?_, fun ready => ⟨fun empty => ?_, fun k full =>
      ⟨fun n source absent => ?_, fun n source present above => ?_, fun ok => ?_⟩⟩, fun ready => ?_⟩
  · have asked : requestOf (.snap h { channel := c.val, kind := 0, lane := l.val, delay, clip, offset }) (s.effective h) s =
        s.owned h c.val fun c => s.snapLaneRequest c l delay := by
      simp only [requestOf, fin?_val, if_pos delayed]
    have request : s.snapLaneRequest c l delay = { state := kept.goLive c l delay g, status, body := [] } := by
      simp only [State.snapLaneRequest, good, isKept, isStatus]
    rw [exec_of_owned rfl ready owner asked, request, goLive_eq, isChannel, isLane]
    rfl
  · intro range inside
    have asked : requestOf (.snap h { channel := c.val, kind := 1, lane, delay, clip := n, offset }) (s.effective h) s =
        s.owned h c.val fun c => s.snapClipRequest c n offset :=
      if_pos (show clipNumber n ∧ offset ≤ maxLfn from ⟨clipNumber_of low high, isLfn⟩)
    have checks : s.cueClipAt n offset (s.channel c).level = .ok (range.1 + offset) :=
      (cueClipAt_usable usable rights).trans (if_neg (Nat.not_lt.mpr inside))
    have request : s.snapClipRequest c n offset = { state := kept.cueAt c (.clip n) (range.1 + offset), status, body := [] } := by
      simp only [State.snapClipRequest, checks, isKept, isStatus]
    rw [exec_of_owned rfl ready owner asked, request, cueAt_eq, isChannel]
    rfl
  · have request : s.resumeRequest c (s.channel c).level = s.refuse .nothingSaved := by
      simp only [State.resumeRequest, show (s.channel c).saved = none from empty]
    rw [exec_of_owned rfl ready owner rfl, request]
    rfl
  · have request : s.resumeRequest c (s.channel c).level = s.refuse .clipAbsent := by
      simp only [State.resumeRequest, show (s.channel c).saved = some k from full, source, State.resumeCheck, if_pos absent]
    rw [exec_of_owned rfl ready owner rfl, request]
    rfl
  · have request : s.resumeRequest c (s.channel c).level = s.refuse .rights := by
      simp only [State.resumeRequest, show (s.channel c).saved = some k from full, source, State.resumeCheck, if_neg present,
        if_pos (show (s.channel c).level > (s.clip n).vl from above)]
    rw [exec_of_owned rfl ready owner rfl, request]
    rfl
  · have check : s.resumeCheck k.source (s.channel c).level = none := resumeCheck_none ok
    have request : s.resumeRequest c (s.channel c).level = ((s.moveRole x.source .none).setChannel c
        { x with state := k.state, source := k.source, position := k.position, current := k.current, target := k.target,
                 ramp := k.ramp, round := k.round, running := k.running, hold := k.hold, request := none, jogAcc := 0,
                 saved := none }).accept [] := by
      simp only [State.resumeRequest, show (s.channel c).saved = some k from full, check]
      rfl
    rw [exec_of_owned rfl ready owner rfl, request]
    rfl
  · rw [exec_of_owned rfl ready owner rfl]
    simp only [State.discardSave, x]
    rfl

/-! ### Presentation (R118) -/

theorem foldl_cueFollows_withEmitted (s : State) (c : Fin 4) (p : Bool) (e : List Emission) (ks : List (Fin 8)) :
    { ks.foldl (fun t k => t.cueFollows c p k) s with emitted := e } =
      ks.foldl (fun t k => t.cueFollows c p k) { s with emitted := e } := by
  induction ks generalizing s with
  | nil => rfl
  | cons k ks ih =>
    have one : { s.cueFollows c p k with emitted := e } = ({ s with emitted := e } : State).cueFollows c p k := by
      simp only [State.cueFollows]
      show _ = if (s.cue k).mode = .state ∧ (s.cue k).channel = c then _ else _
      split <;> rfl
    rw [List.foldl_cons, List.foldl_cons, ih, one]

theorem setChannel_withEmitted (s : State) (c : Fin 4) (x : Channel) (e : List Emission) :
    { s.setChannel c x with emitted := e } = ({ s with emitted := e } : State).setChannel c x := by
  rw [setChannel_eq, setChannel_eq]
  show _ = if (s.channel c).state.isPlaying = x.state.isPlaying then _ else _
  split
  · rfl
  · exact foldl_cueFollows_withEmitted _ c _ e allCues

theorem keepPicture_eq (s : State) (c : Fin 4) : s.keepPicture c =
    if (s.channel c).onAir = none then
      { s.setOutPort c { s.outPort c with picture := .black } with emitted := s.emitted ++ [.black c] }
    else { s with emitted := s.emitted ++ [.repeatPicture c] } := by
  simp only [State.keepPicture]
  cases (s.channel c).onAir <;> rfl

/-! ### Moves (R119, R120) -/

section
variable {lo hi : Nat} {raw : Int}

theorem holdTo_inside (low : lo * 256 ≤ raw) (high : raw ≤ max (lo * 256 : Int) (hi * 256)) :
    holdTo lo hi raw = (raw.toNat, false) := by
  simp only [holdTo]
  rw [if_neg (by omega), if_neg (by omega)]

theorem holdTo_outside (h : raw < lo * 256 ∨ max (lo * 256 : Int) (hi * 256) < raw) :
    holdTo lo hi raw = (if raw < lo * 256 then lo * 256 else max lo hi * 256, true) := by
  have cast : ((lo * 256 : Nat) : Int) = lo * 256 := by omega
  simp only [holdTo, cast]
  by_cases low : raw < lo * 256
  · rw [if_pos low, if_pos low]
  · rw [if_neg low, if_neg low, if_pos (by omega)]

end

section
variable {s : State} {c : Fin 4}

theorem boundaryStep_without_running {raw : Int} (h : (s.channel c).running = none) :
    s.boundaryStep c raw = s.holdStep c raw := by
  simp only [State.boundaryStep, h]

theorem holdStep_inside {raw : Int} (low : (s.channelRange (s.channel c)).1 * 256 ≤ raw)
    (high : raw ≤ max ((s.channelRange (s.channel c)).1 * 256 : Int) ((s.channelRange (s.channel c)).2 * 256)) :
    s.holdStep c raw = s.setChannel c { s.channel c with position := raw.toNat } := by
  simp only [State.holdStep, holdTo_inside low high]
  rfl

theorem holdStep_outside {raw : Int} (h : raw < (s.channelRange (s.channel c)).1 * 256 ∨
      max ((s.channelRange (s.channel c)).1 * 256 : Int) ((s.channelRange (s.channel c)).2 * 256) < raw) :
    let held : Nat := if raw < (s.channelRange (s.channel c)).1 * 256 then (s.channelRange (s.channel c)).1 * 256
      else max (s.channelRange (s.channel c)).1 (s.channelRange (s.channel c)).2 * 256
    let clamped := (s.setChannel c { s.channel c with position := held }).setFlag c .clamp
    s.holdStep c raw = clamped.setChannel c (clamped.channel c).afterClamp := by
  simp only [State.holdStep, holdTo_outside h, if_true]

/-- A channel in motion advances, makes its boundary step and selects (R118). -/
theorem channelTick_of_busy (h : ((s.presentation c).channel c).state ≠ .idle) : s.channelTick c =
    (((s.presentation c).setChannel c ((s.presentation c).advance ((s.presentation c).channel c)).1).boundaryStep c
      ((s.presentation c).advance ((s.presentation c).channel c)).2).selection c := by
  simp only [State.channelTick, if_neg h]

end

theorem Channel.discardsAdvance_iff (x : Channel) :
    x.discardsAdvance = true ↔ x.running ≠ none ∧ x.state = .playing ∧ x.request = some .start := by
  simp [Channel.discardsAdvance, Option.isSome_iff_ne_none, and_assoc]

theorem rampSpeed_eq (current target : Int) (ramp : Nat) : rampSpeed current target ramp =
    if (target - current).natAbs ≤ ramp then target else if current < target then current + ramp else current - ramp := rfl

/-- Settles O42. -/
theorem channelTicksPresentAndMove : Obligations.ChannelTicksPresentAndMove := by
  unfold Obligations.ChannelTicksPresentAndMove
  refine ⟨fun s c => ?_, fun s c => ?_⟩
  · intro x black again
    have isAgain : s.keepPicture c = again := keepPicture_eq s c
    refine ⟨fun idle => ?_, fun busy f next => ?_, fun busy next fetch => ?_, fun busy next fetch => ?_⟩
    · simp only [State.presentation, if_pos (show (s.channel c).state = .idle from idle), State.emit, State.setChannel_emitted]
      exact setChannel_withEmitted _ c _ _
    · simp only [State.presentation, if_neg (show ¬(s.channel c).state = .idle from busy), show (s.channel c).next = some f from next,
        State.presentNext, State.emit, State.setChannel_emitted]
      rfl
    · simp only [State.presentation, if_neg (show ¬(s.channel c).state = .idle from busy), show (s.channel c).next = none from next,
        isAgain, if_pos (show (s.channel c).fetch.isSome = true from Option.isSome_iff_ne_none.mpr fetch)]
    · simp only [State.presentation, if_neg (show ¬(s.channel c).state = .idle from busy), show (s.channel c).next = none from next,
        isAgain, show (s.channel c).fetch = none from fetch]
      rfl
  · intro u x near speed lo hi moves
    have advanced (raw : Int) (y : Channel) (h : moves raw y) : u.advanced x = (y, raw) := by
      rcases h with ⟨state | state, rfl, rfl⟩ | ⟨state, rfl, rfl⟩ | ⟨l, d, g, state, source, good, rfl, rfl⟩ |
        ⟨l, d, state, source, good, rfl, rfl⟩ | ⟨state | state, rfl, rfl⟩
      · simp only [State.advanced, state]
        rfl
      · simp only [State.advanced, state]
        rfl
      · simp only [State.advanced, state]
      · simp only [State.advanced, state, source, good]
      · simp only [State.advanced, state, source, good]
      · simp only [State.advanced, state]
      · simp only [State.advanced, state]
    have keeps (raw : Int) (y : Channel) (h : moves raw y) : y.state = x.state ∧ y.source = x.source ∧ y.running = x.running := by
      rcases h with ⟨-, -, rfl⟩ | ⟨-, -, rfl⟩ | ⟨_, _, _, -, -, -, -, rfl⟩ | ⟨_, _, -, -, -, -, rfl⟩ | ⟨-, -, rfl⟩ <;>
        exact ⟨rfl, rfl, rfl⟩
    have discards : u.advance x = if x.discardsAdvance then (x, (x.position : Int)) else u.advanced x := rfl
    refine ⟨fun idle => ?_, fun busy without raw y move => ?_, fun playing start running => ?_, fun busy other running raw y move => ?_⟩
    · show s.channelTick c = u
      simp only [State.channelTick]
      exact if_pos idle
    · have advance : u.advance x = (y, raw) := by
        rw [discards, if_neg (by rw [Channel.discardsAdvance_iff]; exact fun h => h.1 without), advanced raw y move]
      obtain ⟨sameState, sameSource, sameRunning⟩ := keeps raw y move
      have tick : s.tickAction (.channel c) = ((u.setChannel c y).holdStep c raw).selection c := by
        refine (channelTick_of_busy busy).trans ?_
        show (State.boundaryStep (u.setChannel c (u.advance x).1) c (u.advance x).2).selection c = _
        rw [advance, boundaryStep_without_running (by rw [channel_setChannel_same, sameRunning]; exact without)]
      have range : (u.setChannel c y).channelRange ((u.setChannel c y).channel c) = u.channelRange x := by
        rw [channel_setChannel_same]
        exact channelRange_congr (State.setChannel_lanes _ _ _) (State.setChannel_clips _ _ _) sameSource sameRunning
      refine ⟨fun low high => ?_, fun outside => ?_⟩
      · rw [tick, holdStep_inside (by rw [range]; exact low) (by rw [range]; exact high), channel_setChannel_same]
      · intro held clamped
        have step := holdStep_outside (s := u.setChannel c y) (c := c) (raw := raw) (by rw [range]; exact outside)
        rw [range, channel_setChannel_same] at step
        have isClamped : (clamped.channel c).state = x.state ∧ (clamped.channel c).running = none := by
          simp only [clamped, channel_setFlag_same, channel_setChannel_same]
          exact ⟨sameState, sameRunning.trans without⟩
        have after : (clamped.channel c).afterClamp =
            if x.state = .playing then { clamped.channel c with state := .paused, current := 0, target := 0 }
            else clamped.channel c := by
          simp only [Channel.afterClamp, isClamped, and_true]
        rw [tick, step, ← after]
    · refine (channelTick_of_busy (s := s) (c := c) (by rw [show ((s.presentation c).channel c).state = _ from playing]; decide)).trans ?_
      show (State.boundaryStep (u.setChannel c (u.advance x).1) c (u.advance x).2).selection c = _
      rw [discards, if_pos ((Channel.discardsAdvance_iff x).mpr ⟨running, playing, start⟩)]
    · refine (channelTick_of_busy busy).trans ?_
      show (State.boundaryStep (u.setChannel c (u.advance x).1) c (u.advance x).2).selection c = _
      rw [discards, if_neg (by rw [Channel.discardsAdvance_iff]; exact fun h => other h.2), advanced raw y move]

end Sys2Proof.Machine

/-!
PROOFS. The Running Order Store, the segue and its outcomes, and the boundary step of a running order (spec/07).
-/

namespace Sys2Proof.Machine

/-! ### The Running Order Store (R133, R134) -/

theorem segment_setSegment (s : State) (b d : Fin 8) (e k : Fin 32) (g : Segment) :
    (s.setSegment b e g).segment d k = if b = d ∧ e = k then g else s.segment d k := by
  unfold State.segment State.setSegment
  by_cases sameBank : b = d
  · subst sameBank
    by_cases sameEntry : e = k
    · subst sameEntry
      simp
    · have : e.val ≠ k.val := fun h => sameEntry (Fin.ext h)
      simp [sameEntry, this]
  · have : b.val ≠ d.val := fun h => sameBank (Fin.ext h)
    simp [sameBank, this]

/-- The entries of a bank from `first` on, `count` of them. -/
def bankEntries (first count : Nat) : List (Fin 32) := (List.range count).filterMap fun i => fin? 32 (first + i)

theorem bankEntries_succ {first count : Nat} (h : first < 32) :
    bankEntries first (count + 1) = ⟨first, h⟩ :: bankEntries (first + 1) count := by
  have shift (i : Nat) : fin? 32 (first + (i + 1)) = fin? 32 (first + 1 + i) := by rw [Nat.add_assoc, Nat.add_comm 1 i]
  unfold bankEntries
  rw [List.range_succ_eq_map, List.filterMap_cons_some (b := ⟨first, h⟩) (by simp [fin?, h]), List.filterMap_map]
  congr 1
  exact List.filterMap_congr fun i _ => shift i

theorem bankEntries_length {first count : Nat} (h : first + count ≤ 32) : (bankEntries first count).length = count := by
  induction count generalizing first with
  | zero => rfl
  | succ n ih => rw [bankEntries_succ (by omega), List.length_cons, ih (by omega)]

theorem mem_bankEntries {first count : Nat} {e : Fin 32} :
    e ∈ bankEntries first count ↔ first ≤ e.val ∧ e.val < first + count := by
  simp only [bankEntries, List.mem_filterMap, List.mem_range, fin?_eq_some_iff]
  constructor
  · rintro ⟨i, small, rest⟩
    omega
  · rintro ⟨low, high⟩
    exact ⟨e.val - first, by omega, by omega⟩

theorem bankRange?_eq {b : Fin 8} {first count : Nat} (low : 1 ≤ count) (high : count ≤ 8) (fits : first + count ≤ 32) :
    bankRange? b.val first count = some (b, bankEntries first count) := by
  simp only [bankRange?, fin?_val, if_pos (And.intro low (And.intro high fits))]
  rfl

theorem endKind?_code (a : EndKind) : endKind? a.code = some a := by
  cases a <;> rfl

/-- The record of BANK WRITE that carries a segment. -/
def Segment.fields (g : Segment) : SegmentFields :=
  { clip := g.clip, hasStart := if g.hasStart then 1 else 0, start := g.start, hasEnd := if g.hasEnd then 1 else 0,
    endOffset := g.endOffset, speed := g.speed, action := g.action.code, number := g.number }

/-- A segment within the ranges of R133. -/
def Segment.inRange (g : Segment) : Prop :=
  g.clip ≤ 1023 ∧ g.start ≤ 4294967295 ∧ g.endOffset ≤ 4294967295 ∧ -8192 ≤ g.speed ∧ g.speed ≤ 8192 ∧
    (g.action = .skip → -16 ≤ g.number ∧ g.number ≤ 15) ∧ (g.action = .goto → 0 ≤ g.number ∧ g.number ≤ 31) ∧
    (g.action = .chain → 0 ≤ g.number ∧ g.number ≤ 7)

theorem segment?_fields {g : Segment} (h : g.inRange) : segment? g.fields = some g := by
  have flag (b : Bool) : flag? (if b then 1 else 0) = some b := by cases b <;> rfl
  simp only [segment?, Segment.fields, flag, endKind?_code, Option.bind_eq_bind, Option.bind_some]
  exact if_pos h

theorem mapM_segment? {gs : List Segment} (h : ∀ g ∈ gs, g.inRange) : (gs.map Segment.fields).mapM segment? = some gs := by
  induction gs with
  | nil => rfl
  | cons g gs ih =>
    rw [List.map_cons, List.mapM_cons, segment?_fields (h g List.mem_cons_self), ih fun k hk => h k (List.mem_cons_of_mem g hk)]
    rfl

/-- Records written to a bank from an entry upward (R134). -/
def State.writeBank (s : State) (b : Fin 8) (first : Nat) (gs : List Segment) : State :=
  ((bankEntries first gs.length).zip gs).foldl (fun s p => s.setSegment b p.1 p.2) s

theorem writeBank_cons {s : State} {b : Fin 8} {first : Nat} {g : Segment} {gs : List Segment} (h : first < 32) :
    s.writeBank b first (g :: gs) = (s.setSegment b ⟨first, h⟩ g).writeBank b (first + 1) gs := by
  simp only [State.writeBank, List.length_cons, bankEntries_succ h, List.zip_cons_cons, List.foldl_cons]

theorem writeBank_segment {s : State} {b : Fin 8} {first : Nat} {gs : List Segment} (h : first + gs.length ≤ 32) (e : Fin 32) :
    (s.writeBank b first gs).segment b e =
      if first ≤ e.val then gs.getD (e.val - first) (s.segment b e) else s.segment b e := by
  induction gs generalizing s first with
  | nil => simp [State.writeBank]
  | cons g gs ih =>
    rw [List.length_cons] at h
    rw [writeBank_cons (by omega), ih (by omega), segment_setSegment]
    by_cases below : e.val < first
    · have other : ¬(b = b ∧ (⟨first, by omega⟩ : Fin 32) = e) := fun h => by
        have := congrArg Fin.val h.2
        simp only at this
        omega
      rw [if_neg (by omega), if_neg other, if_neg (by omega)]
    · by_cases here : e.val = first
      · have same : b = b ∧ (⟨first, by omega⟩ : Fin 32) = e := ⟨rfl, Fin.ext here.symm⟩
        rw [if_neg (by omega), if_pos same, if_pos (by omega), here, Nat.sub_self, List.getD_cons_zero]
      · have other : ¬(b = b ∧ (⟨first, by omega⟩ : Fin 32) = e) := fun h => here (congrArg Fin.val h.2).symm
        rw [if_pos (by omega), if_neg other, if_pos (by omega), show e.val - first = e.val - (first + 1) + 1 by omega,
          List.getD_cons_succ]

theorem writeBank_other {s : State} {b d : Fin 8} {first : Nat} {gs : List Segment} (h : first + gs.length ≤ 32) (other : d ≠ b)
    (e : Fin 32) : (s.writeBank b first gs).segment d e = s.segment d e := by
  induction gs generalizing s first with
  | nil => simp [State.writeBank]
  | cons g gs ih =>
    rw [List.length_cons] at h
    rw [writeBank_cons (by omega), ih (by omega), segment_setSegment, if_neg fun h => other h.1.symm]

theorem writeBank_withBanks {s : State} {b : Fin 8} {first : Nat} {gs : List Segment} (h : first + gs.length ≤ 32) :
    { s.writeBank b first gs with banks := s.banks } = s := by
  induction gs generalizing s first with
  | nil => simp [State.writeBank]
  | cons g gs ih =>
    rw [List.length_cons] at h
    rw [writeBank_cons (by omega)]
    exact congrArg (fun t : State => { t with banks := s.banks }) (ih (s := s.setSegment b ⟨first, by omega⟩ g) (first := first + 1) (by omega))

/-- An entry is a channel's running-order position (R135). -/
theorem activeOn_isEmpty (s : State) (b : Fin 8) (e : Fin 32) : (!(s.activeOn b e).isEmpty) = true ↔
    ∃ c r, (s.channel c).running = some r ∧ r.bank = b ∧ r.entry = e := by
  simp only [State.activeOn, Bool.not_eq_true', List.isEmpty_eq_false_iff, ne_eq, List.map_eq_nil_iff, List.filter_eq_nil_iff,
    mem_allChannels, forall_const, Option.any_eq_true, Bool.and_eq_true, beq_iff_eq, not_forall, not_not]

/-- Settles O44. -/
theorem bankWriteReplacesInactiveEntries : Obligations.BankWriteReplacesInactiveEntries := by
  unfold Obligations.BankWriteReplacesInactiveEntries
  intro s h bank first gs ready low high fits inRange records active
  have range := bankRange?_eq (b := bank) low high fits
  have isRecords : records.mapM segment? = some gs := mapM_segment? inRange
  have sameLength : ¬gs.length ≠ (bankEntries first gs.length).length := not_not.mpr (bankEntries_length fits).symm
  have isActive : ((bankEntries first gs.length).any fun e => !(s.activeOn bank e).isEmpty) = true ↔ active := by
    simp only [List.any_eq_true, activeOn_isEmpty, mem_bankEntries]
    constructor
    · rintro ⟨e, ⟨above, below⟩, c, r, running, isBank, rfl⟩
      exact ⟨c, r, running, isBank, above, below⟩
    · rintro ⟨c, r, running, isBank, above, below⟩
      exact ⟨r.entry, ⟨above, below⟩, c, r, running, isBank, rfl⟩
  refine ⟨fun idle => ⟨s.writeBank bank first gs, ?_, writeBank_segment fits, fun b e other => writeBank_other fits other e,
    writeBank_withBanks fits⟩, fun busy => ?_⟩
  · rw [exec_of_ready rfl ready]
    simp only [requestOf, State.bankWriteRequest, range, isRecords, if_neg sameLength, if_neg (mt isActive.mp idle)]
    rfl
  · rw [exec_of_ready rfl ready]
    simp only [requestOf, State.bankWriteRequest, range, isRecords, if_neg sameLength, if_pos (isActive.mpr busy)]
    rfl

/-! ### The segue's checks (R139) -/

theorem segueCheck_out (s : State) (level : Nat) (b : Fin 8) {n : Int} (h : n < 0 ∨ 31 < n) :
    s.segueCheck level b n = .error { reason := .entryRange, clip := 0 } := by
  have none : (if 0 ≤ n then fin? 32 n.toNat else none) = none := by
    split
    · exact fin?_eq_none_iff.mpr (by omega)
    · rfl
  simp only [State.segueCheck, none]

theorem segueCheck_entry (s : State) (level : Nat) (b : Fin 8) (e : Fin 32) : s.segueCheck level b e.val =
    if (s.segment b e).clip = 0 then .error { reason := .emptyEntry, clip := 0 }
    else if (s.clip (s.segment b e).clip).state = .free then .error { reason := .clipFree, clip := (s.segment b e).clip }
    else if (s.clip (s.segment b e).clip).state = .absent then .error { reason := .clipAbsent, clip := (s.segment b e).clip }
    else if (s.clip (s.segment b e).clip).state = .opened then .error { reason := .clipOpen, clip := (s.segment b e).clip }
    else if level > (s.clip (s.segment b e).clip).vl then .error { reason := .rights, clip := (s.segment b e).clip }
    else
      let offs := (s.segment b e).resolve (s.clip (s.segment b e).clip)
      let length := (s.clip (s.segment b e).clip).out.getD (s.clip (s.segment b e).clip).inLfn -
        (s.clip (s.segment b e).clip).inLfn
      if offs.1 ≤ offs.2 ∧ offs.2 ≤ length then
        .ok { running := { bank := b, entry := e, startOffset := offs.1, endOffset := offs.2 }, clip := (s.segment b e).clip,
              speed := (s.segment b e).speed }
      else .error { reason := .offset, clip := (s.segment b e).clip } := by
  have isEntry : (if (0 : Int) ≤ e.val then fin? 32 (e.val : Int).toNat else none) = some e := by
    rw [if_pos (by omega), Int.toNat_natCast, fin?_val]
  simp only [State.segueCheck, isEntry]

/-- A segue that passes its checks leads to the entry asked for, of a clip that is not FREE. -/
theorem segueCheck_ok {s : State} {level : Nat} {b : Fin 8} {e : Fin 32} {t : SegueTarget}
    (h : s.segueCheck level b e.val = .ok t) :
    t.running.bank = b ∧ t.running.entry = e ∧ t.clip = (s.segment b e).clip ∧ (s.clip t.clip).state = .closed := by
  rw [segueCheck_entry] at h
  split at h
  · cases h
  split at h
  · cases h
  split at h
  · cases h
  split at h
  · cases h
  split at h
  · cases h
  simp only at h
  split at h
  · cases h
    refine ⟨rfl, rfl, rfl, ?_⟩
    show (s.clip (s.segment b e).clip).state = .closed
    cases state : (s.clip (s.segment b e).clip).state <;> simp_all
  · cases h

/-! ### The segue's outcomes (R138, R140, R141) -/

/-- The first LFN that a passing segue plays (R140). -/
def State.segueLfn (s : State) (t : SegueTarget) : Nat :=
  (s.clip t.clip).inLfn + if t.speed < 0 then t.running.endOffset else t.running.startOffset

theorem triggerCue_channels (s : State) (k : Fin 8) (cause : Nat) (detail : List Byte) (direction : Nat) :
    (s.triggerCue k cause detail direction).channels = s.channels := by
  simp only [State.triggerCue, State.fireCue]
  split
  · rw [State.post_channels]
    rfl
  · rfl

theorem reportSegue_channels (s : State) (c : Fin 4) (b : Fin 8) (e : Fin 32) : (s.reportSegue c b e).channels = s.channels := by
  refine foldl_keep State.channels (fun s k => ?_) _ _
  simp only [State.cueSeesSegue]
  split
  · exact triggerCue_channels s k _ _ _
  · rfl

theorem channel_passSegue (s : State) (c : Fin 4) (t : SegueTarget) (cause : SegueCause) (q : Option SegueRequest) :
    ((s.passSegue c t cause q).channel c).position = s.segueLfn t * 256 := by
  simp only [State.passSegue]
  rw [State.channel_congr (reportSegue_channels _ _ _ _), State.channel_congr (State.post_channels _ _ _ _ _), channel_setChannel_same]
  rfl

theorem oldPositionBytes_eq (o : Option Running) : oldPositionBytes o = match o with
    | none => [0xFF, 0xFF]
    | some r => [BitVec.ofNat 8 r.bank.val, BitVec.ofNat 8 r.entry.val] := by
  cases o <;> rfl

/-- Settles O45. -/
theorem seguesPassOrFailByTheirChecks : Obligations.SeguesPassOrFailByTheirChecks := by
  unfold Obligations.SeguesPassOrFailByTheirChecks
  intro s c b x
  refine ⟨fun n => segueCheck_out s x.level b, fun e => ?_, fun t cause q => ?_, fun r n f cause position clamped => ?_⟩
  · intro g k length start last
    rw [segueCheck_entry]
    have isOffset : (start ≤ last ∧ last ≤ length) ↔ ¬(last < start ∨ length < last) := by omega
    have checks : (if start ≤ last ∧ last ≤ length then
          Except.ok { running := { bank := b, entry := e, startOffset := start, endOffset := last }, clip := g.clip, speed := g.speed }
        else Except.error { reason := .offset, clip := g.clip }) =
        (if last < start ∨ length < last then Except.error { reason := .offset, clip := g.clip }
        else .ok ({ running := { bank := b, entry := e, startOffset := start, endOffset := last }, clip := g.clip,
                    speed := g.speed } : SegueTarget) : Except SegueFault SegueTarget) := by
      simp only [isOffset, ite_not]
    rw [← checks]
    rfl
  · intro lfn
    have old : oldPositionBytes x.running = match x.running with
        | none => [0xFF, 0xFF]
        | some r => [BitVec.ofNat 8 r.bank.val, BitVec.ofNat 8 r.entry.val] := oldPositionBytes_eq x.running
    simp only [State.passSegue, show oldPositionBytes (s.channel c).running = _ from old]
    rfl
  · intro t u
    simp only [State.failSegue, Running.positionBytes, List.append_assoc]
    rfl

/-! ### RUN and SEGUE (R138, R147) -/

/-- Settles O46. -/
theorem runAndSegueCommandTheOrder : Obligations.RunAndSegueCommandTheOrder := by
  unfold Obligations.RunAndSegueCommandTheOrder
  intro s h c b e owner x
  have asked (n : Nat) (small : n ≤ 255) : requestOf (.runOrder h c.val b.val n) (s.effective h) s =
      s.owned h c.val fun c => s.runRequest c b n := by
    simp only [requestOf, fin?_val, if_pos small]
  have refused {n : Nat} {f : SegueFault} (busy : x.state ≠ .idle) (check : s.segueCheck x.level b n = .error f) :
      s.runRequest c b n = s.refuse f.reason := by
    simp only [State.runRequest, if_neg (show ¬(s.channel c).state = .idle from busy),
      show s.segueCheck (s.channel c).level b n = _ from check]
  refine ⟨fun ready => ⟨fun idle => ?_, fun busy f check => ?_, fun busy n low high => ?_, fun busy t check => ?_⟩,
    fun ready running moves => ?_, fun ready stands => ?_⟩
  · rw [exec_of_owned rfl ready owner (asked e.val (by omega)), State.runRequest, if_pos (by exact idle)]
    rfl
  · rw [exec_of_owned rfl ready owner (asked e.val (by omega)), refused busy check]
    rfl
  · rw [exec_of_owned rfl ready owner (asked n high), refused busy (segueCheck_out s x.level b (by omega))]
    rfl
  · intro lfn
    obtain ⟨isBank, isEntry, -, -⟩ := segueCheck_ok check
    have request : s.runRequest c b e.val = (s.passSegue c t .run (some .start)).accept
        ([1] ++ leBytes 1 b.val ++ leBytes 1 e.val ++ [0] ++ lfnBytes lfn) := by
      have body : flagBytes true ++ t.running.positionBytes ++
          positionBytes ((s.passSegue c t .run (some .start)).channel c).position =
            [1] ++ leBytes 1 b.val ++ leBytes 1 e.val ++ [0] ++ lfnBytes lfn := by
        rw [channel_passSegue, positionBytes_whole, Running.positionBytes, isBank, isEntry]
        simp only [List.append_assoc]
        rfl
      simp only [State.runRequest, if_neg (show ¬(s.channel c).state = .idle from busy),
        show s.segueCheck (s.channel c).level b e.val = _ from check, body]
    rw [exec_of_owned rfl ready owner (asked e.val (by omega)), request]
    simp only [State.accept]
  · have request (q : SegueRequest) :
        s.segueRequest c q = (s.setChannel c { x with request := some q, hold := false }).accept [] := by
      simp only [State.segueRequest]
      exact if_pos ⟨Option.isSome_iff_ne_none.mpr running, moves⟩
    have step {kind number : Nat} {q : SegueRequest} (target : segueTarget? kind number = some q) :
        exec (.segue h c.val kind number) s =
          .next ((s.setChannel c { x with request := some q, hold := false }).answers h .segue .ok []) := by
      rw [exec_of_owned (run := fun c => s.segueRequest c q) rfl ready owner (by simp only [requestOf, target]), request]
      rfl
    exact ⟨step rfl, step (by simp [segueTarget?]), step (by simp [segueTarget?])⟩
  · have request : s.segueRequest c (.goto e) = s.refuse .wrongState := by
      simp only [State.segueRequest]
      refine if_neg ?_
      rintro ⟨some, moving⟩
      rcases stands with none | ⟨notPlaying, notPaused⟩
      · exact Option.isSome_iff_ne_none.mp some none
      · exact moving.elim notPlaying notPaused
    rw [exec_of_owned (run := fun c => s.segueRequest c (.goto e)) rfl ready owner (by simp [requestOf, segueTarget?]), request]
    rfl

end Sys2Proof.Machine

/-!
PROOFS. The boundary step of a running order (spec/07, R142 to R145).
-/

namespace Sys2Proof.Machine

/-! ### Channel records written twice or unchanged -/

/-- A record written over one of the same play state is written alone (R186). -/
theorem setChannel_setChannel (s : State) (c : Fin 4) (x y : Channel)
    (same : x.state.isPlaying = (s.channel c).state.isPlaying) : (s.setChannel c x).setChannel c y = s.setChannel c y := by
  have first : s.setChannel c x = { s with channels := s.channels.set c x } := by rw [setChannel_eq, if_pos same.symm]
  have record : State.channel { s with channels := s.channels.set c x } c = x := by simp [State.channel]
  rw [first, setChannel_eq, setChannel_eq, record, same]
  simp only [Vector.set_set]

theorem setChannel_self (s : State) (c : Fin 4) : s.setChannel c (s.channel c) = s := by
  rw [setChannel_eq, if_pos rfl]
  simp only [State.channel]
  rw [show s.channels.set c s.channels[c] = s.channels from Vector.set_getElem_self _]

/-! ### The hold to the range (R120, R142) -/

theorem channelRange_ordered (s : State) (x : Channel) : (s.channelRange x).1 ≤ (s.channelRange x).2 := by
  simp only [State.channelRange]
  split <;> exact Nat.le_max_left _ _

theorem holdTo_of_le {lo hi : Nat} (ordered : lo ≤ hi) (raw : Int) : holdTo lo hi raw =
    if raw < lo * 256 then (lo * 256, true) else if (hi * 256 : Nat) < raw then (hi * 256, true) else (raw.toNat, false) := by
  have cast : ((lo * 256 : Nat) : Int) = lo * 256 := by omega
  simp only [holdTo, Nat.max_eq_right ordered, cast]

section
variable {s : State} {c : Fin 4} {x : Channel}

/-- A raw position held to the range of a channel with a running order. -/
def State.heldAt (s : State) (x : Channel) (raw : Int) : Nat × Bool :=
  holdTo (s.channelRange x).1 (s.channelRange x).2 raw

/-- The hold of a channel with a running order, which a clamp does not pause (R142 item 4). -/
theorem holdStep_of_running (isX : s.channel c = x) {r : Running} (running : x.running = some r) (raw : Int) :
    s.holdStep c raw =
      let t := s.setChannel c { x with position := (s.heldAt x raw).1 }
      if (s.heldAt x raw).2 then t.setFlag c .clamp else t := by
  subst isX
  have stays (y : Channel) (h : y.running = some r) : y.afterClamp = y := by simp [Channel.afterClamp, h]
  by_cases clamps : (s.heldAt (s.channel c) raw).2 = true
  · have clamped : (holdTo (s.channelRange (s.channel c)).1 (s.channelRange (s.channel c)).2 raw).2 = true := clamps
    simp only [State.holdStep, if_pos clamped, if_pos clamps]
    rw [stays, setChannel_self]
    · rfl
    rw [channel_setFlag_same, channel_setChannel_same]
    exact running
  · have inside : ¬(holdTo (s.channelRange (s.channel c)).1 (s.channelRange (s.channel c)).2 raw).2 = true := clamps
    simp only [State.holdStep, if_neg inside, if_neg clamps]
    rfl

end

/-! ### The boundary step by request and crossing (R142) -/

section
variable {s : State} {c : Fin 4} {r : Running} {raw : Int}

theorem boundaryStep_running (running : (s.channel c).running = some r) : s.boundaryStep c raw = s.runningStep c r raw := by
  simp only [State.boundaryStep, running]

theorem runningStep_requested {q : SegueRequest} (request : (s.channel c).request = some q) (other : q ≠ .start)
    (moves : (s.channel c).state = .playing ∨ (s.channel c).state = .paused) :
    s.runningStep c r raw = s.takeRequest c r q (s.heldAt (s.channel c) raw) := by
  cases q with
  | start => exact absurd rfl other
  | next => simp only [State.runningStep, request, if_pos moves, State.heldAt]
  | release => simp only [State.runningStep, request, if_pos moves, State.heldAt]
  | goto e => simp only [State.runningStep, request, if_pos moves, State.heldAt]
  | chain b => simp only [State.runningStep, request, if_pos moves, State.heldAt]

theorem runningStep_kept {q : SegueRequest} (request : (s.channel c).request = some q) (other : q ≠ .start)
    (stands : ¬((s.channel c).state = .playing ∨ (s.channel c).state = .paused)) :
    s.runningStep c r raw = s.crossingStep c r raw := by
  cases q with
  | start => exact absurd rfl other
  | next => simp only [State.runningStep, request, if_neg stands]
  | release => simp only [State.runningStep, request, if_neg stands]
  | goto e => simp only [State.runningStep, request, if_neg stands]
  | chain b => simp only [State.runningStep, request, if_neg stands]

theorem runningStep_unrequested (request : (s.channel c).request = none) : s.runningStep c r raw = s.crossingStep c r raw := by
  simp only [State.runningStep, request]

end

/-- A playhead has crossed an edge of its range in its direction (R120). -/
def Channel.beyond (x : Channel) (lo hi : Nat) (raw : Int) : Prop :=
  x.state = .playing ∧ ((hi * 256 : Nat) < raw ∧ 0 < x.current ∨ raw < (lo * 256 : Nat) ∧ x.current < 0)

theorem Channel.crossed_eq {x : Channel} {lo hi : Nat} {raw : Int} (ordered : lo ≤ hi) (h : x.beyond lo hi raw) :
    x.crossed lo hi raw = some (if (hi * 256 : Nat) < raw then hi else lo) := by
  obtain ⟨playing, ⟨above, forward⟩ | ⟨below, backward⟩⟩ := h
  · simp only [Channel.crossed, if_pos playing, if_pos (And.intro above forward), if_pos above]
  · have notAbove : ¬((hi * 256 : Nat) : Int) < raw := by omega
    simp only [Channel.crossed, if_pos playing, if_neg (fun h : _ ∧ _ => notAbove h.1), if_pos (And.intro below backward),
      if_neg notAbove]

theorem Channel.crossed_none {x : Channel} {lo hi : Nat} {raw : Int} (h : ¬x.beyond lo hi raw) : x.crossed lo hi raw = none := by
  simp only [Channel.crossed]
  split
  next playing =>
    rw [if_neg fun above => h ⟨playing, .inl above⟩, if_neg fun below => h ⟨playing, .inr below⟩]
  next => rfl

/-- STOP holds the crossed boundary to the range that the channel has without its running order (R145). -/
theorem stopAction_eq (s : State) (c : Fin 4) (r : Running) (lfn : Nat) :
    let y := ((s.channel c).pausedAt lfn).endRunning
    let own := s.channelRange y
    s.stopAction c r lfn =
      (if lfn < own.1 then (s.setChannel c { y with position := own.1 * 256 }).setFlag c .clamp
        else if own.2 < lfn then (s.setChannel c { y with position := own.2 * 256 }).setFlag c .clamp
        else s.setChannel c y).postHold c r 1 lfn := by
  intro y own
  have held : holdTo own.1 own.2 y.position =
      if lfn < own.1 then (own.1 * 256, true) else if own.2 < lfn then (own.2 * 256, true) else (lfn * 256, false) := by
    have position : y.position = lfn * 256 := rfl
    have ordered : own.1 ≤ own.2 := channelRange_ordered s y
    rw [holdTo_of_le ordered, position]
    by_cases low : lfn < own.1
    · rw [if_pos low, if_pos (by omega)]
    · by_cases high : own.2 < lfn
      · rw [if_neg low, if_pos high, if_neg (by omega), if_pos (by omega)]
      · rw [if_neg low, if_neg high, if_neg (by omega), if_neg (by omega), Int.toNat_natCast]
  simp only [State.stopAction, show holdTo (s.channelRange ((s.channel c).pausedAt lfn).endRunning).1
    (s.channelRange ((s.channel c).pausedAt lfn).endRunning).2 ((s.channel c).pausedAt lfn).endRunning.position = _ from held]
  by_cases low : lfn < own.1
  · simp only [if_pos low, if_true]
    rfl
  · by_cases high : own.2 < lfn
    · simp only [if_neg low, if_pos high, if_true]
      rfl
    · simp only [if_neg low, if_neg high]
      rfl

/-- Settles O47. -/
theorem boundaryStepsFollowTheOrder : Obligations.BoundaryStepsFollowTheOrder := by
  unfold Obligations.BoundaryStepsFollowTheOrder
  intro s c r raw running x g lo hi segue held beyond edge crosses
  have ordered : lo ≤ hi := channelRange_ordered s x
  have isHeld : s.heldAt x raw = held := holdTo_of_le ordered raw
  have step : s.boundaryStep c raw = s.runningStep c r raw := boundaryStep_running running
  have makes (b : Fin 8) (n : Int) (cause : SegueCause) (fallback : Nat × Bool) :
      s.makeSegue c r b n cause fallback = segue b n cause fallback.1 fallback.2 := by
    simp only [State.makeSegue, segue]
    rfl
  refine ⟨fun start playing => ?_, fun start stands => ?_, fun moves => ?_, fun crosses => ?_, fun stays => ?_⟩
  · let y : Channel := { x with request := none }
    have cleared : (s.setChannel c y).channel c = y := channel_setChannel_same s c y
    have range : (s.setChannel c y).channelRange y = s.channelRange x :=
      channelRange_congr (State.setChannel_lanes _ _ _) (State.setChannel_clips _ _ _) rfl rfl
    have speed : (s.setChannel c y).segmentSpeed x = g.speed := by
      rw [segmentSpeed_congr (State.setChannel_banks _ _ _) rfl]
      simp only [State.segmentSpeed, show x.running = some r from running]
      rfl
    have inside : (s.setChannel c y).heldAt y ((if g.speed < 0 then hi else lo) * 256 : Nat) =
        ((if g.speed < 0 then hi else lo) * 256, false) := by
      rw [State.heldAt, range]
      exact (holdTo_of_le ordered _).trans (by
        split
        · rw [if_neg (by omega), if_neg (by omega), Int.toNat_natCast]
        · rw [if_neg (by omega), if_neg (by omega), Int.toNat_natCast])
    have begins : s.runningStep c r raw = (s.setChannel c y).holdStep c ((if g.speed < 0 then hi else lo) * 256 : Nat) := by
      have isStart : (s.channel c).request = some .start := start
      simp only [State.runningStep, isStart, State.startStep]
      show (if x.state = .playing then State.holdStep (s.setChannel c y) c ((if (s.setChannel c y).segmentSpeed x < 0 then
        ((s.setChannel c y).channelRange x).2 else ((s.setChannel c y).channelRange x).1) * 256 : Nat) else _) = _
      rw [if_pos playing, speed, channelRange_congr (State.setChannel_lanes s c y) (State.setChannel_clips s c y) rfl rfl]
    rw [step, begins, holdStep_of_running cleared (by exact running), inside]
    exact setChannel_setChannel s c y _ rfl
  · let y : Channel := { x with request := none }
    have cleared : (s.setChannel c y).channel c = y := channel_setChannel_same s c y
    have range : (s.setChannel c y).heldAt y raw = held := by
      rw [State.heldAt, channelRange_congr (y := y) (x := x) (State.setChannel_lanes s c y) (State.setChannel_clips s c y) rfl rfl]
      exact isHeld
    have begins : s.runningStep c r raw = (s.setChannel c y).holdStep c raw := by
      have isStart : (s.channel c).request = some .start := start
      simp only [State.runningStep, isStart, State.startStep]
      exact if_neg stands
    rw [step, begins, holdStep_of_running cleared (by exact running), range]
    simp only [setChannel_setChannel s c y _ rfl]
    rfl
  · have taken {q : SegueRequest} (request : x.request = some q) (other : q ≠ .start) :
        s.boundaryStep c raw = s.takeRequest c r q held := by
      rw [step, runningStep_requested request other moves, ← isHeld]
    refine ⟨fun request => ?_, fun request => ?_, fun e request => ?_, fun b request => ?_⟩
    · exact (taken request (by simp)).trans (makes _ _ _ _)
    · exact (taken request (by simp)).trans (makes _ _ _ _)
    · exact (taken request (by simp)).trans (makes _ _ _ _)
    · exact (taken request (by simp)).trans (makes _ _ _ _)
  · have ends : s.boundaryStep c raw = s.endAction c r edge := by
      have crossed : (s.channel c).crossed (s.channelRange (s.channel c)).1 (s.channelRange (s.channel c)).2 raw = some edge :=
        Channel.crossed_eq ordered crosses.1
      rw [step, runningStep_unrequested crosses.2]
      simp only [State.crossingStep, crossed]
    have does {a : EndKind} (action : g.action = a) : (s.segment r.bank r.entry).action = a := action
    refine ⟨fun action => ?_, fun action => ?_, fun action => ?_, fun b action number => ?_, fun action => ?_, fun action => ?_,
      fun action => ?_⟩
    · rw [ends]
      simp only [State.endAction, does action, makes]
    · rw [ends]
      simp only [State.endAction, does action, makes]
      rfl
    · rw [ends]
      simp only [State.endAction, does action, makes]
      rfl
    · rw [ends]
      have isNumber : (s.segment r.bank r.entry).number = b.val := number
      simp only [State.endAction, does action, makes, isNumber, Int.toNat_natCast, fin?_val, Option.getD_some]
    · rw [ends]
      simp only [State.endAction, does action, makes]
    · rw [ends]
      simp only [State.endAction, does action, State.holdAction, State.postHold, Running.positionBytes]
      rfl
    · rw [ends]
      simp only [State.endAction, does action]
      exact stopAction_eq s c r edge
  · have crosses : s.runningStep c r raw = s.crossingStep c r raw := by
      rcases stays with ⟨none, -⟩ | ⟨some, other, notPlaying, notPaused⟩
      · exact runningStep_unrequested none
      · obtain ⟨q, request⟩ := Option.ne_none_iff_exists'.mp some
        exact runningStep_kept request (by rintro rfl; exact other request) fun moves => moves.elim notPlaying notPaused
    have inside : ¬(s.channel c).beyond (s.channelRange (s.channel c)).1 (s.channelRange (s.channel c)).2 raw := by
      rcases stays with ⟨-, within⟩ | ⟨-, -, notPlaying, -⟩
      · exact within
      · exact fun h => notPlaying h.1
    rw [step, crosses]
    simp only [State.crossingStep, Channel.crossed_none inside]
    rw [holdStep_of_running rfl running]
    show (if (s.heldAt x raw).2 then _ else _) = _
    rw [isHeld]

end Sys2Proof.Machine

/-!
PROOFS. The Transfer Engine (spec/08): the arbiter's grant, what the ingest ports bring, and the completion of the block in service.
-/

namespace Sys2Proof.Machine

/-! ### The grant (R156, R160, R162, R163) -/

/-- The first of some things in order that has a property. -/
theorem find?_map_finRange {α : Type} {n : Nat} (f : Fin n → α) {p : α → Bool} {i : Fin n} (holds : p (f i) = true)
    (first : ∀ j, p (f j) = true → i.val ≤ j.val) : ((List.finRange n).map f).find? p = some (f i) := by
  rw [List.find?_map, Option.map_eq_some_iff]
  refine ⟨i, ?_, rfl⟩
  rw [List.find?_eq_some_iff_getElem]
  refine ⟨holds, i.val, by simp, by simp, fun j hj => ?_⟩
  simp only [List.getElem_finRange, Function.comp_apply, Bool.not_eq_true', Bool.eq_false_iff]
  intro earlier
  have := first _ earlier
  simp only [Fin.val_cast] at this
  omega

theorem laneTurns_eq (k : Fin 8) : laneTurns k = (List.finRange 8).map fun i => k + 1 + i := by
  revert k
  decide

theorem channelTurns_eq (k : Fin 4) : channelTurns k = (List.finRange 4).map fun i => k + 1 + i := by
  revert k
  decide

theorem laneTurn (k l : Fin 8) : k + 1 + (l - k - 1) = l := by
  revert k l
  decide

theorem laneTurn_sub (k i : Fin 8) : k + 1 + i - k - 1 = i := by
  revert k i
  decide

theorem channelTurn (k c : Fin 4) : k + 1 + (c - k - 1) = c := by
  revert k c
  decide

theorem channelTurn_sub (k i : Fin 4) : k + 1 + i - k - 1 = i := by
  revert k i
  decide

theorem find?_laneTurns {k l : Fin 8} {p : Fin 8 → Bool} (holds : p l = true)
    (first : ∀ m, p m = true → (l - k - 1).val ≤ (m - k - 1).val) : (laneTurns k).find? p = some l := by
  have := find?_map_finRange (fun i => k + 1 + i) (p := p) (i := l - k - 1) (by rw [laneTurn]; exact holds) fun j hj => by
    have := first _ hj
    rwa [laneTurn_sub] at this
  rwa [← laneTurns_eq, laneTurn] at this

theorem find?_channelTurns {k c : Fin 4} {p : Fin 4 → Bool} (holds : p c = true)
    (first : ∀ d, p d = true → (c - k - 1).val ≤ (d - k - 1).val) : (channelTurns k).find? p = some c := by
  have := find?_map_finRange (fun i => k + 1 + i) (p := p) (i := c - k - 1) (by rw [channelTurn]; exact holds) fun j hj => by
    have := first _ hj
    rwa [channelTurn_sub] at this
  rwa [← channelTurns_eq, channelTurn] at this

theorem takeWaiting_eq {older newer : List FrameWrite} {w : FrameWrite} {d : BlockData} {rest : List BlockData}
    (none : ∀ y ∈ older, y.waiting = []) (waiting : w.waiting = d :: rest) : takeWaiting (older ++ w :: newer) =
      some (w.lfn, w.firstBlock + w.granted, d, older ++ { w with granted := w.granted + 1, waiting := rest } :: newer) := by
  induction older with
  | nil => simp only [List.nil_append, takeWaiting, waiting]
  | cons y older ih =>
    rw [List.cons_append, takeWaiting, none y List.mem_cons_self]
    simp only [ih fun z hz => none z (List.mem_cons_of_mem y hz), Option.map_some]
    rfl

section
variable {s : State}

theorem laneWaits_iff {l : Fin 8} : s.laneWaits l = true ↔ ∃ w ∈ s.ingest l, w.waiting ≠ [] := by
  simp [State.laneWaits]

theorem fetchWaits_iff {c : Fin 4} : s.fetchWaits c = true ↔ ∃ f, s.fetchOf c = some f ∧ f.granted < f.size := by
  simp [State.fetchWaits, Option.any_eq_true]

theorem grant_of_busy (busy : s.xfer.service ≠ none) : s.grant = s := by
  rw [State.grant, if_pos (Option.isSome_iff_ne_none.mpr busy)]

theorem grant_of_idle (idle : s.xfer.service = none) : s.grant =
    match (laneTurns s.xfer.lastLane).find? s.laneWaits with
    | some l => s.grantLane l
    | none => match (channelTurns s.xfer.lastChannel).find? s.fetchWaits with
      | some c => s.grantFetch c
      | none => if s.exportWaits then s.grantExport else s := by
  rw [State.grant, if_neg (by simp [idle])] <;> rfl

theorem grant_lane (idle : s.xfer.service = none) {l : Fin 8} (waits : s.laneWaits l = true)
    (first : ∀ m, s.laneWaits m = true → (l - s.xfer.lastLane - 1).val ≤ (m - s.xfer.lastLane - 1).val) :
    s.grant = s.grantLane l := by
  simp only [grant_of_idle idle, find?_laneTurns waits first]

theorem grant_fetch (idle : s.xfer.service = none) (lanes : ∀ l, s.laneWaits l = false) {c : Fin 4}
    (waits : s.fetchWaits c = true)
    (first : ∀ d, s.fetchWaits d = true → (c - s.xfer.lastChannel - 1).val ≤ (d - s.xfer.lastChannel - 1).val) :
    s.grant = s.grantFetch c := by
  have noLane : (laneTurns s.xfer.lastLane).find? s.laneWaits = none := List.find?_eq_none.mpr fun l _ => by simp [lanes l]
  simp only [grant_of_idle idle, noLane, find?_channelTurns waits first]

theorem grant_export (idle : s.xfer.service = none) (lanes : ∀ l, s.laneWaits l = false)
    (fetches : ∀ c, s.fetchWaits c = false) : s.grant = if s.exportWaits then s.grantExport else s := by
  have noLane : (laneTurns s.xfer.lastLane).find? s.laneWaits = none := List.find?_eq_none.mpr fun l _ => by simp [lanes l]
  have noFetch : (channelTurns s.xfer.lastChannel).find? s.fetchWaits = none :=
    List.find?_eq_none.mpr fun c _ => by simp [fetches c]
  simp only [grant_of_idle idle, noLane, noFetch]

theorem exportWaits_iff (idle : s.xfer.service = none) : s.exportWaits = true ↔ s.xrdy = true ∧ s.xfer.exportRead ≠ none := by
  simp [State.exportWaits, State.exportServed, idle, Option.isSome_iff_ne_none]

end

/-- Settles O48. -/
theorem theArbiterGrantsByClassAndTurn : Obligations.TheArbiterGrantsByClassAndTurn := by
  unfold Obligations.TheArbiterGrantsByClassAndTurn
  intro s laneWaits fetchWaits
  refine ⟨grant_of_busy, fun idle => ⟨fun l older w newer d rest queue none waiting first => ?_, fun lanes =>
    ⟨fun c f fetch waits first => ?_, fun fetches => ⟨fun r ready read => ?_, fun quiet => ?_⟩⟩⟩⟩
  · have waits : s.laneWaits l = true := laneWaits_iff.mpr ⟨w, by simp [queue], by simp [waiting]⟩
    rw [grant_lane idle waits fun m hm => first m (laneWaits_iff.mp hm)]
    simp only [State.grantLane, queue, takeWaiting_eq none waiting]
    rfl
  · have noLane (l : Fin 8) : s.laneWaits l = false := Bool.eq_false_iff.mpr fun h => lanes l (laneWaits_iff.mp h)
    rw [grant_fetch idle noLane (fetchWaits_iff.mpr ⟨f, fetch, waits⟩) fun e he => first e (fetchWaits_iff.mp he)]
    simp only [State.grantFetch, fetch]
    by_cases begins : f.granted = 0
    · simp only [if_pos begins]
      rfl
    · simp only [if_neg begins]
      rfl
  · have noLane (l : Fin 8) : s.laneWaits l = false := Bool.eq_false_iff.mpr fun h => lanes l (laneWaits_iff.mp h)
    have noFetch (c : Fin 4) : s.fetchWaits c = false := Bool.eq_false_iff.mpr fun h => fetches c (fetchWaits_iff.mp h)
    rw [grant_export idle noLane noFetch, if_pos ((exportWaits_iff idle).mpr ⟨ready, by simp [read]⟩)]
    have granted : s.grantExport = s.setService (some { block := r.block, use := .exportRead }) := by
      simp only [State.grantExport, read]
    rw [granted]
    rfl
  · have noLane (l : Fin 8) : s.laneWaits l = false := Bool.eq_false_iff.mpr fun h => lanes l (laneWaits_iff.mp h)
    have noFetch (c : Fin 4) : s.fetchWaits c = false := Bool.eq_false_iff.mpr fun h => fetches c (fetchWaits_iff.mp h)
    rw [grant_export idle noLane noFetch, if_neg ?_]
    rw [exportWaits_iff idle]
    rintro ⟨ready, read⟩
    rcases quiet with off | none
    · rw [off] at ready
      cases ready
    · exact read none

/-! ### Frame writes of a lane (R156 to R158) -/

section
variable {s : State} {l : Fin 8} {lfn : Nat} {older newer : List FrameWrite} {w : FrameWrite}

theorem setIngest_setIngest (s : State) (l : Fin 8) (q r : List FrameWrite) : (s.setIngest l q).setIngest l r = s.setIngest l r := by
  simp [State.setIngest]

/-- A change to the write of an LFN, at its place in the queue. -/
theorem modifyWrite_eq (queue : s.ingest l = older ++ w :: newer) (isLfn : w.lfn = lfn) (others : ∀ y ∈ older ++ newer, y.lfn ≠ lfn)
    (f : FrameWrite → FrameWrite) : s.modifyWrite l lfn f = s.setIngest l (older ++ f w :: newer) := by
  have keep {ys : List FrameWrite} (h : ∀ y ∈ ys, y.lfn ≠ lfn) : (ys.map fun y => if y.lfn = lfn then f y else y) = ys :=
    (List.map_congr_left fun y hy => if_neg (h y hy)).trans (List.map_id' ys)
  rw [State.modifyWrite, queue, List.map_append, List.map_cons, keep fun y hy => others y (List.mem_append_left _ hy),
    keep fun y hy => others y (List.mem_append_right _ hy), if_pos isLfn]

theorem finishWrite_eq (queue : s.ingest l = older ++ w :: newer) (isLfn : w.lfn = lfn) (others : ∀ y ∈ older ++ newer, y.lfn ≠ lfn) :
    s.finishWrite l lfn =
      if w.ended = true ∧ w.done = w.size then (s.setIngest l (older ++ newer)).writeCompleted l lfn else s := by
  have found : (older ++ w :: newer).find? (fun y => y.lfn == lfn) = some w := by
    rw [List.find?_append, List.find?_eq_none.mpr fun y hy => by simpa using others y (List.mem_append_left _ hy)]
    simp [isLfn]
  have keep {ys : List FrameWrite} (h : ∀ y ∈ ys, y.lfn ≠ lfn) : ys.filter (fun y => y.lfn != lfn) = ys :=
    List.filter_eq_self.mpr fun y hy => by simpa using h y hy
  have rest : (older ++ w :: newer).filter (fun y => y.lfn != lfn) = older ++ newer := by
    rw [List.filter_append, List.filter_cons_of_neg (by simp [isLfn]), keep fun y hy => others y (List.mem_append_left _ hy),
      keep fun y hy => others y (List.mem_append_right _ hy)]
  simp only [State.finishWrite, queue, found, rest, FrameWrite.complete, Bool.and_eq_true, beq_iff_eq]

/-- A change to the write of an LFN that may complete it. -/
theorem finishWrite_modifyWrite (queue : s.ingest l = older ++ w :: newer) (isLfn : w.lfn = lfn)
    (others : ∀ y ∈ older ++ newer, y.lfn ≠ lfn) {f : FrameWrite → FrameWrite} (keeps : (f w).lfn = w.lfn) :
    (s.modifyWrite l lfn f).finishWrite l lfn =
      if (f w).ended = true ∧ (f w).done = (f w).size then (s.setIngest l (older ++ newer)).writeCompleted l lfn
      else s.setIngest l (older ++ f w :: newer) := by
  rw [modifyWrite_eq queue isLfn others, finishWrite_eq (State.ingest_setIngest _ _ _) (keeps.trans isLfn) others,
    setIngest_setIngest]

end

/-- An entry is GOOD after its write completion (R30). -/
def Lane.written (x : Lane) (lfn : Nat) : Lane := x.modifyEntry lfn fun e => { e with status := .good }

theorem writeCompleted_eq (s : State) (l : Fin 8) (lfn : Nat) :
    s.writeCompleted l lfn = (s.setLane l ((s.lane l).written lfn)).settleStopping l := rfl

theorem setLane_self (s : State) (l : Fin 8) : s.setLane l (s.lane l) = s := by
  simp only [State.setLane, State.lane]
  rw [show s.lanes.set l s.lanes[l] = s.lanes from Vector.set_getElem_self _]

/-- Settles O49. -/
theorem ingestPortsFeedTheirWrites : Obligations.IngestPortsFeedTheirWrites := by
  unfold Obligations.IngestPortsFeedTheirWrites
  intro s l running x ported
  have delivered (d : BlockData) : exec (.ingestBlockDelivered l d) s = .next (s.blockDelivered l d) := by
    simp [exec, execIngestBlockDelivered, State.whenRunning, running]
  refine ⟨fun lfn n d taking => ⟨fun room => ?_, fun full => ?_⟩,
    fun frame lfn port unended older w newer ends queue isLfn others => ?_, fun lfn => ?_, fun quiet => ⟨fun d => ?_, fun fault => ?_⟩,
    fun lfn fault notTaken notUnended => ?_⟩
  · rw [delivered]
    simp only [State.blockDelivered, show (s.lane l).port = _ from taking, if_pos (show n < (s.lane l).s from room)]
    rfl
  · rw [delivered]
    simp only [State.blockDelivered, show (s.lane l).port = _ from taking, if_neg (show ¬n < (s.lane l).s from Nat.not_lt.mpr full)]
    rfl
  · intro ended
    have taken : s.frameEnds l { frame, streamFault := false } =
        (ended.modifyWrite l lfn fun w => { w with ended := true }).finishWrite l lfn := by
      rw [State.frameEnds_of_ends ends]
      exact if_neg (by simp [x])
    have step := finishWrite_modifyWrite (s := ended) (l := l) (f := fun w => { w with ended := true }) queue isLfn others rfl
    refine ⟨fun open_ => ?_, fun complete => ?_⟩
    · rw [exec_frameEnd running, taken, step, if_neg fun h => open_ h.2]
    · rw [exec_frameEnd running, taken, step, if_pos ⟨rfl, complete⟩]
  · intro entries t
    have isT : t = (s.setLane l (x.written lfn)).settleStopping l := writeCompleted_eq s l lfn
    have stops : (x.written lfn).state = .stopping ∧ (x.written lfn).writing = 0 ↔
        x.state = .stopping ∧ ∀ e ∈ entries, e.status ≠ .writing := by
      rw [writing_eq_zero_iff]
      rfl
    refine ⟨?_, fun m other => ?_, ?_⟩
    · rw [isT, settleStopping_lane, State.lane_setLane]
      simp only [stops, true_and]
      by_cases settles : x.state = .stopping ∧ ∀ e ∈ entries, e.status ≠ .writing
      · rw [if_pos settles, if_pos settles]
        rfl
      · rw [if_neg settles, if_neg settles]
        rfl
    · rw [isT, settleStopping_lane, if_neg fun h => other h.1.symm, State.lane_setLane_ne _ _ (Ne.symm other)]
    · obtain ⟨own, bytes, settle⟩ := settleStopping_posts (s.setLane l (x.written lfn)) l
      rw [State.lane_setLane] at bytes settle
      simp only [stops] at settle
      refine ⟨own, bytes, ?_⟩
      have cause : (x.written lfn).stoppedData own (x.written lfn).stopCause.code =
          x.stoppedData own (if x.stopCause = .recStop then 0 else 1) := by
        have code : x.stopCause.code = if x.stopCause = .recStop then 0 else 1 := by cases x.stopCause <;> rfl
        rw [← code]
        rfl
      rw [isT, settle, cause]
      split
      · rw [setLane_setLane]
        exact State.setLane_posts_withLanes _ _ _ _
      · rfl
  · rw [delivered]
    rcases quiet with dropping | idle
    · simp only [State.blockDelivered, show (s.lane l).port = _ from dropping]
    · simp only [State.blockDelivered, show (s.lane l).port = _ from idle]
  · have taken : (s.lane l).takenFrame none = none := by
      rcases quiet with dropping | idle
      · simp only [Lane.takenFrame_none, show (s.lane l).port = _ from dropping, PortFrame.taken]
      · simp only [Lane.takenFrame_none, show (s.lane l).port = _ from idle, PortFrame.taken]
    rw [exec_frameEnd running]
    simp only [State.frameEnds, State.endDamaged, taken]
    rfl
  · have notPort : ∀ f ∈ (s.lane l).port.taken, f.lfn ≠ lfn := by
      intro f isF
      cases port : (s.lane l).port with
      | idle => simp [port, PortFrame.taken] at isF
      | dropping => simp [port, PortFrame.taken] at isF
      | taking n k =>
        simp only [port, PortFrame.taken, Option.mem_def, Option.some.injEq] at isF
        subst isF
        rintro rfl
        exact notTaken k port
    have taken : (s.lane l).takenFrame (some lfn) = none := by
      rw [Lane.takenFrame, List.find?_eq_none]
      intro f isF
      rw [List.mem_append, Option.mem_toList] at isF
      simp only [beq_iff_eq]
      exact isF.elim (notUnended f) (notPort f)
    have keeps : (s.lane l).frameEnded (some lfn) = s.lane l := by
      have noPort : ((s.lane l).port.taken.any fun f => f.lfn == lfn) = false := by
        rw [Option.any_eq_false]
        intro f isF
        simpa using notPort f isF
      have noOlder : (s.lane l).unended.filter (fun f => f.lfn != lfn) = (s.lane l).unended :=
        List.filter_eq_self.mpr fun f isF => by simpa using notUnended f isF
      simp only [Lane.frameEnded, noPort, noOlder]
      rfl
    rw [exec_frameEnd running]
    simp only [State.frameEnds, State.endDamaged, taken, State.modifyLane, keeps]
    exact congrArg Host.Outcome.next (setLane_self s l)

/-! ### The block in service (R158 to R166) -/

theorem exec_blockCompletion {s : State} {v : InService} (running : s.resetHeld = false) (service : s.xfer.service = some v)
    (inStore : v.block < 262144) (good : Bool) :
    exec (.blockCompletion good) s = .next ((s.finishBlock v good).setService none).grant := by
  simp only [exec, execBlockCompletion, service, running, Bool.false_eq_true, if_false, if_neg (Nat.not_le.mpr inStore)]

theorem fetchFailed_eq (s : State) (c : Fin 4) (f : FrameRef) : s.fetchFailed c f =
    ((((s.setOutPort c { s.outPort c with staging := none }).setFetch c none).removeClaim f.lane f.lfn).setChannel c
      { s.channel c with fetch := none }).setFlag c .store := rfl

/-- Settles O50. -/
theorem blockCompletionsReachTheirRequester : Obligations.BlockCompletionsReachTheirRequester := by
  unfold Obligations.BlockCompletionsReachTheirRequester
  intro s v good running service done written unclaimed failed
  refine ⟨fun outside => ?_, fun inStore => ?_, fun d b => ?_⟩
  · simp only [exec, execBlockCompletion, service, running, Bool.false_eq_true, if_false, if_pos outside]
  · have step {t : State} (h : s.finishBlock v good = t) : exec (.blockCompletion good) s = done t := by
      rw [exec_blockCompletion running service inStore, h]
      rfl
    refine ⟨fun l lfn d older w newer use queue isLfn others => ?_, fun c k f use fetch => ?_, fun r use read => ?_,
      fun d use => ?_, fun use => ?_⟩
    · refine step ?_
      simp only [State.finishBlock, use, State.writeBlockDone]
      exact finishWrite_modifyWrite (s := s.writeBlock v.block d) queue isLfn others rfl
    · intro port streamed
      have fetched : s.finishBlock v good = s.fetchBlockDone c v.block k good := by simp only [State.finishBlock, use]
      refine ⟨fun isGood more => step ?_, fun isGood last => step ?_, fun isBad => step ?_⟩
      · rw [fetched]
        simp only [State.fetchBlockDone, fetch, isGood, if_true, if_neg more]
        rfl
      · rw [fetched]
        simp only [State.fetchBlockDone, fetch, isGood, if_true, if_pos last]
        rfl
      · rw [fetched]
        have outPort : (failed s f.frame.lane f.frame.lfn k c.val).outPort c = s.outPort c := by
          simp only [failed, State.outPort, State.post_outPorts]
        have record : (failed s f.frame.lane f.frame.lfn k c.val).channel c = s.channel c :=
          State.channel_congr (State.post_channels _ _ _ _ _) c
        have fails : s.fetchBlockDone c v.block k good = (failed s f.frame.lane f.frame.lfn k c.val).fetchFailed c f.frame := by
          simp only [State.fetchBlockDone, fetch, isBad, Bool.false_eq_true, if_false]
          rfl
        rw [fails, fetchFailed_eq, outPort, record]
        rfl
    · intro sent
      have exported : s.finishBlock v good = s.exportReadDone v.block good := by simp only [State.finishBlock, use]
      refine ⟨fun isGood => step ?_, fun isBad => step ?_⟩
      · rw [exported]
        simp only [State.exportReadDone, read, isGood, if_true]
        rfl
      · rw [exported]
        simp only [State.exportReadDone, read, isBad, Bool.false_eq_true, if_false]
        rfl
    · exact step (by simp only [State.finishBlock, use]; rfl)
    · exact step (by simp only [State.finishBlock, use])
  · simp only [State.readBlock, written, Sparse.lookup_insert]
    by_cases same : b = v.block
    · simp [same]
    · simp [same, Ne.symm same]

end Sys2Proof.Machine

/-!
PROOFS. Clip Export (spec/09): EXPORT START, the walk and its records, block completions, and the ends of an export.
-/

namespace Sys2Proof.Machine

/-! ### Clip records written twice -/

theorem Sparse.insert_insert {α : Type} (t : List (Nat × α)) (n : Nat) (v w : α) :
    Sparse.insert (Sparse.insert t n v) n w = Sparse.insert t n w := by
  induction t with
  | nil => simp [Sparse.insert]
  | cons e t ih =>
    obtain ⟨k, u⟩ := e
    simp only [Sparse.insert]
    split
    · simp [Sparse.insert]
    · split
      · simp [Sparse.insert]
      · next notBelow notSame => simp only [Sparse.insert, if_neg notBelow, if_neg notSame, ih]

theorem setClip_of_used (s : State) (n : Nat) {c : Clip} (used : c.state ≠ .free) :
    s.setClip n c = { s with clips := Sparse.insert s.clips n c } := if_neg used

theorem setClip_setClip (s : State) (n : Nat) {c d : Clip} (hc : c.state ≠ .free) (hd : d.state ≠ .free) :
    (s.setClip n c).setClip n d = s.setClip n d := by
  simp only [setClip_of_used _ _ hc, setClip_of_used _ _ hd, Sparse.insert_insert]

theorem takeClip_setClip (s : State) (n : Nat) {c : Clip} (used : c.state ≠ .free) :
    (s.setClip n c).takeClip n = s.setClip n { c with useCount := c.useCount + 1 } := by
  have record : (s.setClip n c).clip n = c := clip_setClip_same s n used
  rw [State.takeClip, State.modifyClip, record, if_neg used, setClip_setClip s n used (by exact used)]

/-! ### The ends of an export (R176) -/

section
variable {s : State}

theorem relax_eq (s : State) (n : Nat) (c : Clip) : s.relax n c = match c.locked, c.range with
    | false, some r => (s.setClip n c).release c.lane r
    | _, _ => s.setClip n c := by
  cases locked : c.locked <;> cases range : c.range <;> simp [State.relax, locked, range]

theorem clip_relax (s : State) (n : Nat) {c : Clip} (used : c.state ≠ .free) : (s.relax n c).clip n = c := by
  rw [relax_eq]
  split
  · exact (State.clip_congr rfl n).trans (clip_setClip_same s n used)
  · exact clip_setClip_same s n used

/-- A frame's trailer, and its claim removed (R173 to R175). -/
def State.trailed (s : State) (lfn : Nat) (damaged : Bool) : State :=
  { s.setLane s.exporter.lane { s.lane s.exporter.lane with
      entries := (s.lane s.exporter.lane).entries.map fun i => if i.lfn = lfn then { i with readCount := i.readCount - 1 } else i } with
    exporter := { s.exporter with
      sent := s.exporter.sent + 1, damaged := if damaged then s.exporter.damaged + 1 else s.exporter.damaged, frame := none }
    emitted := s.emitted ++ [.portRecord ([3] ++ lfnBytes lfn ++ [if damaged then 1 else 0])] }

theorem flagBytes_eq (b : Bool) : flagBytes b = [if b then 1 else 0] := by
  cases b <;> rfl

theorem endFrame_eq (s : State) (f : ExportFrame) (damaged : Bool) : s.endFrame f damaged = s.trailed f.lfn damaged := by
  have record : trailerRecord f.lfn damaged = [3] ++ lfnBytes f.lfn ++ [if damaged then 1 else 0] := by
    rw [trailerRecord, flagBytes_eq]
    rfl
  simp only [State.endFrame, record]
  rfl

end

/-! ### The walk (R172) -/

section
variable {s : State}

theorem goodAt_of_mem {x : Lane} {en : Entry} {n : Nat} (rising : x.entries.Pairwise fun i j => i.lfn < j.lfn)
    (mem : en ∈ x.entries) (isLfn : en.lfn = n) (good : en.status = .good) : x.goodAt n = some en := by
  obtain ⟨older, newer, split⟩ := List.append_of_mem mem
  have before : older.find? (fun e => e.lfn == n && e.isGood) = none := List.find?_eq_none.mpr fun y hy => by
    have : y.lfn < en.lfn := (List.pairwise_append.mp (split ▸ rising)).2.2 y hy en (by simp)
    simp [isLfn ▸ this.ne]
  rw [Lane.goodAt, split, List.find?_append, before]
  simp [isLfn, Entry.isGood, good]

theorem goodAt_none {x : Lane} {n : Nat} (lacks : ∀ en ∈ x.entries, en.lfn = n → en.status ≠ .good) : x.goodAt n = none :=
  List.find?_eq_none.mpr fun en mem => by
    simp only [Bool.and_eq_true, beq_iff_eq, Entry.isGood, not_and]
    exact lacks en mem

theorem walkOn_eq (inRange : s.exporter.next ≤ s.exporter.last) : s.walkOn =
    match (s.lane s.exporter.lane).goodAt s.exporter.next with
    | some en => s.beginFrame en
    | none =>
      if s.exporter.next = s.exporter.last then s.sendGap.endExport .complete
      else (s.sendGap.setExporter { s.sendGap.exporter with next := s.exporter.next + 1 }).walkOn := by
  have fuel : s.exporter.last + 1 - s.exporter.next = (s.exporter.last - s.exporter.next) + 1 := by omega
  have rest : (s.sendGap.setExporter { s.sendGap.exporter with next := s.exporter.next + 1 }).walkOn =
      (s.sendGap.setExporter { s.sendGap.exporter with next := s.exporter.next + 1 }).walk
        (s.exporter.last - s.exporter.next) := by
    show State.walk (s.exporter.last + 1 - (s.exporter.next + 1)) _ = _
    rw [Nat.add_sub_add_right]
  rw [State.walkOn, fuel, State.walk, rest] <;> rfl

/-- A frame begun: its claim, its header and its first block read (R172). -/
theorem beginFrame_eq (s : State) {en : Entry} {n : Nat} (isLfn : en.lfn = n) : s.beginFrame en =
    State.grant { s.setLane s.exporter.lane { s.lane s.exporter.lane with
        entries := (s.lane s.exporter.lane).entries.map fun i => if i.lfn = n then { i with readCount := i.readCount + 1 } else i } with
      exporter := { s.exporter with frame := some { lfn := n, slot := en.slot, sent := 0, failed := false } }
      emitted := s.emitted ++ [.portRecord ([2] ++ lfnBytes n ++ en.timecode.bytes ++ leBytes 1 en.phase ++
        leBytes 1 (s.lane s.exporter.lane).s)]
      xfer := { s.xfer with
        exportRead := some { block := (s.lane s.exporter.lane).base + en.slot * (s.lane s.exporter.lane).s, lane := s.exporter.lane,
                             lfn := n, index := 0 } } } := by
  subst isLfn
  have lane : (s.placeClaim s.exporter.lane en.lfn).lane s.exporter.lane =
      (s.lane s.exporter.lane).modifyEntry en.lfn fun e => { e with readCount := e.readCount + 1 } := State.lane_setLane _ _ _
  have size : ((s.placeClaim s.exporter.lane en.lfn).lane s.exporter.lane).s = (s.lane s.exporter.lane).s := by rw [lane]; rfl
  have block : ((s.placeClaim s.exporter.lane en.lfn).lane s.exporter.lane).slotBlock en.slot + 0 =
      (s.lane s.exporter.lane).base + en.slot * (s.lane s.exporter.lane).s := by rw [lane]; rfl
  show State.grant (State.setExportRead _ (some {
    block := ((s.placeClaim s.exporter.lane en.lfn).lane s.exporter.lane).slotBlock en.slot + 0
    lane := s.exporter.lane
    lfn := en.lfn
    index := 0 })) = _
  rw [block]
  refine congrArg State.grant ?_
  show State.setExportRead (State.emit (State.setExporter (s.placeClaim s.exporter.lane en.lfn) _) (.portRecord (headerRecord en.lfn en.timecode en.phase
    ((s.placeClaim s.exporter.lane en.lfn).lane s.exporter.lane).s))) _ = _
  rw [size]
  rfl

end

/-- Settles O52. -/
theorem theWalkSendsGapsAndBeginsFrames : Obligations.TheWalkSendsGapsAndBeginsFrames := by
  unfold Obligations.TheWalkSendsGapsAndBeginsFrames
  intro s e x gapped
  refine ⟨fun inRange rising => ⟨fun en mem isLfn good => ?_, fun lacks => ?_⟩, fun r used => ?_⟩
  · have found : (s.lane s.exporter.lane).goodAt s.exporter.next = some en := goodAt_of_mem rising mem isLfn good
    rw [walkOn_eq inRange]
    simp only [found]
    exact beginFrame_eq s isLfn
  · have missing : (s.lane s.exporter.lane).goodAt s.exporter.next = none := goodAt_none lacks
    refine ⟨fun last => ?_, fun more => ?_⟩
    · rw [walkOn_eq inRange]
      simp only [missing]
      exact if_pos last
    · rw [walkOn_eq inRange]
      simp only [missing]
      exact if_neg (Nat.ne_of_lt more)
  · intro c unlocked record t1 t2 t3
    have isT2 : State.relax { s with emitted := s.emitted ++ [.portRecord record] } e.clip unlocked = t2 := by
      rw [relax_eq]
      have locked : unlocked.locked = c.opLock := Bool.or_false _
      simp only [locked, t2, t1] <;> rfl
    have isClip : t2.clip e.clip = unlocked := by
      rw [← isT2]
      exact clip_relax _ _ used
    have leaves : t2.leaveClip e.clip = t2.setClip e.clip { unlocked with useCount := c.useCount - 1 } := by
      rw [State.leaveClip, State.modifyClip, isClip, if_neg (by exact used)]
    have data : exportEndData e r =
        leBytes 4 e.tag ++ leBytes 1 r.code ++ leBytes 2 (min e.damaged.toNat 65535) ++ [if e.gapSent then 1 else 0] := by
      rw [exportEndData, flagBytes_eq]
    rw [← data]
    show State.post (State.setExporter (State.leaveClip (State.relax { s with emitted := s.emitted ++ [.portRecord record] } e.clip
      unlocked) e.clip) _) .exporting 0 e.clip (exportEndData e r) = _
    rw [isT2, leaves]
    rfl

/-! ### Block completions at the Export Channel (R173, R175) -/

/-- Settles O53. -/
theorem exportBlocksMakeUpFrames : Obligations.ExportBlocksMakeUpFrames := by
  unfold Obligations.ExportBlocksMakeUpFrames
  intro s good f frame e x bad ended
  let f' : ExportFrame := { f with sent := f.sent + 1, failed := bad }
  have isEnded (damaged : Bool) : (s.setExporter { s.exporter with frame := some f' }).endFrame f' damaged = ended damaged := by
    rw [endFrame_eq]
    rfl
  have done : s.exportBlockDone good =
      if s.exporter.abort then ((s.setExporter { s.exporter with frame := some f' }).endFrame f' true).endExport .aborted
      else if f.sent + 1 < (s.lane s.exporter.lane).s then
        (s.setExporter { s.exporter with frame := some f' }).handExportRead s.exporter.lane f.lfn f.slot (f.sent + 1)
      else if f.lfn = s.exporter.last then
        ((s.setExporter { s.exporter with frame := some f' }).endFrame f' bad).endExport .complete
      else State.walkOn (((s.setExporter { s.exporter with frame := some f' }).endFrame f' bad).setExporter
        { ((s.setExporter { s.exporter with frame := some f' }).endFrame f' bad).exporter with next := f.lfn + 1 }) := by
    simp only [State.exportBlockDone, frame]
    rfl
  refine ⟨fun abort => ?_, fun keep more => ?_, fun keep last => ⟨fun isLast => ?_, fun notLast => ?_⟩⟩
  · rw [done, if_pos (by exact abort), isEnded]
  · rw [done, if_neg (by rw [show s.exporter.abort = _ from keep]; decide), if_pos (by exact more)]
    rfl
  · rw [done, if_neg (by rw [show s.exporter.abort = _ from keep]; decide), if_neg (Nat.not_lt.mpr last), if_pos (by exact isLast), isEnded]
  · rw [done, if_neg (by rw [show s.exporter.abort = _ from keep]; decide), if_neg (Nat.not_lt.mpr last), if_neg (by exact notLast), isEnded]
    rfl

/-! ### Stalls, XRDY, and the commands (R162, R174, R175, R177) -/

section
variable {s : State}

theorem exportHeld_iff : s.exportHeld = true ↔ s.exporter.state = .running ∧ s.xrdy = false ∧ s.xfer.exportRead ≠ none ∧
    ∀ v, s.xfer.service = some v → v.use ≠ .exportRead := by
  have served : s.exportServed = false ↔ ∀ v, s.xfer.service = some v → v.use ≠ .exportRead := by
    simp [State.exportServed, Option.any_eq_false]
  simp only [State.exportHeld, Bool.and_eq_true, beq_iff_eq, Bool.not_eq_true', Option.isSome_iff_ne_none, served, and_assoc]

theorem Exporter.reachesLimit_iff (e : Exporter) :
    e.reachesLimit = true ↔ 0 < e.limit ∧ e.limit ≤ min 255 (e.stall + 1) := by
  simp [Exporter.reachesLimit, Exporter.counted]

end

/-- Settles O54. -/
theorem stallsAbortsAndTheReadyInput : Obligations.StallsAbortsAndTheReadyInput := by
  unfold Obligations.StallsAbortsAndTheReadyInput
  intro s h e x held count limited result stalled
  have isHeld : s.exportHeld = true ↔ held := exportHeld_iff
  have isLimited : s.exporter.reachesLimit = true ↔ limited := Exporter.reachesLimit_iff e
  have ends (f : ExportFrame) (isHeldNow : held) (isLimitedNow : limited) (frame : e.frame = some f) : s.exporterTick = stalled f := by
    have isFrame : s.exporter.frame = some f := frame
    have trailed : ((s.setExporter { s.exporter with stall := s.exporter.counted }).setExportRead none).endFrame f true =
        { s.setLane e.lane { x with
            entries := x.entries.map fun i => if i.lfn = f.lfn then { i with readCount := i.readCount - 1 } else i } with
          exporter := { e with stall := count, sent := e.sent + 1, damaged := e.damaged + 1, frame := none }
          xfer := { s.xfer with exportRead := none }
          emitted := s.emitted ++ [.portRecord ([3] ++ lfnBytes f.lfn ++ [1])] } := by
      rw [endFrame_eq]
      rfl
    have tick : s.exporterTick =
        (((s.setExporter { s.exporter with stall := s.exporter.counted }).setExportRead none).endFrame f true).endExport result := by
      simp only [State.exporterTick, if_pos (isHeld.mpr isHeldNow), if_pos (isLimited.mpr isLimitedNow), State.stallEnd]
      show (match s.exporter.frame with
        | none => _
        | some f => _) = _
      rw [isFrame]
      rfl
    rw [tick, trailed]
  refine ⟨fun running => ⟨?_, fun f isHeldNow isLimitedNow frame => ?_, fun not => ?_⟩, rfl, fun notHeld => ?_,
    fun isHeldNow notLimited => ?_, ends, fun ready => ⟨fun idle => ?_, fun runs => ?_⟩, fun limit ready => ⟨fun small => ?_, fun large => ?_⟩⟩
  · simp only [exec, execXrdyAsserted, State.whenRunning, running]
    rfl
  · have both : (s.exportHeld && s.exporter.reachesLimit) = true := by
      rw [Bool.and_eq_true]
      exact ⟨isHeld.mpr isHeldNow, isLimited.mpr isLimitedNow⟩
    simp only [exec, execExportStall, State.whenRunning, running, both, if_true]
    exact congrArg Host.Outcome.next (ends f isHeldNow isLimitedNow frame)
  · have notBoth : ¬(s.exportHeld && s.exporter.reachesLimit) = true := by
      rw [Bool.and_eq_true, isHeld, isLimited]
      exact not
    simp only [exec, execExportStall, State.whenRunning, running, if_neg notBoth]
    rfl
  · show s.exporterTick = s
    rw [State.exporterTick, if_neg (mt isHeld.mp notHeld)]
  · show s.exporterTick = _
    simp only [State.exporterTick, if_pos (isHeld.mpr isHeldNow), if_neg (mt isLimited.mp notLimited)]
    rfl
  · rw [exec_of_ready rfl ready]
    simp only [requestOf, if_pos (show s.exporter.state = .idle from idle)]
    rfl
  · rw [exec_of_ready rfl ready]
    simp only [requestOf, if_neg (show ¬s.exporter.state = .idle by rw [show s.exporter.state = _ from runs]; decide)]
    rfl
  · rw [exec_of_ready rfl ready]
    simp only [requestOf, if_pos small]
    rfl
  · rw [exec_of_ready rfl ready]
    simp only [requestOf, if_neg (Nat.not_le.mpr large)]
    rfl

end Sys2Proof.Machine

/-!
PROOFS. EXPORT START (spec/09, R170, R171).
-/

namespace Sys2Proof.Machine

/-! ### What the walk keeps of the record -/

theorem grantLane_exporter (s : State) (l : Fin 8) : (s.grantLane l).exporter = s.exporter := by
  simp only [State.grantLane]
  split <;> rfl

theorem grantFetch_exporter (s : State) (c : Fin 4) : (s.grantFetch c).exporter = s.exporter := by
  simp only [State.grantFetch]
  split
  · rfl
  · split <;> rfl

theorem grantExport_exporter (s : State) : s.grantExport.exporter = s.exporter := by
  simp only [State.grantExport]
  split <;> rfl

theorem grant_exporter (s : State) : s.grant.exporter = s.exporter := by
  unfold State.grant
  split
  · rfl
  · split
    · exact grantLane_exporter s _
    · split
      · exact grantFetch_exporter s _
      · split
        · exact grantExport_exporter s
        · rfl

/-- The first and last LFN of the export are those of its start. -/
def Exporter.SamePoints (e f : Exporter) : Prop := f.first = e.first ∧ f.last = e.last

theorem beginFrame_points (s : State) (en : Entry) : s.exporter.SamePoints (s.beginFrame en).exporter := by
  rw [beginFrame_eq s rfl, grant_exporter]
  exact ⟨rfl, rfl⟩

theorem endExport_points (s : State) (r : ExportResult) : s.exporter.SamePoints (s.endExport r).exporter := by
  simp only [State.endExport, State.post_exporter]
  exact ⟨rfl, rfl⟩

theorem walk_points (fuel : Nat) (s : State) : s.exporter.SamePoints (s.walk fuel).exporter := by
  induction fuel generalizing s with
  | zero => exact ⟨rfl, rfl⟩
  | succ fuel ih =>
    rw [State.walk]
    split
    · exact beginFrame_points s _
    · by_cases last : s.sendGap.exporter.next = s.sendGap.exporter.last
      · simp only [if_pos last]
        exact endExport_points s.sendGap .complete
      · simp only [if_neg last]
        exact ih (s.sendGap.setExporter { s.sendGap.exporter with next := s.sendGap.exporter.next + 1 })

/-! ### EXPORT START (R170, R171) -/

/-- The record of an export that starts (R171). -/
def Exporter.starting (e : Exporter) (n a b tag : Nat) (c : Clip) : Exporter :=
  { e with state := .running, clip := n, lane := c.lane, fromOffset := a, toOffset := b, tag, first := c.inLfn + a,
           last := c.inLfn + b, next := c.inLfn + a, abort := false, sent := 0, gaps := 0, gapSent := false, damaged := 0,
           stall := 0 }

section
variable {s t : State} {n a b tag : Nat} {c : Clip}

theorem startExport_eq (used : c.state ≠ .free) :
    (t.setClip n c).startExport n a b tag =
      State.walkOn { t.setClip n { c with useCount := c.useCount + 1 } with
        exporter := t.exporter.starting n a b tag c
        emitted := t.emitted ++ [.portRecord ([1] ++ leBytes 4 tag ++ leBytes 2 n ++ leBytes 1 c.lane.val ++
          lfnBytes (c.inLfn + a) ++ lfnBytes (c.inLfn + b))] } := by
  have record : (t.setClip n { c with useCount := c.useCount + 1 }).clip n = { c with useCount := c.useCount + 1 } :=
    clip_setClip_same t n used
  simp only [State.startExport, takeClip_setClip t n used, record]
  rw [setClip_of_used t n (by exact used)]
  rfl

theorem startExport_points (used : c.state ≠ .free) :
    ((t.setClip n c).startExport n a b tag).exporter.first = c.inLfn + a ∧
      ((t.setClip n c).startExport n a b tag).exporter.last = c.inLfn + b := by
  rw [startExport_eq used]
  exact walk_points _ _

theorem admitLock_exporter {l : Fin 8} {r : LfnRange} (h : s.admitLock l r = some t) : t.exporter = s.exporter := by
  simp only [State.admitLock, Option.ite_none_left_eq_some] at h
  obtain ⟨-, h⟩ := h
  cases h
  rfl

end

/-- Settles O51. -/
theorem exportStartLocksTakesAndWalks : Obligations.ExportStartLocksTakesAndWalks := by
  unfold Obligations.ExportStartLocksTakesAndWalks
  intro s h n a b tag ready low high isA isB isTag c refused
  have asked : requestOf (.exportStart h n a b tag) (s.effective h) s = s.exportStartRequest n a b tag (s.effective h) :=
    if_pos ⟨low, high, isA, isB, isTag⟩
  have refuses {st : Status} (request : s.exportStartRequest n a b tag (s.effective h) = s.refuse st) : refused st := by
    simp only [refused]
    rw [exec_of_ready rfl ready, asked, request]
    rfl
  refine ⟨fun busy => refuses ?_, fun idle => ⟨fun free => refuses ?_, fun used above => refuses ?_, fun used within =>
    ⟨fun absent => refuses ?_, fun isOpen => refuses ?_, fun out closed isOut => ⟨fun bad => refuses ?_, fun ordered fits => ?_⟩⟩⟩⟩
  · simp only [State.exportStartRequest, if_pos busy]
  all_goals have notBusy : ¬s.exporter.state = .running := by rw [idle]; decide
  · simp only [State.exportStartRequest, if_neg notBusy, if_pos (show (s.clip n).state = .free from free)]
  · simp only [State.exportStartRequest, if_neg notBusy, if_neg (show ¬(s.clip n).state = .free from used),
      if_pos (show s.effective h > (s.clip n).vl from above)]
  · simp only [State.exportStartRequest, if_neg notBusy, if_neg (show ¬(s.clip n).state = .free from used),
      if_neg (show ¬s.effective h > (s.clip n).vl from Nat.not_lt.mpr within), if_pos (show (s.clip n).state = .absent from absent)]
  · have notAbsent : ¬(s.clip n).state = .absent := by rw [show (s.clip n).state = _ from isOpen]; decide
    simp only [State.exportStartRequest, if_neg notBusy, if_neg (show ¬(s.clip n).state = .free from used),
      if_neg (show ¬s.effective h > (s.clip n).vl from Nat.not_lt.mpr within), if_neg notAbsent,
      if_pos (show (s.clip n).state = .opened from isOpen)]
  all_goals have notAbsent : ¬(s.clip n).state = .absent := by rw [show (s.clip n).state = _ from closed]; decide
  all_goals have notOpen : ¬(s.clip n).state = .opened := by rw [show (s.clip n).state = _ from closed]; decide
  all_goals have length : (s.clip n).out.getD c.inLfn - c.inLfn = out - c.inLfn := by rw [show (s.clip n).out = _ from isOut]; rfl
  all_goals have isLength : (s.clip n).out.getD (s.clip n).inLfn - (s.clip n).inLfn = out - c.inLfn := length
  · have outside : ¬(a ≤ b ∧ b ≤ (s.clip n).out.getD (s.clip n).inLfn - (s.clip n).inLfn) := by omega
    simp only [State.exportStartRequest, if_neg notBusy, if_neg (show ¬(s.clip n).state = .free from used),
      if_neg (show ¬s.effective h > (s.clip n).vl from Nat.not_lt.mpr within), if_neg notAbsent, if_neg notOpen, if_pos outside]
  · intro started accepted range
    have inside : ¬¬(a ≤ b ∧ b ≤ (s.clip n).out.getD (s.clip n).inLfn - (s.clip n).inLfn) := by omega
    have request : s.exportStartRequest n a b tag (s.effective h) = match s.lockForExport n with
        | none => s.refuse .lockBudget
        | some s' =>
          { state := s'.startExport n a b tag, status := .accepted,
            body := lfnBytes (s'.startExport n a b tag).exporter.first ++ lfnBytes (s'.startExport n a b tag).exporter.last ++
              leBytes 2 ((s'.startExport n a b tag).lane c.lane).held } := by
      simp only [State.exportStartRequest, if_neg notBusy, if_neg (show ¬(s.clip n).state = .free from used),
        if_neg (show ¬s.effective h > (s.clip n).vl from Nat.not_lt.mpr within), if_neg notAbsent, if_neg notOpen, if_neg inside] <;> rfl
    have accepts {t : State} (sameExporter : t.exporter = s.exporter)
        (lock : s.lockForExport n = some (t.setClip n { c with exportLock := true })) : accepted (started t) := by
      have isStarted : (t.setClip n { c with exportLock := true }).startExport n a b tag = started t := by
        rw [startExport_eq (by exact used), sameExporter]
        rfl
      obtain ⟨first, last⟩ := startExport_points (t := t) (n := n) (a := a) (b := b) (tag := tag)
        (c := { c with exportLock := true }) (by exact used)
      rw [isStarted] at first last
      simp only [accepted]
      rw [exec_of_ready rfl ready, asked, request]
      simp only [lock, isStarted, first, last]
    have isRange : (s.clip n).range = some range := by
      simp only [Clip.range, show (s.clip n).state = _ from closed, show (s.clip n).out = _ from isOut]
      rfl
    refine ⟨fun isLocked => ?_, fun noOp noExport => ⟨fun full => refuses ?_, fun t admitted => ?_⟩⟩
    · have locked : (s.clip n).locked = true := by
        rw [Clip.locked, Bool.or_eq_true]
        exact isLocked
      exact accepts rfl (by simp only [State.lockForExport, if_pos locked]; rfl)
    all_goals have unlocked : ¬(s.clip n).locked = true := by rw [Clip.locked_iff]; exact not_or.mpr ⟨Bool.eq_false_iff.mp noOp, Bool.eq_false_iff.mp noExport⟩
    · have lock : s.lockForExport n = none := by
        simp only [State.lockForExport, if_neg unlocked, isRange, show s.admitLock (s.clip n).lane range = none from full]
        rfl
      simp only [request, lock]
    · refine accepts (admitLock_exporter admitted) ?_
      simp only [State.lockForExport, if_neg unlocked, isRange, show s.admitLock (s.clip n).lane range = some t from admitted]
      rfl

end Sys2Proof.Machine

/-!
PROOFS. The cue lines (spec/10), the commands that only read, and the state after reset.
-/

namespace Sys2Proof.Machine

/-! ### CUE LINE CONFIG and the line's own actions (R181, R183, R187) -/

theorem cueMode?_code (m : CueMode) : cueMode? m.code = some m := by
  cases m <;> rfl

theorem cueDirection?_code (d : CueDirection) : cueDirection? d.code = some d := by
  cases d <;> rfl

theorem cueRearm?_code (r : CueRearm) : cueRearm? r.code = some r := by
  cases r <;> rfl

/-- The number is checked for PULSE alone (log 39). -/
theorem cueAction?_code {a : CueAction} {n : Nat} (h : ∀ i, a = .pulse i → n = i ∧ 1 ≤ i ∧ i ≤ 255) :
    cueAction? a.code n = some a := by
  cases a with
  | pulse i =>
    obtain ⟨rfl, low, high⟩ := h i rfl
    exact if_pos ⟨low, high⟩
  | set => rfl
  | clear => rfl
  | toggle => rfl

theorem flag?_of_bool (b : Bool) : flag? (if b then 1 else 0) = some b := by
  cases b <;> rfl

theorem CueLine.fired_eq (q : CueLine) : q.fired = match q.action with
    | .pulse n => { q with active := true, pulse := n }
    | .set => { q with active := true, pulse := 0 }
    | .clear => { q with active := false, pulse := 0 }
    | .toggle => { q with active := !q.active, pulse := 0 } := by
  unfold CueLine.fired
  cases q.action <;> rfl

theorem CueLine.fired_channel (q : CueLine) : q.fired.channel = q.channel := by
  unfold CueLine.fired
  cases q.action <;> rfl

theorem exec_pulseEnd {s : State} (running : s.resetHeld = false) (k : Fin 8) :
    exec (.pulseEnd k) s = .next (if (s.cue k).pulse = 1 then s.setCue k (s.cue k).ticked else s) := by
  simp only [exec, execPulseEnd, State.whenRunning, running, State.cueTick]
  rfl

theorem setCue_self (s : State) (k : Fin 8) : s.setCue k (s.cue k) = s := by
  simp only [State.setCue, State.cue]
  rw [show s.cues.set k s.cues[k] = s.cues from Vector.set_getElem_self _]

theorem setCue_setCue (s : State) (k : Fin 8) (q r : CueLine) : (s.setCue k q).setCue k r = s.setCue k r := by
  simp [State.setCue]

/-! ### Lines that watch their channel (R184 to R186) -/

/-- A line's trigger: it is disarmed unless it re-arms EVERY time, and its action is performed (R183, R184). -/
def CueLine.triggered (q : CueLine) : CueLine := CueLine.fired { q with armed := q.rearm == .every }

theorem CueLine.triggered_eq (q : CueLine) : q.triggered = match q.action with
    | .pulse n => { q with armed := q.rearm == .every, active := true, pulse := n }
    | .set => { q with armed := q.rearm == .every, active := true, pulse := 0 }
    | .clear => { q with armed := q.rearm == .every, active := false, pulse := 0 }
    | .toggle => { q with armed := q.rearm == .every, active := !q.active, pulse := 0 } := by
  unfold CueLine.triggered CueLine.fired
  cases q.action <;> rfl

/-- A line `k` with record `q` is reached: its trigger, and CUE/FIRED (R184, R185, R188). -/
def State.reach (cause : Byte) (c : Fin 4) (detail : List Byte) (direction : CueLine → Byte) (q : CueLine) (t : State) (k : Fin 8) :
    State :=
  (t.setCue k q.triggered).post .cue 0 k.val
    ([cause, BitVec.ofNat 8 c.val] ++ detail ++ [direction q, if q.triggered.active then 1 else 0])

section
variable {s t : State} {cause : Byte} {c : Fin 4} {detail : List Byte} {direction : CueLine → Byte} {q : CueLine}

theorem cue_reach (t : State) (k j : Fin 8) :
    (State.reach cause c detail direction q t k).cue j = if k = j then q.triggered else t.cue j := by
  have cues : (State.reach cause c detail direction q t k).cues = (t.setCue k q.triggered).cues := State.post_cues _ _ _ _ _
  rw [State.cue, cues]
  exact State.cue_setCue_eq t k j _

theorem triggerCue_eq {k : Fin 8} {number : Nat} {d : Nat} (armed : (t.cue k).armed = true) (isChannel : (t.cue k).channel = c)
    (isCause : BitVec.ofNat 8 number = cause) (isDirection : BitVec.ofNat 8 d = direction (t.cue k)) :
    t.triggerCue k number detail d = State.reach cause c detail direction (t.cue k) t k := by
  have channel : (t.cue k).triggered.channel = c := (CueLine.fired_channel _).trans isChannel
  have fire : t.triggerCue k number detail d =
      ((t.setCue k { t.cue k with armed := (t.cue k).rearm == .every }).setCue k (t.cue k).triggered).post .cue 0 k.val
        (leBytes 1 number ++ leBytes 1 (t.cue k).triggered.channel.val ++ detail ++ leBytes 1 d ++
          flagBytes (t.cue k).triggered.active) := by
    simp only [State.triggerCue, armed, if_true, State.fireCue, State.cue_setCue]
    rfl
  rw [fire, setCue_setCue, channel, State.reach, leBytes_one, leBytes_one, leBytes_one, isCause, isDirection, flagBytes_eq]
  simp only [List.append_assoc]
  rfl

/-- A fold over lines, each of which looks at its own record alone, reaches the lines that meet the condition. -/
theorem foldl_watch {f : State → Fin 8 → State} {p : CueLine → Bool}
    (step : ∀ t k, f t k = if p (t.cue k) then State.reach cause c detail direction (t.cue k) t k else t) {ks : List (Fin 8)}
    (new : ks.Nodup) (same : ∀ k ∈ ks, t.cue k = s.cue k) :
    ks.foldl f t = (ks.filter fun k => p (s.cue k)).foldl (fun t k => State.reach cause c detail direction (s.cue k) t k) t ∧
      ∀ j, (ks.foldl f t).cue j = if j ∈ ks ∧ p (s.cue j) = true then (s.cue j).triggered else t.cue j := by
  induction ks generalizing t with
  | nil => simp
  | cons k ks ih =>
    obtain ⟨notIn, rest⟩ := List.nodup_cons.mp new
    have isK : t.cue k = s.cue k := same k List.mem_cons_self
    have others : ∀ j ∈ ks, t.cue j = s.cue j := fun j hj => same j (List.mem_cons_of_mem k hj)
    rw [List.foldl_cons, step, isK]
    cases hit : p (s.cue k) with
    | true =>
      obtain ⟨fold, cues⟩ := ih (t := State.reach cause c detail direction (s.cue k) t k) rest fun j hj => by
        rw [cue_reach, if_neg (by rintro rfl; exact notIn hj)]
        exact others j hj
      refine ⟨?_, fun j => ?_⟩
      · rw [if_pos rfl, fold, List.filter_cons_of_pos (by exact hit), List.foldl_cons]
      · rw [if_pos rfl, cues, cue_reach]
        by_cases here : j = k
        · subst here
          rw [if_neg fun h => notIn h.1, if_pos rfl, if_pos ⟨List.mem_cons_self, hit⟩]
        · rw [if_neg (Ne.symm here)]
          simp [here]
    | false =>
      obtain ⟨fold, cues⟩ := ih rest others
      refine ⟨?_, fun j => ?_⟩
      · rw [if_neg Bool.false_ne_true, fold, List.filter_cons_of_neg (by simp [hit])]
      · rw [if_neg Bool.false_ne_true, cues]
        by_cases here : j = k
        · subst here
          simp [notIn, hit]
        · simp [here]

end

/-- Nothing but cue lines and posted notices differs. -/
structure State.OnlyCues (s t : State) : Prop where
  rest  : { t with cues := s.cues, link := s.link, fresh := s.fresh } = s
  posts : s.link.OnlyPosts t.link

namespace State.OnlyCues
variable {s t u : State}

theorem refl (s : State) : s.OnlyCues s := ⟨rfl, .refl _⟩

theorem trans (h : s.OnlyCues t) (g : t.OnlyCues u) : s.OnlyCues u :=
  ⟨(congrArg (fun v : State => { v with cues := s.cues, link := s.link, fresh := s.fresh }) g.rest).trans h.rest, h.posts.trans g.posts⟩

theorem reach (cause : Byte) (c : Fin 4) (detail : List Byte) (direction : CueLine → Byte) (q : CueLine) (t : State) (k : Fin 8) :
    t.OnlyCues (State.reach cause c detail direction q t k) := by
  refine ⟨?_, State.post_onlyPosts (t.setCue k q.triggered) _ _ _ _⟩
  rw [State.reach, State.post_eq]
  rfl

theorem foldl {cause : Byte} {c : Fin 4} {detail : List Byte} {direction : CueLine → Byte} (ks : List (Fin 8)) (q : Fin 8 → CueLine)
    (s : State) : s.OnlyCues (ks.foldl (fun t k => State.reach cause c detail direction (q k) t k) s) := by
  induction ks generalizing s with
  | nil => exact refl s
  | cons k ks ih => exact (reach cause c detail direction (q k) s k).trans (ih _)

end State.OnlyCues

/-- A COMPARE line is crossed by a change of its channel's on-air frame (R184). -/
abbrev CueLine.crossed (q : CueLine) (c : Fin 4) (old new : FrameRef) : Prop :=
  q.mode = .compare ∧ q.channel = c ∧ q.armed = true ∧ old.lane = new.lane ∧
    ((q.direction ≠ .reverse ∧ old.lfn < q.compareLfn ∧ q.compareLfn ≤ new.lfn) ∨
      (q.direction ≠ .forward ∧ new.lfn < q.compareLfn ∧ q.compareLfn ≤ old.lfn))

/-- A SEGMENT line is reached by a passing segue (R185). -/
abbrev CueLine.reached (q : CueLine) (c : Fin 4) (b : Fin 8) (e : Fin 32) : Prop :=
  q.mode = .segment ∧ q.channel = c ∧ q.armed = true ∧ q.bank = b ∧ q.entry = e

/-- The direction byte of a crossing (R188). -/
def crossedDirection (old : FrameRef) (q : CueLine) : Byte := if old.lfn < q.compareLfn then 0 else 1

theorem triggerCue_unarmed {t : State} {k : Fin 8} (h : ¬(t.cue k).armed = true) (n : Nat) (detail : List Byte) (d : Nat) :
    t.triggerCue k n detail d = t := if_neg h

theorem cueSeesFrame_eq (t : State) (c : Fin 4) (old new : FrameRef) (k : Fin 8) : t.cueSeesFrame c old new k =
    if decide ((t.cue k).crossed c old new) = true then
      State.reach 0 c (lfnBytes new.lfn) (crossedDirection old) (t.cue k) t k else t := by
  by_cases watches : (t.cue k).mode = .compare ∧ (t.cue k).channel = c ∧ old.lane = new.lane
  · obtain ⟨mode, channel, lane⟩ := watches
    simp only [State.cueSeesFrame, if_pos (And.intro mode (And.intro channel lane))]
    by_cases armed : (t.cue k).armed = true
    · by_cases forward : old.lfn < (t.cue k).compareLfn ∧ (t.cue k).compareLfn ≤ new.lfn
      · have crosses : crossing (t.cue k).compareLfn old.lfn new.lfn = some 0 := if_pos forward
        have takes : (t.cue k).direction.takes 0 = true ↔ (t.cue k).crossed c old new := by
          have notBack : ¬(new.lfn < (t.cue k).compareLfn ∧ (t.cue k).compareLfn ≤ old.lfn) := by omega
          cases direction : (t.cue k).direction <;>
            simp [CueDirection.takes, CueLine.crossed, mode, channel, armed, lane, direction, forward, notBack]
        simp only [crosses, takes, decide_eq_true_eq]
        rw [triggerCue_eq (cause := 0) (direction := crossedDirection old) armed channel rfl (if_pos forward.1).symm]
      · by_cases back : new.lfn < (t.cue k).compareLfn ∧ (t.cue k).compareLfn ≤ old.lfn
        · have crosses : crossing (t.cue k).compareLfn old.lfn new.lfn = some 1 := by
            rw [crossing, if_neg forward, if_pos back]
          have takes : (t.cue k).direction.takes 1 = true ↔ (t.cue k).crossed c old new := by
            cases direction : (t.cue k).direction <;>
              simp [CueDirection.takes, CueLine.crossed, mode, channel, armed, lane, direction, back, forward]
          simp only [crosses, takes, decide_eq_true_eq]
          rw [triggerCue_eq (cause := 0) (direction := crossedDirection old) armed channel rfl
            (if_neg (Nat.not_lt.mpr back.2)).symm]
        · have crosses : crossing (t.cue k).compareLfn old.lfn new.lfn = none := by
            rw [crossing, if_neg forward, if_neg back]
          have passes : ¬(t.cue k).crossed c old new := fun ⟨_, _, _, _, h⟩ =>
            h.elim (fun h => forward h.2) fun h => back h.2
          simp only [crosses, decide_eq_true_eq, if_neg passes]
    · have passes : ¬(t.cue k).crossed c old new := fun h => armed h.2.2.1
      simp only [triggerCue_unarmed armed, ite_self, decide_eq_true_eq, if_neg passes]
      split <;> rfl
  · have passes : ¬(t.cue k).crossed c old new := fun ⟨mode, channel, _, lane, _⟩ => watches ⟨mode, channel, lane⟩
    simp only [State.cueSeesFrame, if_neg watches, decide_eq_true_eq, if_neg passes]

theorem cueSeesSegue_eq (t : State) (c : Fin 4) (b : Fin 8) (e : Fin 32) (k : Fin 8) : t.cueSeesSegue c b e k =
    if decide ((t.cue k).reached c b e) = true then
      State.reach 1 c (leBytes 1 b.val ++ leBytes 1 e.val ++ [0, 0]) (fun _ => 0xFF) (t.cue k) t k else t := by
  by_cases watches : (t.cue k).mode = .segment ∧ (t.cue k).channel = c ∧ (t.cue k).bank = b ∧ (t.cue k).entry = e
  · obtain ⟨mode, channel, bank, entry⟩ := watches
    simp only [State.cueSeesSegue, if_pos (And.intro mode (And.intro channel (And.intro bank entry)))]
    by_cases armed : (t.cue k).armed = true
    · have hit : (t.cue k).reached c b e := ⟨mode, channel, armed, bank, entry⟩
      rw [triggerCue_eq (cause := 1) (direction := fun _ => 0xFF) armed channel rfl rfl, if_pos (decide_eq_true hit)]
      rfl
    · have passes : ¬(t.cue k).reached c b e := fun h => armed h.2.2.1
      simp only [triggerCue_unarmed armed, decide_eq_true_eq, if_neg passes]
  · have passes : ¬(t.cue k).reached c b e := fun ⟨mode, channel, _, bank, entry⟩ => watches ⟨mode, channel, bank, entry⟩
    simp only [State.cueSeesSegue, if_neg watches, decide_eq_true_eq, if_neg passes]

/-- A change of the on-air frame, as its channel's lines see it (R184). -/
theorem reportFrame_eq (s : State) (c : Fin 4) (old new : FrameRef) :
    s.reportFrame c (some old) new = allCues.foldl (fun t k => t.cueSeesFrame c old new k) s := by
  simp only [State.reportFrame]
  split
  next same =>
    have passes (q : CueLine) : decide (q.crossed c old new) = false := by
      rw [decide_eq_false_iff_not]
      rintro ⟨-, -, -, -, ⟨-, low, high⟩ | ⟨-, low, high⟩⟩ <;> omega
    obtain ⟨fold, -⟩ := foldl_watch (s := s) (t := s) (p := fun q => decide (q.crossed c old new))
      (fun t k => cueSeesFrame_eq t c old new k) (ks := allCues) (by decide) fun _ _ => rfl
    simp [fold, passes]
  next => rfl

theorem mem_allCues (k : Fin 8) : k ∈ allCues := by
  revert k
  decide

/-- A STATE line follows its channel (R186). -/
theorem cue_cueFollows (s : State) (c : Fin 4) (playing : Bool) (k j : Fin 8) : (s.cueFollows c playing k).cue j =
    if k = j ∧ (s.cue j).mode = .state ∧ (s.cue j).channel = c then { s.cue j with active := playing } else s.cue j := by
  simp only [State.cueFollows]
  by_cases here : k = j
  · subst here
    split
    next watches => rw [State.cue_setCue, if_pos ⟨rfl, watches⟩]
    next passes => rw [if_neg fun h => passes h.2]
  · refine Eq.trans ?_ (if_neg fun h => here h.1).symm
    split
    · exact State.cue_setCue_ne s _ here
    · rfl

theorem foldl_cueFollows_cue {ks : List (Fin 8)} (new : ks.Nodup) (s : State) (c : Fin 4) (playing : Bool) (j : Fin 8) :
    (ks.foldl (fun t k => t.cueFollows c playing k) s).cue j =
      if j ∈ ks ∧ (s.cue j).mode = .state ∧ (s.cue j).channel = c then { s.cue j with active := playing } else s.cue j := by
  induction ks generalizing s with
  | nil => simp
  | cons k ks ih =>
    obtain ⟨notIn, rest⟩ := List.nodup_cons.mp new
    rw [List.foldl_cons, ih rest]
    by_cases here : j = k
    · subst here
      rw [if_neg fun h => notIn h.1, cue_cueFollows]
      simp
    · have keeps : (s.cueFollows c playing k).cue j = s.cue j := by
        rw [cue_cueFollows, if_neg fun h => here h.1.symm]
      rw [keeps]
      simp [here]

theorem cue_setChannel (s : State) (c : Fin 4) (y : Channel) (k : Fin 8) : (s.setChannel c y).cue k =
    if (s.cue k).mode = .state ∧ (s.cue k).channel = c ∧ ((s.channel c).state = .playing ↔ y.state ≠ .playing)
    then { s.cue k with active := y.state == .playing } else s.cue k := by
  have change : ((s.channel c).state = .playing ↔ y.state ≠ .playing) ↔ ¬(s.channel c).state.isPlaying = y.state.isPlaying := by
    cases (s.channel c).state <;> cases y.state <;> decide
  by_cases same : (s.channel c).state.isPlaying = y.state.isPlaying
  · rw [setChannel_eq, if_pos same, if_neg fun h => change.mp h.2.2 same]
    rfl
  · rw [setChannel_eq, if_neg same, foldl_cueFollows_cue (by decide)]
    have watches : (k ∈ allCues ∧ (s.cue k).mode = .state ∧ (s.cue k).channel = c) ↔
        (s.cue k).mode = .state ∧ (s.cue k).channel = c ∧ ((s.channel c).state = .playing ↔ y.state ≠ .playing) := by
      rw [change]
      simp [mem_allCues k, same]
    show (if k ∈ allCues ∧ (s.cue k).mode = .state ∧ (s.cue k).channel = c then _ else _) = _
    simp only [watches]
    rfl

/-- Settles O55. -/
theorem cueLinesFireAndWatchTheirChannel : Obligations.CueLinesFireAndWatchTheirChannel := by
  unfold Obligations.CueLinesFireAndWatchTheirChannel
  refine ⟨fun s h k => ?_, fun s c old new b e y => ?_⟩
  · intro q fired
    have isFired : q.fired = fired := CueLine.fired_eq q
    have ticks (last : q.pulse = 1) : (s.cue k).ticked = { q with pulse := 0, active := false } := by
      have one : (s.cue k).pulse = 1 := last
      rw [CueLine.ticked, if_neg (by rw [one]; decide), if_pos one]
    refine ⟨fun mode c lfn direction rearm action idleHigh b e n ready isLfn pulse => ?_, fun ready => ⟨fun off => ?_, fun on => ?_⟩,
      fun running => ⟨fun last => ?_, fun other => ?_⟩, fun rest => ?_, fun last => ?_, fun more => ?_⟩
    · have config : cueConfig? {
            line := k.val, mode := mode.code, channel := c.val, compareLfn := lfn, direction := direction.code, rearm := rearm.code,
            action := action.code, n, idleLevel := if idleHigh then 1 else 0, bank := b.val, entry := e.val } (s.cue k) =
          some { s.cue k with mode, channel := c, compareLfn := lfn, direction, rearm, action, idleHigh, bank := b, entry := e } := by
        simp only [cueConfig?, cueMode?_code, fin?_val, cueDirection?_code, cueRearm?_code, cueAction?_code pulse, flag?_of_bool,
          Option.bind_eq_bind, Option.bind_some]
        exact if_pos isLfn
      rw [exec_of_ready rfl ready]
      simp only [requestOf, State.cueConfigRequest, fin?_val, config]
      rfl
    · have request : s.cueFireRequest k = s.refuse .wrongState := by
        rcases off with mode | mode <;> simp only [State.cueFireRequest, show (s.cue k).mode = _ from mode]
      rw [exec_of_ready rfl ready]
      simp only [requestOf, fin?_val, request]
      rfl
    · have request : s.cueFireRequest k = (s.fireCue k 2 (leBytes 4 0) 0xFF).accept q.fired.outputBytes := by
        have record : (s.fireCue k 2 (leBytes 4 0) 0xFF).cue k = q.fired := by
          have cues : (s.fireCue k 2 (leBytes 4 0) 0xFF).cues = (s.setCue k q.fired).cues := State.post_cues _ _ _ _ _
          rw [State.cue, cues]
          exact State.cue_setCue s k _
        rcases on with mode | mode <;>
          simp only [State.cueFireRequest, show (s.cue k).mode = _ from mode, record]
      have fires : s.fireCue k 2 (leBytes 4 0) 0xFF = (s.setCue k fired).post .cue 0 k.val
          ([2] ++ leBytes 1 q.channel.val ++ [0, 0, 0, 0, 0xFF, if fired.active then 1 else 0]) := by
        rw [← isFired]
        simp only [State.fireCue, flagBytes_eq, CueLine.fired_channel]
        rfl
      rw [exec_of_ready rfl ready]
      simp only [requestOf, fin?_val, request, fires, State.accept, CueLine.outputBytes, flagBytes_eq, isFired]
    · rw [exec_pulseEnd running, if_pos (by exact last), ticks last]
    · rw [exec_pulseEnd running, if_neg (by exact other)]
    · show s.setCue k (s.cue k).ticked = s
      rw [CueLine.ticked, if_pos (by exact rest), setCue_self]
    · show s.setCue k (s.cue k).ticked = _
      rw [ticks last]
    · show s.setCue k (s.cue k).ticked = _
      have low : 2 ≤ (s.cue k).pulse := more
      rw [CueLine.ticked, if_neg (show ¬(s.cue k).pulse = 0 by omega), if_neg (show ¬(s.cue k).pulse = 1 by omega)]
  · intro fired crossed reached fires only
    have isFired (q : CueLine) : q.triggered = fired q := CueLine.triggered_eq q
    have isReach (cause : Byte) (detail : List Byte) (direction : CueLine → Byte) (lines : List (Fin 8)) :
        lines.foldl (fun t k => State.reach cause c detail direction (s.cue k) t k) s = fires lines cause detail direction := by
      simp only [State.reach, isFired, fires]
    obtain ⟨frames, frameCues⟩ := foldl_watch (s := s) (t := s) (p := fun q => decide (q.crossed c old new))
      (fun t k => cueSeesFrame_eq t c old new k) (ks := allCues) (by decide) fun _ _ => rfl
    obtain ⟨segues, segueCues⟩ := foldl_watch (s := s) (t := s) (p := fun q => decide (q.reached c b e))
      (fun t k => cueSeesSegue_eq t c b e k) (ks := allCues) (by decide) fun _ _ => rfl
    rw [← reportFrame_eq] at frames frameCues
    have segueFold : allCues.foldl (fun t k => t.cueSeesSegue c b e k) s = s.reportSegue c b e := rfl
    rw [segueFold] at segues segueCues
    have onlyOf {t : State} (h : s.OnlyCues t) : only t := ⟨h.rest, h.posts⟩
    refine ⟨frames.trans (isReach _ _ _ _), segues.trans (isReach _ _ _ _), fun k => ⟨fun hit => ?_, fun miss => ?_⟩,
      onlyOf ?_, rfl, fun k => ⟨fun hit => ?_, fun miss => ?_⟩, onlyOf ?_, cue_setChannel s c y, ?_⟩
    · rw [frameCues, if_pos ⟨mem_allCues k, decide_eq_true hit⟩, isFired]
    · rw [frameCues, if_neg fun h => miss (of_decide_eq_true h.2)]
    · rw [frames]
      exact State.OnlyCues.foldl _ _ s
    · rw [segueCues, if_pos ⟨mem_allCues k, decide_eq_true hit⟩, isFired]
    · rw [segueCues, if_neg fun h => miss (of_decide_eq_true h.2)]
    · rw [segues]
      exact State.OnlyCues.foldl _ _ s
    · by_cases same : (s.channel c).state.isPlaying = y.state.isPlaying
      · rw [setChannel_eq, if_pos same]
      · rw [setChannel_eq, if_neg same]
        exact foldl_cueFollows_withCues { s with channels := s.channels.set c y } c y.state.isPlaying allCues

/-! ### Commands that only read -/

theorem bankEntries_val {first count : Nat} (h : first + count ≤ 32) :
    (bankEntries first count).map Fin.val = (List.range count).map (first + ·) := by
  induction count generalizing first with
  | zero => rfl
  | succ n ih =>
    rw [bankEntries_succ (by omega), List.map_cons, ih (by omega), List.range_succ_eq_map, List.map_cons, List.map_map]
    refine congrArg (List.cons first) (List.map_congr_left fun i _ => ?_)
    show first + 1 + i = first + (i + 1)
    omega

/-- Settles O56. -/
theorem statusCommandsChangeNothing : Obligations.StatusCommandsChangeNothing := by
  unfold Obligations.StatusCommandsChangeNothing
  intro s h
  refine ⟨fun ready => ?_, fun l start ready isLfn => ?_, fun l ready => ?_, fun v ready => ?_, fun c ready => ?_,
    fun b es first ready low high entries => ?_, fun ready => ?_, fun k ready => ?_⟩
  · rw [exec_of_ready rfl ready]
    rfl
  · rw [exec_of_ready rfl ready]
    simp only [requestOf, fin?_val, if_pos (show start ≤ maxLfn from isLfn)]
    rfl
  · rw [exec_of_ready rfl ready]
    simp only [requestOf, fin?_val]
    rfl
  · rw [exec_of_ready rfl ready]
    simp only [requestOf, fin?_val]
    rfl
  · rw [exec_of_ready rfl ready]
    simp only [requestOf, fin?_val]
    rfl
  · have isEntry (i : Nat) (hi : i < es.length) : es[i].val = first + i := by
      have := congrArg (fun l => l[i]?) entries
      simpa [hi] using this
    have fits : first + es.length ≤ 32 := by
      have := isEntry (es.length - 1) (by omega)
      have := (es[es.length - 1]'(by omega)).isLt
      omega
    have isEntries : bankEntries first es.length = es :=
      List.map_injective_iff.mpr Fin.val_injective ((bankEntries_val fits).trans entries.symm)
    rw [exec_of_ready rfl ready]
    simp only [requestOf, bankRange?_eq low high fits, isEntries]
    rfl
  · rw [exec_of_ready rfl ready]
    rfl
  · rw [exec_of_ready rfl ready]
    simp only [requestOf, fin?_val]
    rfl

/-! ### The state after reset -/

theorem channel_reset (c : Fin 4) : State.reset.channel c = Channel.reset := by
  simp [State.channel, State.reset, State.powerOn]

theorem mark_reset (m : Fin 8) : State.reset.mark m = MarkLine.powerOn := by
  simp [State.mark, State.reset, State.powerOn]

theorem powerOn_sound : Lane.powerOn.sound where
  rising := .nil
  assigned := by simp [Lane.powerOn]
  slots := .nil
  inOrder := .nil
  arrivals := by decide
  writes := by decide
  recording := by decide
  off := by decide
  held := by decide
  ceiling := by decide

/-- Settles O60. -/
theorem resetMeetsTheInvariants : Obligations.ResetMeetsTheInvariants := by
  unfold Obligations.ResetMeetsTheInvariants
  have lane (l : Fin 8) : State.reset.lane l = Lane.powerOn := powerOn_lane _ rfl l
  have fetch (c : Fin 4) : State.reset.fetchOf c = none := by simp [State.fetchOf, State.reset, State.powerOn, Xfer.reset]
  have clip (n : Nat) : State.reset.clip n = Clip.free := rfl
  refine ⟨reset_link_sound, reset_refu_sound, ?_, fun l => ?_, ?_, ?_, ?_, ?_⟩
  · decide
  · rw [lane]
    exact powerOn_sound
  · refine ⟨.nil, fun e h => (List.not_mem_nil h).elim, fun e h => (List.not_mem_nil h).elim, fun e h => (List.not_mem_nil h).elim,
      fun e h => (List.not_mem_nil h).elim, fun m => ?_⟩
    rw [mark_reset]
    decide
  · refine ⟨fun n => ?_, fun m => ?_, fun m k _ => ?_, fun h => absurd rfl h⟩
    · simp only [State.roles, channel_reset, clip]
      rfl
    · rw [mark_reset]
      exact .inl rfl
    · rw [mark_reset, mark_reset]
  · refine ⟨fun l => ?_, fun l e h => ?_, fun l a h => ?_, fun e h => (List.not_mem_nil h).elim, fun e h => (List.not_mem_nil h).elim,
      fun h => by cases h⟩
    · rw [State.heldEntries, lane]
      rfl
    · rw [lane] at h
      exact (List.not_mem_nil h).elim
    · rw [lane] at h
      cases h
  · refine ⟨fun l e h => ?_, fun c r h => ?_, fun f h => (by cases h), fun c => ?_⟩
    · rw [lane] at h
      exact (List.not_mem_nil h).elim
    · rw [channel_reset] at h
      cases h
    · rw [fetch, channel_reset]
      rfl

end Sys2Proof.Machine
/-!
PROOFS. What the invariants of the lanes and of the clips read of the state, and the two relations that carry them along an operation:
one that leaves all of that alone, and one that keeps the invariants.
-/

namespace Sys2Proof.Machine

/-! ### What the invariants read -/

/-- A lane less what no invariant reads: signal, stop cause, counters and the frames at its port. -/
def Lane.core (x : Lane) : Lane :=
  { x with signal := false, stopCause := .recStop, accepted := 0, overs := 0, overruns := 0, damaged := 0, evicted := 0,
           port := .idle, unended := [] }

/-- The clip a source plays from. -/
def Source.clipNumber : Source → Option Nat
  | .clip n => some n
  | .none => Option.none
  | .lane _ => Option.none
  | .live _ _ => Option.none

/-- What a channel uses: the clips of its source and of its saved source, and its fetch in flight. -/
def Channel.uses (x : Channel) : Option Nat × Option Nat × Option FrameRef :=
  (x.source.clipNumber, x.saved.bind fun k => k.source.clipNumber, x.fetch)

/-- A mark line's levels, and its group with the working clip. -/
def MarkLine.group (x : MarkLine) : Nat × Nat × LineBinding × Nat := (x.el, x.vl, x.binding, x.workingClip)

/-- What the export uses: its clip, and the frame it reads on its lane. -/
def Exporter.uses (e : Exporter) : ExportState × Nat × Option (Fin 8 × Nat × Nat) :=
  (e.state, e.clip, e.frame.map fun f => (e.lane, f.lfn, f.slot))

theorem Source.beq_clip (src : Source) (n : Nat) : (src == .clip n) = (src.clipNumber == some n) := by
  rw [Bool.eq_iff_iff]
  cases src with
  | clip k => simp [Source.clipNumber]
  | none => simp [Source.clipNumber]
  | lane l => simp [Source.clipNumber]
  | live l d => simp [Source.clipNumber]

/-- How often a channel holds a clip: by its source, and by its saved source. -/
def Channel.holds (x : Channel) (n : Nat) : Nat := (x.uses.1 == some n).toNat + (x.uses.2.1 == some n).toNat

/-- A channel's fetch in flight is on the lane's entry at an LFN. -/
def Channel.fetches (x : Channel) (l : Fin 8) (n : Nat) : Nat := (x.uses.2.2.any fun r => r.lane == l && r.lfn == n).toNat

/-- The export holds a clip. -/
def Exporter.holds (e : Exporter) (n : Nat) : Nat := if e.uses.1 = .running ∧ e.uses.2.1 = n then 1 else 0

/-- The export's frame in progress is the lane's entry at an LFN. -/
def Exporter.reads (e : Exporter) (l : Fin 8) (n : Nat) : Nat :=
  if (e.uses.2.2.any fun f => f.1 == l && f.2.1 == n) = true then 1 else 0

theorem Exporter.holds_eq (e : Exporter) (n : Nat) : e.holds n = if e.state = .running ∧ e.clip = n then 1 else 0 := rfl

theorem Exporter.reads_eq (e : Exporter) (l : Fin 8) (n : Nat) :
    e.reads l n = if e.lane = l ∧ (e.frame.any fun f => f.lfn == n) = true then 1 else 0 := by
  unfold Exporter.reads Exporter.uses
  cases e.frame with
  | none => simp
  | some f => simp

theorem Channel.saved_holds (x : Channel) (n : Nat) :
    (x.saved.any fun k => k.source == .clip n) = (x.uses.2.1 == some n) := by
  unfold Channel.uses
  cases x.saved with
  | none => rfl
  | some k => exact Source.beq_clip k.source n

theorem filter_channels_length (p : Fin 4 → Bool) :
    (allChannels.filter p).length = (p 0).toNat + (p 1).toNat + (p 2).toNat + (p 3).toNat := by
  rw [← List.countP_eq_length_filter]
  simp only [allChannels, List.countP_cons, List.countP_nil, Bool.cond_eq_ite, Bool.toNat]
  omega

/-- A quantity of the four channels, added up. -/
def State.sumChannels (s : State) (f : Channel → Nat) : Nat :=
  f (s.channel 0) + f (s.channel 1) + f (s.channel 2) + f (s.channel 3)

/-- R66: the roles of a clip, channel by channel. -/
theorem roles_eq (s : State) (n : Nat) : s.roles n = s.sumChannels (·.holds n) + s.exporter.holds n := by
  unfold State.roles State.sumChannels Channel.holds
  simp only [filter_channels_length, Channel.saved_holds]
  simp only [Source.beq_clip, Channel.uses, Exporter.holds_eq]
  omega

/-- R32: the read claims on an LFN, channel by channel. -/
theorem claims_eq (s : State) (l : Fin 8) (n : Nat) :
    s.claims l n = s.sumChannels (·.fetches l n) + s.exporter.reads l n := by
  unfold State.claims State.sumChannels Channel.fetches
  simp only [filter_channels_length, Channel.uses, Exporter.reads_eq]

/-- One channel's record changes, and the sum with it. -/
theorem sumChannels_of_change {s t : State} {c : Fin 4} {y : Channel} (change : ∀ d, t.channel d = if c = d then y else s.channel d)
    (f : Channel → Nat) : t.sumChannels f + f (s.channel c) = s.sumChannels f + f y := by
  unfold State.sumChannels
  simp only [change]
  match c with
  | 0 => simp; omega
  | 1 => simp; omega
  | 2 => simp; omega
  | 3 => simp; omega

theorem sumChannels_setChannel (s : State) (c : Fin 4) (y : Channel) (f : Channel → Nat) :
    (s.setChannel c y).sumChannels f + f (s.channel c) = s.sumChannels f + f y :=
  sumChannels_of_change (fun d => channel_setChannel s c d y) f

theorem le_sumChannels (s : State) (c : Fin 4) (f : Channel → Nat) : f (s.channel c) ≤ s.sumChannels f := by
  unfold State.sumChannels
  match c with
  | 0 => omega
  | 1 => omega
  | 2 => omega
  | 3 => omega

/-! ### Nothing that an invariant reads differs -/

structure State.Calm (s t : State) : Prop where
  clips    : t.clips = s.clips
  lanes    : ∀ l, (t.lane l).core = (s.lane l).core
  marks    : ∀ m, (t.mark m).group = (s.mark m).group
  channels : ∀ c, (t.channel c).uses = (s.channel c).uses
  exporter : t.exporter.uses = s.exporter.uses
  queued   : ∀ c, (t.fetchOf c).map Fetch.frame = (s.fetchOf c).map Fetch.frame

theorem Lane.sound_core (x : Lane) : x.core.sound ↔ x.sound :=
  ⟨fun h => ⟨h.1, h.2, h.3, h.4, h.5, h.6, h.7, h.8, h.9, h.10⟩, fun h => ⟨h.1, h.2, h.3, h.4, h.5, h.6, h.7, h.8, h.9, h.10⟩⟩

theorem Exporter.frame_eq_some_iff (e : Exporter) (p : Fin 8 × Nat × Nat) :
    e.uses.2.2 = some p ↔ ∃ f, e.frame = some f ∧ e.lane = p.1 ∧ f.lfn = p.2.1 ∧ f.slot = p.2.2 := by
  simp [Exporter.uses, Prod.ext_iff]

theorem Exporter.frame_eq_none_iff (e : Exporter) : e.uses.2.2 = none ↔ e.frame = none := by simp [Exporter.uses]

theorem sumChannels_congr {s t : State} (channels : ∀ c, (t.channel c).uses = (s.channel c).uses) {f : Channel → Nat}
    (reads : ∀ x y : Channel, x.uses = y.uses → f x = f y) : t.sumChannels f = s.sumChannels f := by
  simp only [State.sumChannels, reads _ _ (channels _)]

theorem roles_of_same {s t : State} (channels : ∀ c, (t.channel c).uses = (s.channel c).uses)
    (exporter : t.exporter.uses = s.exporter.uses) (n : Nat) : t.roles n = s.roles n := by
  rw [roles_eq, roles_eq, sumChannels_congr channels fun x y e => by simp only [Channel.holds, e]]
  simp only [Exporter.holds, exporter]

theorem claims_of_same {s t : State} (channels : ∀ c, (t.channel c).fetch = (s.channel c).fetch)
    (exporter : t.exporter.uses.2.2 = s.exporter.uses.2.2) (l : Fin 8) (n : Nat) : t.claims l n = s.claims l n := by
  have fetches (c : Fin 4) : (t.channel c).fetches l n = (s.channel c).fetches l n := by
    simp only [Channel.fetches, Channel.uses, channels]
  rw [claims_eq, claims_eq]
  simp only [State.sumChannels, fetches, Exporter.reads, exporter]

/-- The read claims stay sound while the entries, the fetches and the export's frame stay what they are. -/
theorem State.claimsSound.of_same {s t : State} (sound : s.claimsSound) (entries : ∀ l, (t.lane l).entries = (s.lane l).entries)
    (channels : ∀ c, (t.channel c).fetch = (s.channel c).fetch) (exporter : t.exporter.uses.2.2 = s.exporter.uses.2.2)
    (queued : ∀ c, (t.fetchOf c).map Fetch.frame = (s.fetchOf c).map Fetch.frame) : t.claimsSound := by
  refine ⟨fun l e he => ?_, fun c r hr => ?_, fun f hf => ?_, fun c => ?_⟩
  · rw [claims_of_same channels exporter]; exact sound.counts l e (entries l ▸ he)
  · rw [entries]; exact sound.fetches c r (channels c ▸ hr)
  · have here : t.exporter.uses.2.2 = some (t.exporter.lane, f.lfn, f.slot) :=
      (Exporter.frame_eq_some_iff _ _).mpr ⟨f, hf, rfl, rfl, rfl⟩
    rw [exporter] at here
    obtain ⟨g, hg, lane, lfn, slot⟩ := (Exporter.frame_eq_some_iff _ _).mp here
    obtain ⟨e, he, entry, at_, good⟩ := sound.frame g hg
    rw [entries, ← show s.exporter.lane = t.exporter.lane from lane]
    exact ⟨e, he, entry.trans lfn, at_.trans slot, good⟩
  · rw [queued, channels]; exact sound.queued c

namespace State.Calm

theorem refl (s : State) : s.Calm s := ⟨rfl, fun _ => rfl, fun _ => rfl, fun _ => rfl, rfl, fun _ => rfl⟩

theorem trans {s t u : State} (h : s.Calm t) (g : t.Calm u) : s.Calm u :=
  ⟨g.clips.trans h.clips, fun l => (g.lanes l).trans (h.lanes l), fun m => (g.marks m).trans (h.marks m),
    fun c => (g.channels c).trans (h.channels c), g.exporter.trans h.exporter, fun c => (g.queued c).trans (h.queued c)⟩

/-- The tables themselves are the same. -/
theorem same {s t : State} (clips : t.clips = s.clips := by rfl) (lanes : t.lanes = s.lanes := by rfl)
    (marks : t.marks = s.marks := by rfl) (channels : t.channels = s.channels := by rfl)
    (exporter : t.exporter = s.exporter := by rfl) (fetch : t.xfer.fetch = s.xfer.fetch := by rfl) : s.Calm t where
  clips := clips
  lanes l := by rw [State.lane_congr lanes]
  marks m := by rw [State.mark, marks, ← State.mark]
  channels c := by rw [State.channel_congr channels]
  exporter := by rw [exporter]
  queued c := by rw [State.fetchOf, fetch, ← State.fetchOf]

section
variable {s t : State} (h : s.Calm t)
include h

theorem ofCore {α : Type} (f : Lane → α) (reads : ∀ x : Lane, f x.core = f x) (l : Fin 8) : f (t.lane l) = f (s.lane l) := by
  rw [← reads, h.lanes, reads]

theorem entries (l : Fin 8) : (t.lane l).entries = (s.lane l).entries := h.ofCore Lane.entries (fun _ => rfl) l
theorem held (l : Fin 8) : (t.lane l).held = (s.lane l).held := h.ofCore Lane.held (fun _ => rfl) l
theorem newestAssigned (l : Fin 8) : (t.lane l).newestAssigned = (s.lane l).newestAssigned :=
  h.ofCore Lane.newestAssigned (fun _ => rfl) l
theorem nextLfn (l : Fin 8) : (t.lane l).nextLfn = (s.lane l).nextLfn := h.ofCore Lane.nextLfn (fun _ => rfl) l
theorem clip (n : Nat) : t.clip n = s.clip n := clip_congr h.clips n

theorem roles (n : Nat) : t.roles n = s.roles n := roles_of_same h.channels h.exporter n

theorem laneSound (sound : ∀ l, (s.lane l).sound) (l : Fin 8) : (t.lane l).sound :=
  (Lane.sound_core _).mp (h.lanes l ▸ (Lane.sound_core _).mpr (sound l))

theorem clipsSound (sound : s.clipsSound) : t.clipsSound where
  inOrder := by rw [h.clips]; exact sound.inOrder
  numbers := by rw [h.clips]; exact sound.numbers
  levels := by rw [h.clips]; exact sound.levels
  labels := by rw [h.clips]; exact sound.labels
  locks := by rw [h.clips]; exact sound.locks
  lines m := by
    have el : (t.mark m).el = (s.mark m).el := congrArg (·.1) (h.marks m)
    have vl : (t.mark m).vl = (s.mark m).vl := congrArg (·.2.1) (h.marks m)
    rw [el, vl]
    exact sound.lines m

theorem usesSound (sound : s.usesSound) : t.usesSound := by
  have binding (m : Fin 8) : (t.mark m).binding = (s.mark m).binding := congrArg (·.2.2.1) (h.marks m)
  have working (m : Fin 8) : (t.mark m).workingClip = (s.mark m).workingClip := congrArg (·.2.2.2) (h.marks m)
  have state : t.exporter.state = s.exporter.state := congrArg (·.1) h.exporter
  refine ⟨fun n => ?_, fun m => ?_, fun m k => ?_, fun f => ?_⟩
  · rw [h.clip, h.roles]; exact sound.counts n
  · rw [h.clip, working]; exact sound.working m
  · rw [binding, binding, working, working]; exact sound.groups m k
  · rw [state]
    refine sound.frames fun e => f ?_
    rw [← Exporter.frame_eq_none_iff, h.exporter, Exporter.frame_eq_none_iff, e]

theorem heldEntries (l : Fin 8) : t.heldEntries l = s.heldEntries l := by
  unfold State.heldEntries
  rw [h.entries, h.clips]

theorem protectionSound (sound : s.protectionSound) : t.protectionSound := by
  have state : t.exporter.state = s.exporter.state := congrArg (·.1) h.exporter
  have clip : t.exporter.clip = s.exporter.clip := congrArg (·.2.1) h.exporter
  refine ⟨fun l => ?_, fun l => ?_, fun l => ?_, ?_, ?_, ?_⟩
  · rw [h.held, h.heldEntries]; exact sound.held l
  · rw [h.entries, h.newestAssigned]; exact sound.newest l
  · rw [h.newestAssigned, h.nextLfn]; exact sound.next l
  · rw [h.clips]; intro e he
    rw [h.newestAssigned]; exact sound.marked e he
  · rw [h.clips]; exact sound.exported
  · rw [state, clip, h.clip]; exact sound.exporting

theorem claimsSound (sound : s.claimsSound) : t.claimsSound :=
  sound.of_same h.entries (fun c => congrArg (·.2.2) (h.channels c)) (congrArg (·.2.2) h.exporter) h.queued

end

end State.Calm

/-! ### The invariants are kept -/

/-- Every invariant of the lanes, the clips and the frames holds. -/
structure State.Sound (s : State) : Prop where
  lanes      : ∀ l, (s.lane l).sound
  clips      : s.clipsSound
  uses       : s.usesSound
  protection : s.protectionSound
  claims     : s.claimsSound

/-- The operation keeps the lanes sound, and the Clip Table and its uses sound. -/
structure State.Keeps (s t : State) : Prop where
  lanes : (∀ l, (s.lane l).sound) → ∀ l, (t.lane l).sound
  clips : s.clipsSound ∧ s.usesSound → t.clipsSound ∧ t.usesSound

theorem State.Keeps.trans {s t u : State} (h : s.Keeps t) (g : t.Keeps u) : s.Keeps u :=
  ⟨fun sound => g.lanes (h.lanes sound), fun sound => g.clips (h.clips sound)⟩

/-- The operation keeps the lanes sound, the Clip Table and its uses sound, and all the invariants together. -/
structure State.Safe (s t : State) : Prop where
  lanes : (∀ l, (s.lane l).sound) → ∀ l, (t.lane l).sound
  clips : s.clipsSound ∧ s.usesSound → t.clipsSound ∧ t.usesSound
  all   : s.Sound → t.protectionSound ∧ t.claimsSound

theorem State.Calm.safe {s t : State} (h : s.Calm t) : s.Safe t :=
  ⟨h.laneSound, fun sound => ⟨h.clipsSound sound.1, h.usesSound sound.2⟩,
    fun sound => ⟨h.protectionSound sound.protection, h.claimsSound sound.claims⟩⟩

namespace State.Safe

theorem refl (s : State) : s.Safe s := (State.Calm.refl s).safe

theorem sound {s t : State} (h : s.Safe t) (sound : s.Sound) : t.Sound :=
  have clips := h.clips ⟨sound.clips, sound.uses⟩
  have all := h.all sound
  ⟨h.lanes sound.lanes, clips.1, clips.2, all.1, all.2⟩

theorem trans {s t u : State} (h : s.Safe t) (g : t.Safe u) : s.Safe u :=
  ⟨fun sound => g.lanes (h.lanes sound), fun sound => g.clips (h.clips sound), fun sound => g.all (h.sound sound)⟩

/-- What does not need all the invariants is shown apart. -/
theorem of_keeps {s t : State} (keeps : s.Keeps t) (all : s.Sound → s.Safe t) : s.Safe t :=
  ⟨keeps.lanes, keeps.clips, fun sound => (all sound).all sound⟩

/-- The lanes are kept sound in any case, the rest is shown of a sound table with sound uses. -/
theorem of_lanes {s t : State} (lanes : (∀ l, (s.lane l).sound) → ∀ l, (t.lane l).sound)
    (rest : s.clipsSound → s.usesSound → s.Safe t) : s.Safe t :=
  ⟨lanes, fun sound => (rest sound.1 sound.2).clips sound, fun sound => (rest sound.clips sound.uses).all sound⟩

theorem keeps {s t : State} (h : s.Safe t) : s.Keeps t := ⟨h.lanes, h.clips⟩

theorem calm {s t u : State} (h : s.Safe t) (g : t.Calm u) : s.Safe u := h.trans g.safe

/-- A fold of steps that are safe while a property holds which each of them keeps. -/
theorem foldl {α : Type} {f : State → α → State} {p : State → Prop} {as : List α}
    (step : ∀ (t : State), ∀ a ∈ as, p t → t.Safe (f t a) ∧ p (f t a)) {s : State} (start : p s) : s.Safe (as.foldl f s) := by
  induction as generalizing s with
  | nil => exact refl s
  | cons a as ih =>
    obtain ⟨first, kept⟩ := step s a List.mem_cons_self start
    exact first.trans (ih (fun t b hb => step t b (List.mem_cons_of_mem a hb)) kept)

end State.Safe

end Sys2Proof.Machine
/-!
PROOFS. The operations that leave alone everything the invariants of lanes and clips read.
-/

namespace Sys2Proof.Machine

open State

/-! ### Updates of one table -/

theorem calm_post (s : State) (k : NoticeClass) (a b : Nat) (d : List Byte) : s.Calm (s.post k a b d) :=
  .same (post_clips ..) (post_lanes ..) (post_marks ..) (post_channels ..) (post_exporter ..) (by rw [post_xfer])

theorem calm_setLane {s : State} {l : Fin 8} {x : Lane} (core : x.core = (s.lane l).core) : s.Calm (s.setLane l x) where
  clips := rfl
  lanes k := by
    rw [lane_setLane_eq]
    split
    · next here => rw [core, here]
    · rfl
  marks _ := rfl
  channels _ := rfl
  exporter := rfl
  queued _ := rfl

theorem calm_modifyLane {s : State} {l : Fin 8} {f : Lane → Lane} (core : (f (s.lane l)).core = (s.lane l).core) :
    s.Calm (s.modifyLane l f) := calm_setLane core

theorem calm_setMark {s : State} {m : Fin 8} {x : MarkLine} (group : x.group = (s.mark m).group) : s.Calm (s.setMark m x) where
  clips := rfl
  lanes _ := rfl
  marks k := by
    rw [mark_setMark_eq]
    split
    · next here => rw [group, here]
    · rfl
  channels _ := rfl
  exporter := rfl
  queued _ := rfl

theorem calm_setExporter {s : State} {e : Exporter} (uses : e.uses = s.exporter.uses) : s.Calm (s.setExporter e) :=
  ⟨rfl, fun _ => rfl, fun _ => rfl, fun _ => rfl, uses, fun _ => rfl⟩

theorem calm_setFetch {s : State} {c : Fin 4} {f : Option Fetch} (frame : f.map Fetch.frame = (s.fetchOf c).map Fetch.frame) :
    s.Calm (s.setFetch c f) where
  clips := rfl
  lanes _ := rfl
  marks _ := rfl
  channels _ := rfl
  exporter := rfl
  queued d := by
    rw [fetchOf_setFetch_eq]
    split
    · next here => rw [frame, here]
    · rfl

theorem calm_setChannel {s : State} {c : Fin 4} {x : Channel} (uses : x.uses = (s.channel c).uses) :
    s.Calm (s.setChannel c x) := by
  refine ⟨setChannel_clips .., fun l => by rw [lane_congr (setChannel_lanes s c x)],
    fun m => by rw [State.mark, setChannel_marks, ← State.mark], fun d => ?_, by rw [setChannel_exporter],
    fun d => by rw [State.fetchOf, setChannel_xfer, ← State.fetchOf]⟩
  rw [channel_setChannel]
  split
  · next here => rw [uses, here]
  · rfl

theorem calm_setFlag (s : State) (c : Fin 4) (f : Flag) : s.Calm (s.setFlag c f) := by
  refine ⟨setFlag_clips .., fun l => by rw [lane_congr (setFlag_lanes s c f)],
    fun m => by rw [State.mark, setFlag_marks, ← State.mark], fun d => ?_, by rw [setFlag_exporter],
    fun d => by rw [State.fetchOf, setFlag_xfer, ← State.fetchOf]⟩
  rw [channel_setFlag]
  split
  · next here => rw [← here]; rfl
  · rfl

/-! ### Cue lines and notices -/

/-- A fold of calm steps is calm. -/
theorem calm_foldl {α : Type} {f : State → α → State} (step : ∀ (t : State) (a : α), t.Calm (f t a)) (as : List α) (s : State) :
    s.Calm (as.foldl f s) := by
  induction as generalizing s with
  | nil => exact .refl s
  | cons a as ih => exact (step s a).trans (ih (f s a))

theorem calm_fireCue (s : State) (k : Fin 8) (cause : Nat) (detail : List Byte) (direction : Nat) :
    s.Calm (s.fireCue k cause detail direction) :=
  Calm.trans (.same : s.Calm (s.setCue k (s.cue k).fired)) (calm_post ..)

theorem calm_triggerCue (s : State) (k : Fin 8) (cause : Nat) (detail : List Byte) (direction : Nat) :
    s.Calm (s.triggerCue k cause detail direction) := by
  unfold State.triggerCue
  simp only []
  split
  · exact Calm.trans (.same : s.Calm (s.setCue k _)) (calm_fireCue ..)
  · exact .refl s

theorem calm_cueSeesFrame (s : State) (c : Fin 4) (old new : FrameRef) (k : Fin 8) : s.Calm (s.cueSeesFrame c old new k) := by
  unfold State.cueSeesFrame
  simp only []
  split
  · split
    · exact .refl s
    · split
      · exact calm_triggerCue ..
      · exact .refl s
  · exact .refl s

theorem calm_reportFrame (s : State) (c : Fin 4) (old : Option FrameRef) (new : FrameRef) : s.Calm (s.reportFrame c old new) := by
  unfold State.reportFrame
  split
  · exact .refl s
  · split
    · exact .refl s
    · exact calm_foldl (fun t k => calm_cueSeesFrame t ..) _ s

theorem calm_cueSeesSegue (s : State) (c : Fin 4) (b : Fin 8) (e : Fin 32) (k : Fin 8) : s.Calm (s.cueSeesSegue c b e k) := by
  unfold State.cueSeesSegue
  simp only []
  split
  · exact calm_triggerCue ..
  · exact .refl s

theorem calm_reportSegue (s : State) (c : Fin 4) (b : Fin 8) (e : Fin 32) : s.Calm (s.reportSegue c b e) :=
  calm_foldl (fun t k => calm_cueSeesSegue t c b e k) _ s

/-! ### Replies -/

theorem calm_queueReply (s : State) (tag kind : Byte) (st : Status) (body : List Byte) : s.Calm (s.queueReply tag kind st body) :=
  .same

theorem calm_turnAway (s : State) (f : LinkFrame) : s.Calm (s.turnAway f) := by
  unfold State.turnAway
  split
  · exact .same
  · exact .refl s
  · exact calm_queueReply ..
  · exact .refl s

theorem calm_finishReply (s : State) : s.Calm s.finishReply := by
  unfold State.finishReply
  split
  · exact .refl s
  · exact .same

/-! ### The Transfer Engine (R155, R163) -/

theorem calm_grantLane (s : State) (l : Fin 8) : s.Calm (s.grantLane l) := by
  unfold State.grantLane
  split
  · exact .refl s
  · exact .same

theorem calm_grantFetch (s : State) (c : Fin 4) : s.Calm (s.grantFetch c) := by
  unfold State.grantFetch
  split
  · exact .refl s
  · next f fetch =>
    have staged : s.Calm (if f.granted = 0 then s.setOutPort c { s.outPort c with staging := some [] } else s) := by
      split
      · exact .same
      · exact .refl s
    simp only []
    generalize (if f.granted = 0 then s.setOutPort c { s.outPort c with staging := some [] } else s) = t at staged ⊢
    have frame : (some { f with granted := f.granted + 1 }).map Fetch.frame = (t.fetchOf c).map Fetch.frame := by
      rw [staged.queued c, fetch]; rfl
    exact (staged.trans (calm_setFetch frame)).trans .same

theorem calm_grant (s : State) : s.Calm s.grant := by
  unfold State.grant
  split
  · exact .refl s
  · split
    · exact calm_grantLane ..
    · split
      · exact calm_grantFetch ..
      · split
        · unfold State.grantExport
          split
          · exact .refl s
          · exact .same
        · exact .refl s

theorem calm_handExportRead (s : State) (l : Fin 8) (lfn slot k : Nat) : s.Calm (s.handExportRead l lfn slot k) :=
  Calm.trans (.same : s.Calm (s.setExportRead _)) (calm_grant _)

theorem calm_cancelWrite (s : State) (l : Fin 8) (n : Nat) : s.Calm (s.cancelWrite l n) := .same

theorem calm_discardArrival (s : State) (l : Fin 8) : s.Calm (s.discardArrival l) :=
  Calm.trans (calm_modifyLane rfl : s.Calm (s.modifyLane l fun x => x.nextFrame .dropping)) .same

theorem calm_blockDelivered (s : State) (l : Fin 8) (d : BlockData) : s.Calm (s.blockDelivered l d) := by
  unfold State.blockDelivered
  split
  · exact .refl s
  · exact .refl s
  · next lfn n _ =>
    have counted : s.Calm (s.modifyLane l fun x => { x with port := .taking lfn (n + 1) }) := calm_modifyLane rfl
    simp only []
    split
    · exact (counted.trans .same).trans (calm_grant _)
    · exact counted

/-! ### Jogs and levers -/

theorem takeJog_uses (x : Channel) (m : JogMotion) : (x.takeJog m).uses = x.uses := by
  have still : x.source.withoutDelay.clipNumber = x.source.clipNumber := by cases x.source <;> rfl
  unfold Channel.takeJog
  simp only []
  split
  · rfl
  · rfl
  all_goals
    split
    · simp only [Channel.uses, still]
    · rfl

end Sys2Proof.Machine
/-!
PROOFS. The invariants of the Clip Table read record by record, and a change of records that keeps them.
-/

namespace Sys2Proof.Machine

/-! ### Record by record -/

/-- A record within the Clip Table's bounds (R44, R50, R62, R68). -/
structure Clip.Fine (c : Clip) : Prop where
  levels : c.el ≤ c.vl ∧ c.vl ≤ 3
  label  : c.label.length ≤ 16
  lock   : c.locked = true → c.state ≠ .absent

theorem Clip.fine_free : Clip.free.Fine := ⟨by decide, by decide, by decide⟩

/-- The Clip Table lists records that are not FREE in order, numbered from 1 to 1,023 (R44). -/
structure State.Table (s : State) : Prop where
  inOrder : Sparse.Sorted s.clips
  numbers : ∀ e ∈ s.clips, 1 ≤ e.1 ∧ e.1 ≤ 1023 ∧ e.2.state ≠ .free

/-- What holds of the FREE record holds of every listed record just when it holds of every clip. -/
theorem forall_clips_iff {s : State} (sorted : Sparse.Sorted s.clips) {p : Clip → Prop} (free : p Clip.free) :
    (∀ e ∈ s.clips, p e.2) ↔ ∀ n, p (s.clip n) := by
  refine ⟨fun h n => ?_, fun h e he => clip_of_mem sorted he ▸ h e.1⟩
  rcases clip_eq_free_or_mem s n with none | listed
  · exact none ▸ free
  · exact h _ listed

theorem clipsSound_iff (s : State) :
    s.clipsSound ↔ s.Table ∧ (∀ n, (s.clip n).Fine) ∧ ∀ m, (s.mark m).el ≤ (s.mark m).vl ∧ (s.mark m).vl ≤ 3 := by
  constructor
  · intro sound
    refine ⟨⟨sound.inOrder, sound.numbers⟩, (forall_clips_iff sound.inOrder Clip.fine_free).mp fun e he => ?_, sound.lines⟩
    exact ⟨sound.levels e he, sound.labels e he, sound.locks e he⟩
  · rintro ⟨table, fine, lines⟩
    have listed := (forall_clips_iff table.inOrder Clip.fine_free).mpr fine
    exact ⟨table.inOrder, table.numbers, fun e he => (listed e he).levels, fun e he => (listed e he).label,
      fun e he => (listed e he).lock, lines⟩

theorem State.clipsSound.table {s : State} (sound : s.clipsSound) : s.Table := ((clipsSound_iff s).mp sound).1

theorem State.clipsSound.fine {s : State} (sound : s.clipsSound) (n : Nat) : (s.clip n).Fine :=
  ((clipsSound_iff s).mp sound).2.1 n

theorem State.Table.inRange {s : State} (table : s.Table) {n : Nat} (used : (s.clip n).state ≠ .free) : 1 ≤ n ∧ n ≤ 1023 := by
  obtain ⟨low, high, _⟩ := table.numbers _ (clip_mem_of_state used)
  exact ⟨low, high⟩

theorem State.Table.setClip {s : State} (table : s.Table) {n : Nat} (inRange : 1 ≤ n ∧ n ≤ 1023) (c : Clip) :
    (s.setClip n c).Table := by
  unfold State.setClip
  split
  · exact ⟨Sparse.sorted_erase n table.inOrder, fun e he => table.numbers e (List.mem_filter.mp he).1⟩
  · next used =>
    refine ⟨Sparse.sorted_insert n c table.inOrder, fun e he => ?_⟩
    rcases Sparse.mem_insert he with rfl | he
    · exact ⟨inRange.1, inRange.2, used⟩
    · exact table.numbers e he

/-! ### Protection, record by record (R33) -/

/-- The clip is locked and its range on its lane has the LFN. -/
def Clip.protects (c : Clip) (l : Fin 8) (n : Nat) : Bool := c.locked && c.lane == l && c.covers n

theorem Clip.protects_iff (c : Clip) (l : Fin 8) (n : Nat) :
    c.protects l n = true ↔ c.locked = true ∧ c.lane = l ∧ c.covers n = true := by
  simp [Clip.protects, and_assoc]

theorem Clip.protects_unlocked {c : Clip} (unlocked : c.locked = false) (l : Fin 8) (n : Nat) : c.protects l n = false := by
  simp [Clip.protects, unlocked]

theorem isHeld_iff_protects {s : State} (sorted : Sparse.Sorted s.clips) (l : Fin 8) (n : Nat) :
    s.isHeld l n = true ↔ ∃ k, (s.clip k).protects l n = true := by
  have none : ¬Clip.free.protects l n = true := by simp [Clip.protects, Clip.free, Clip.locked]
  have each := forall_clips_iff sorted (p := fun c => ¬c.protects l n = true) none
  rw [← not_iff_not, not_exists, ← each]
  simp only [State.isHeld, Clip.protects, List.any_eq_true, not_exists, not_and]

/-- The held entries of a lane are those that its locked clips cover. -/
theorem heldEntries_length (s : State) (l : Fin 8) :
    (s.heldEntries l).length = (s.lane l).entries.countP fun e => s.isHeld l e.lfn :=
  (List.countP_eq_length_filter ..).symm

/-- The protection of frames, record by record. -/
structure State.Protected (s : State) : Prop where
  held      : ∀ l, (s.lane l).held = (s.lane l).entries.countP fun e => s.isHeld l e.lfn
  newest    : ∀ l, ∀ e ∈ (s.lane l).entries, ∃ a, (s.lane l).newestAssigned = some a ∧ e.lfn ≤ a
  next      : ∀ l a, (s.lane l).newestAssigned = some a → a < (s.lane l).nextLfn
  marked    : ∀ n, (s.clip n).state = .opened ∨ (s.clip n).state = .closed → (s.lane (s.clip n).lane).newestAssigned ≠ none
  exported  : ∀ n, (s.clip n).exportLock = true → (s.clip n).state = .closed
  exporting : s.exporter.state = .running → (s.clip s.exporter.clip).exportLock = true

theorem protectionSound_iff {s : State} (sorted : Sparse.Sorted s.clips) : s.protectionSound ↔ s.Protected := by
  have marked := forall_clips_iff sorted
    (p := fun c => c.state = .opened ∨ c.state = .closed → (s.lane c.lane).newestAssigned ≠ none) (by simp [Clip.free])
  have exported := forall_clips_iff sorted (p := fun c => c.exportLock = true → c.state = .closed) (by simp [Clip.free])
  constructor
  · intro h
    exact ⟨fun l => (h.held l).trans (heldEntries_length s l), h.newest, h.next, marked.mp h.marked, exported.mp h.exported,
      h.exporting⟩
  · intro h
    exact ⟨fun l => (h.held l).trans (heldEntries_length s l).symm, h.newest, h.next, marked.mpr h.marked,
      exported.mpr h.exported, h.exporting⟩

theorem State.Sound.protected {s : State} (sound : s.Sound) : s.Protected :=
  (protectionSound_iff sound.clips.inOrder).mp sound.protection

/-! ### A change of the clip records alone -/

theorem State.OnlyClips.channels {s t : State} (only : s.OnlyClips t) : t.channels = s.channels := by
  have := congrArg State.channels only
  exact this

theorem State.OnlyClips.exporter {s t : State} (only : s.OnlyClips t) : t.exporter = s.exporter := by
  have := congrArg State.exporter only
  exact this

theorem State.OnlyClips.mark {s t : State} (only : s.OnlyClips t) (m : Fin 8) : t.mark m = s.mark m := by
  have marks : t.marks = s.marks := by
    have := congrArg State.marks only
    exact this
  rw [State.mark, marks, ← State.mark]

theorem State.OnlyClips.roles {s t : State} (only : s.OnlyClips t) (n : Nat) : t.roles n = s.roles n := by
  have := congrArg (State.roles · n) only
  exact this

theorem State.OnlyClips.claimsSound {s t : State} (only : s.OnlyClips t) (sound : s.claimsSound) : t.claimsSound := by
  have same : State.claimsSound { t with clips := s.clips, link := s.link, fresh := s.fresh } :=
    (show { t with clips := s.clips, link := s.link, fresh := s.fresh } = s from only).symm ▸ sound
  exact ⟨same.counts, same.fetches, same.frame, same.queued⟩

/-- A record takes another's place and keeps its use count; a used record stays used. -/
structure Clip.Replaces (c' c : Clip) : Prop where
  useCount : c'.useCount = c.useCount
  used     : c.state ≠ .free → c'.state ≠ .free
  fine     : c'.Fine

theorem Clip.Fine.replaces {c : Clip} (fine : c.Fine) : c.Replaces c := ⟨rfl, id, fine⟩

/-- In a state, a record takes another's place: it protects the same entries, its lane has assigned an LFN if it is OPEN or CLOSED, and
an export lock stays on a CLOSED record. -/
structure State.Protects (s : State) (c' c : Clip) : Prop where
  entries    : ∀ l, ∀ e ∈ (s.lane l).entries, c'.protects l e.lfn = c.protects l e.lfn
  marked     : c'.state = .opened ∨ c'.state = .closed → (s.lane c'.lane).newestAssigned ≠ none
  exportLock : c'.exportLock = c.exportLock
  exported   : c'.exportLock = true → c'.state = .closed

theorem State.Protected.protects {s : State} (h : s.Protected) (n : Nat) : s.Protects (s.clip n) (s.clip n) :=
  ⟨fun _ _ _ => rfl, h.marked n, rfl, h.exported n⟩

/-- Records that replace those before keep the table and its uses. -/
theorem State.OnlyClips.uses {s t : State} (only : s.OnlyClips t) (table : s.Table → t.Table)
    (record : s.clipsSound → ∀ k, (t.clip k).Replaces (s.clip k)) (sound : s.clipsSound ∧ s.usesSound) :
    t.clipsSound ∧ t.usesSound := by
  obtain ⟨clips, uses⟩ := sound
  have replaces := record clips
  refine ⟨(clipsSound_iff t).mpr ⟨table clips.table, fun k => (replaces k).fine, fun m => ?_⟩, fun n => ?_, fun m => ?_,
    fun m k => ?_, ?_⟩
  · rw [only.mark]; exact clips.lines m
  · rw [(replaces n).useCount, only.roles]; exact uses.counts n
  · rw [only.mark]; exact (uses.working m).imp_right (replaces _).used
  · rw [only.mark, only.mark]; exact uses.groups m k
  · rw [only.exporter]; exact uses.frames

theorem isHeld_of_protects {s t : State} (before : Sparse.Sorted s.clips) (after : Sparse.Sorted t.clips) {l : Fin 8} {n : Nat}
    (same : ∀ k, (t.clip k).protects l n = (s.clip k).protects l n) : t.isHeld l n = s.isHeld l n := by
  rw [Bool.eq_iff_iff, isHeld_iff_protects after, isHeld_iff_protects before]
  simp only [same]

/-- Records that protect what those before did keep the protection of frames. -/
theorem State.OnlyClips.protectionSound {s t : State} (only : s.OnlyClips t) (table : s.Table → t.Table) (sound : s.Sound)
    (protects : ∀ k, s.Protects (t.clip k) (s.clip k)) : t.protectionSound := by
  have before := sound.protected
  have sorted := (table sound.clips.table).inOrder
  refine (protectionSound_iff sorted).mpr ⟨fun l => ?_, fun l => ?_, fun l => ?_, fun n => ?_, fun n => ?_, fun running => ?_⟩
  · rw [only.lane, before.held]
    exact List.countP_congr fun e he => by
      rw [isHeld_of_protects sound.clips.inOrder sorted fun k => (protects k).entries l e he]
  · rw [only.lane]; exact before.newest l
  · rw [only.lane]; exact before.next l
  · rw [only.lane]; exact (protects n).marked
  · exact (protects n).exported
  · rw [only.exporter] at running ⊢
    rw [(protects _).exportLock]
    exact before.exporting running

/-- Records that take the place of those before keep every invariant. -/
theorem safe_of_clips {s t : State} (only : s.OnlyClips t) (table : s.Table → t.Table)
    (record : s.clipsSound → ∀ k, (t.clip k).Replaces (s.clip k))
    (guard : s.Sound → ∀ k, s.Protects (t.clip k) (s.clip k)) : s.Safe t where
  lanes sound l := by rw [only.lane]; exact sound l
  clips := only.uses table record
  all sound := ⟨only.protectionSound table sound (guard sound), only.claimsSound sound.claims⟩

theorem clip_setClip_used {s : State} {n : Nat} {c : Clip} (used : c.state ≠ .free) (k : Nat) :
    (s.setClip n c).clip k = if n = k then c else s.clip k := by
  rw [clip_setClip, if_neg used]

/-- One record takes another's place. -/
theorem safe_setClip {s : State} {n : Nat} {c : Clip} (inRange : s.Table → 1 ≤ n ∧ n ≤ 1023) (used : c.state ≠ .free)
    (record : s.clipsSound → c.Replaces (s.clip n)) (guard : s.Sound → s.Protects c (s.clip n)) : s.Safe (s.setClip n c) := by
  refine safe_of_clips (.setClip s n c) (fun table => table.setClip (inRange table) c) (fun sound k => ?_) fun sound k => ?_
  · rw [clip_setClip_used used]
    split
    · next here => exact here ▸ record sound
    · exact (sound.fine k).replaces
  · rw [clip_setClip_used used]
    split
    · next here => exact here ▸ guard sound
    · exact sound.protected.protects k

/-- A used record takes new values. -/
theorem safe_setClip_of_used {s : State} {n : Nat} {c : Clip} (before : (s.clip n).state ≠ .free) (used : c.state ≠ .free)
    (record : s.clipsSound → c.useCount = (s.clip n).useCount ∧ c.Fine) (guard : s.Sound → s.Protects c (s.clip n)) :
    s.Safe (s.setClip n c) :=
  safe_setClip (fun table => table.inRange before) used
    (fun sound => ⟨(record sound).1, fun _ => used, (record sound).2⟩) guard

end Sys2Proof.Machine
/-!
PROOFS. The closes, marks and labels of clips, and clips becoming ABSENT, keep the invariants.
-/

namespace Sys2Proof.Machine

/-! ### Closes at a planned out (R37) -/

theorem Clip.covers_closed_planned {c : Clip} {q : Nat} (state : c.state = .opened) (planned : c.planned = some q)
    (tc : Option Timecode) (n : Nat) :
    ({ c with state := .closed, out := some q, planned := none, outTc := tc } : Clip).covers n = c.covers n := by
  simp [Clip.covers, Clip.range, state, planned]

theorem safe_closeClip_planned {s : State} {n q : Nat} (state : (s.clip n).state = .opened) (planned : (s.clip n).planned = some q) :
    s.Safe (s.closeClip n q) := by
  have used : (s.clip n).state ≠ .free := by simp [state]
  rw [State.closeClip, State.modifyClip, if_neg used]
  refine safe_setClip_of_used used (by simp) (fun sound => ⟨rfl, ?_⟩) fun sound => ⟨fun l e _ => ?_, fun _ => ?_, rfl, fun _ => rfl⟩
  · exact ⟨(sound.fine n).levels, (sound.fine n).label, fun _ => by simp⟩
  · simp only [Clip.protects, Clip.covers_closed_planned state planned]
    rfl
  · exact sound.protected.marked n (.inl state)

/-- An OPEN clip, or one whose planned out has been reached. -/
def Clip.Plannable (c : Clip) : Prop := c.state = .opened ∨ c.planned = none

theorem safe_closePlannedClip {s : State} {n : Nat} (l : Fin 8) (plannable : (s.clip n).Plannable) :
    s.Safe (s.closePlannedClip l n) := by
  unfold State.closePlannedClip
  split
  · exact .refl s
  · next q planned =>
    have state : (s.clip n).state = .opened := plannable.resolve_right (by simp [planned])
    exact (safe_closeClip_planned state planned).calm (calm_post ..)

theorem plannable_closePlannedClip {s : State} {k : Nat} (l : Fin 8) (n : Nat) (plannable : (s.clip k).Plannable) :
    ((s.closePlannedClip l n).clip k).Plannable := by
  unfold State.closePlannedClip
  split
  · exact plannable
  · rw [clip_post, clip_closeClip]
    split
    · exact .inr rfl
    · exact plannable

theorem safe_closePlanned (s : State) (l : Fin 8) (bound : Nat) : s.Safe (s.closePlanned l bound) := by
  by_cases sorted : Sparse.Sorted s.clips
  · refine State.Safe.foldl
      (p := fun t => ∀ k ∈ s.clipsOf l fun c => c.state == .opened && (c.planned.any fun q => q ≤ bound), (t.clip k).Plannable)
      (fun t n hn plannable => ⟨safe_closePlannedClip l (plannable n hn),
        fun k hk => plannable_closePlannedClip l n (plannable k hk)⟩) fun k hk => ?_
    obtain ⟨_, opened⟩ := (mem_clipsOf sorted l rfl k).mp hk
    simp only [Bool.and_eq_true, beq_iff_eq] at opened
    exact .inl opened.1
  · have only : s.OnlyClips (s.closePlanned l bound) := .closePlanned s l bound
    exact ⟨fun sound k => by rw [only.lane]; exact sound k, fun sound => absurd sound.1.inOrder sorted,
      fun sound => absurd sound.clips.inOrder sorted⟩

theorem safe_closeBelow (s : State) (l : Fin 8) (bound : Nat) : s.Safe (s.closeBelow l bound) := by
  cases bound with
  | zero => exact .refl s
  | succ b => exact safe_closePlanned s l b

/-! ### Clips becoming ABSENT (R38, R48) -/

theorem State.Protects.of_unlocked {s : State} {c c' : Clip} (before : c.locked = false) (after : c'.locked = false)
    (marked : c'.state = .opened ∨ c'.state = .closed → (s.lane c'.lane).newestAssigned ≠ none) : s.Protects c' c := by
  have flags {x : Clip} (h : x.locked = false) : x.exportLock = false := by
    simp only [Clip.locked, Bool.or_eq_false_iff] at h
    exact h.2
  exact ⟨fun l e _ => by rw [Clip.protects_unlocked before, Clip.protects_unlocked after], marked,
    (flags after).trans (flags before).symm, by simp [flags after]⟩

theorem safe_makeAbsent {s : State} {n : Nat} (l : Fin 8) (lfn cause : Nat) (unlocked : (s.clip n).locked = false) :
    s.Safe (s.makeAbsent l lfn cause n) := by
  refine State.Safe.calm ?_ (calm_post ..)
  by_cases free : (s.clip n).state = .free
  · rw [State.modifyClip, if_pos free]
    exact .refl s
  · rw [State.modifyClip, if_neg free]
    refine safe_setClip_of_used free (by simp) (fun sound => ⟨rfl, (sound.fine n).levels, (sound.fine n).label, ?_⟩)
      fun sound => .of_unlocked unlocked (by exact unlocked) (by simp)
    intro locked
    exact absurd (show (s.clip n).locked = true from locked) (by simp [unlocked])

theorem safe_foldl_makeAbsent {s : State} (l : Fin 8) {p : Clip → Bool} (unlocked : ∀ c, p c = true → c.locked = false)
    (lfn cause : Nat) : s.Safe ((s.clipsOf l p).foldl (fun t n => t.makeAbsent l lfn cause n) s) := by
  by_cases sorted : Sparse.Sorted s.clips
  · refine State.Safe.foldl (p := fun t => ∀ k ∈ s.clipsOf l p, (t.clip k).locked = false)
      (fun t n hn kept => ⟨safe_makeAbsent l lfn cause (kept n hn), fun k hk => ?_⟩) fun k hk => ?_
    · rw [clip_makeAbsent]
      split
      · split
        · exact kept k hk
        · exact kept k hk
      · exact kept k hk
    · obtain ⟨e, he, rfl⟩ := List.mem_map.mp hk
      obtain ⟨listed, here⟩ := List.mem_filter.mp he
      rw [clip_of_mem sorted listed]
      exact unlocked _ (Bool.and_eq_true_iff.mp here).2
  · have only : s.OnlyClips ((s.clipsOf l p).foldl (fun t n => t.makeAbsent l lfn cause n) s) :=
      .foldl (fun t n => .makeAbsent t l lfn cause n) _ _
    exact ⟨fun sound k => by rw [only.lane]; exact sound k, fun sound => absurd sound.1.inOrder sorted,
      fun sound => absurd sound.clips.inOrder sorted⟩

theorem safe_evictedAt (s : State) (l : Fin 8) (lfn : Nat) : s.Safe (s.evictedAt l lfn) :=
  safe_foldl_makeAbsent l (fun c goes => ((Clip.mayBecomeAbsent_iff c).mp (Bool.and_eq_true_iff.mp goes).1).1) lfn 0

theorem safe_laneConfigured (s : State) (l : Fin 8) : s.Safe (s.laneConfigured l) :=
  safe_foldl_makeAbsent l (fun c goes => ((Clip.mayBecomeAbsent_iff c).mp goes).1) 0 1

/-! ### Rights and labels (R51, R68) -/

theorem safe_setRights {s : State} {n vl el : Nat} (used : (s.clip n).state ≠ .free) (levels : el ≤ vl ∧ vl ≤ 3) :
    s.Safe (s.setClip n { s.clip n with vl, el }) :=
  safe_setClip_of_used used used (fun sound => ⟨rfl, levels, (sound.fine n).label, (sound.fine n).lock⟩)
    fun sound => ⟨fun _ _ _ => rfl, sound.protected.marked n, rfl, sound.protected.exported n⟩

theorem safe_setLabel {s : State} {n : Nat} {label : List Byte} (used : (s.clip n).state ≠ .free) (short : label.length ≤ 16) :
    s.Safe (s.setClip n { s.clip n with label }) :=
  safe_setClip_of_used used used (fun sound => ⟨rfl, (sound.fine n).levels, short, (sound.fine n).lock⟩)
    fun sound => ⟨fun _ _ _ => rfl, sound.protected.marked n, rfl, sound.protected.exported n⟩

/-! ### New points (R56 to R60) -/

/-- The record with other points and timecodes; its state may change, but not to FREE. -/
structure Clip.Repointed (c' c : Clip) : Prop where
  lane       : c'.lane = c.lane
  opLock     : c'.opLock = c.opLock
  exportLock : c'.exportLock = c.exportLock
  vl         : c'.vl = c.vl
  el         : c'.el = c.el
  label      : c'.label = c.label
  useCount   : c'.useCount = c.useCount
  used       : c.state ≠ .free → c'.state ≠ .free

namespace Clip.Repointed

theorem refl (c : Clip) : c.Repointed c := ⟨rfl, rfl, rfl, rfl, rfl, rfl, rfl, id⟩

theorem trans {a b c : Clip} (h : b.Repointed a) (g : c.Repointed b) : c.Repointed a :=
  ⟨g.lane.trans h.lane, g.opLock.trans h.opLock, g.exportLock.trans h.exportLock, g.vl.trans h.vl, g.el.trans h.el,
    g.label.trans h.label, g.useCount.trans h.useCount, fun used => g.used (h.used used)⟩

/-- Points and state are put in place. -/
theorem put (c : Clip) {state : ClipState} (used : c.state ≠ .free → state ≠ .free) (inLfn : Nat) (out planned : Option Nat) :
    ({ c with state, inLfn, out, planned } : Clip).Repointed c := ⟨rfl, rfl, rfl, rfl, rfl, rfl, rfl, used⟩

theorem retimed (s : State) (c : Clip) : (s.retimed c).Repointed c := ⟨rfl, rfl, rfl, rfl, rfl, rfl, rfl, id⟩

theorem markIn (c : Clip) (n : Nat) : (c.markIn n).clip.Repointed c := by
  unfold Clip.markIn
  split
  · simp only []
    split
    · exact put c id _ _ _
    · exact put c id _ _ _
  · exact put c (fun _ => by simp) _ _ _
  · exact put c id _ _ _
  · exact put c id _ _ _

theorem closeAt (c : Clip) (n : Nat) : (c.closeAt n).clip.Repointed c := by
  unfold Clip.closeAt
  split
  · exact put c (fun _ => by simp) _ _ _
  · exact put c (fun _ => by simp) _ _ _

theorem markOut (c : Clip) (n : Nat) (planned : Bool) : (c.markOut n planned).clip.Repointed c := by
  unfold Clip.markOut
  split
  · exact put c (fun _ => by simp) _ _ _
  · exact closeAt c n

theorem span (c : Clip) (a b : Nat) (x : Lane) : (c.span a b x).clip.Repointed c := by
  unfold Clip.span
  simp only []
  split
  · exact put c (fun _ => by simp) _ _ _
  · exact put c (fun _ => by simp) _ _ _

theorem locked {c' c : Clip} (h : c'.Repointed c) : c'.locked = c.locked := by
  simp only [Clip.locked, h.opLock, h.exportLock]

end Clip.Repointed

theorem clip_free_of_state {s : State} (table : s.Table) {n : Nat} (free : (s.clip n).state = .free) : s.clip n = Clip.free := by
  rcases clip_eq_free_or_mem s n with none | listed
  · exact none
  · exact absurd free (table.numbers _ listed).2.2

/-- New points on a record that no lock protects. -/
theorem safe_repointed {s : State} {n : Nat} {c : Clip} (used : (s.clip n).state ≠ .free)
    (present : c.locked = true → c.state ≠ .absent) (unlocked : s.Sound → (s.clip n).locked = false)
    (points : c.Repointed (s.clip n)) (assigned : s.Sound → (s.lane (s.clip n).lane).newestAssigned ≠ none) :
    s.Safe (s.setClip n c) := by
  refine safe_setClip_of_used used (points.used used) (fun sound => ⟨points.useCount, ?_, ?_, present⟩) fun sound =>
    .of_unlocked (unlocked sound) (points.locked.trans (unlocked sound)) fun _ => points.lane ▸ assigned sound
  · rw [points.el, points.vl]; exact (sound.fine n).levels
  · rw [points.label]; exact (sound.fine n).label

theorem safe_repointed_unlocked {s : State} {n : Nat} {c : Clip} (used : (s.clip n).state ≠ .free)
    (unlocked : (s.clip n).locked = false) (points : c.Repointed (s.clip n))
    (assigned : s.Sound → (s.lane (s.clip n).lane).newestAssigned ≠ none) : s.Safe (s.setClip n c) :=
  safe_repointed used (by simp [points.locked.trans unlocked]) (fun _ => unlocked) points assigned

/-- A new record in the place of a FREE one. -/
theorem safe_created {s : State} {n : Nat} {c : Clip} {l : Fin 8} {lfn vl el : Nat} {rpn : Count32}
    (free : (s.clip n).state = .free) (inRange : 1 ≤ n ∧ n ≤ 1023) (levels : s.clipsSound → el ≤ vl ∧ vl ≤ 3)
    (points : c.Repointed (newClip l lfn vl el rpn)) (assigned : s.Sound → (s.lane l).newestAssigned ≠ none) :
    s.Safe (s.setClip n c) := by
  have unlocked : c.locked = false := points.locked.trans rfl
  have used : c.state ≠ .free := points.used (by simp [newClip])
  refine safe_setClip (fun _ => inRange) used (fun sound => ⟨?_, fun _ => used, ?_, ?_, ?_⟩) fun sound =>
    .of_unlocked ?_ unlocked fun _ => by rw [points.lane]; exact assigned sound
  · rw [points.useCount, clip_free_of_state sound.table free]; rfl
  · rw [points.el, points.vl]; exact levels sound
  · rw [points.label]; simp [newClip, Clip.free]
  · simp [unlocked]
  · rw [clip_free_of_state sound.clips.table free]; rfl

/-! ### The commands that mark (R54 to R60) -/

theorem lowestFree_spec {s : State} {n : Nat} (h : s.lowestFree = some n) :
    (s.clip n).state = .free ∧ 1 ≤ n ∧ n ≤ 1023 := by
  refine ⟨by simpa using List.find?_some h, ?_⟩
  obtain ⟨k, hk, rfl⟩ := List.mem_map.mp (List.mem_of_find?_eq_some h)
  have := List.mem_range.mp hk
  omega

theorem recordFor_spec {s : State} {n k : Nat} (free : n = 0 ∨ (s.clip n).state = .free ∧ n ≤ 1023) (h : s.recordFor n = some k) :
    (s.clip k).state = .free ∧ 1 ≤ k ∧ k ≤ 1023 := by
  unfold State.recordFor at h
  split at h
  · exact lowestFree_spec h
  · next named =>
    cases h
    obtain ⟨state, high⟩ := free.resolve_left named
    exact ⟨state, Nat.one_le_iff_ne_zero.mpr named, high⟩

theorem Lane.assigned_of_inValid {x : Lane} {n : Nat} (valid : x.inValid n = true) : x.newestAssigned ≠ none := by
  obtain ⟨e, rest, a, _, newest, _⟩ := (Lane.inValid_iff x n).mp valid
  simp [newest]

theorem State.Protected.assigned_of_outValid {s : State} (h : s.Protected) {l : Fin 8} {n : Nat}
    (valid : (s.lane l).outValid n = true) : (s.lane l).newestAssigned ≠ none := by
  obtain ⟨e, rest, entries, _⟩ := (Lane.outValid_iff _ n).mp valid
  obtain ⟨a, newest, _⟩ := h.newest l e (by rw [entries]; exact List.mem_cons_self)
  simp [newest]

theorem resolvePoint_spec {s : State} {src : PointSource} {field clipLane : Option (Fin 8)} {out : Bool} {l : Fin 8} {n : Nat}
    (h : s.resolvePoint src field clipLane out = .ok (l, n)) :
    (∀ k, clipLane = some k → k = l) ∧ (if out then (s.lane l).outValid n else (s.lane l).inValid n) = true := by
  unfold State.resolvePoint at h
  split at h
  · cases h
  · next k _ =>
    split at h
    · cases h
    · next here =>
      split at h
      · cases h
      · next m _ =>
        by_cases empty : (s.lane k).entries.isEmpty = true
        · rw [if_pos empty] at h
          cases h
        · rw [if_neg empty] at h
          by_cases valid : (if out then (s.lane k).outValid m else (s.lane k).inValid m) = true
          · rw [if_pos valid] at h
            cases h
            exact ⟨fun k named => by simpa [named] using here, valid⟩
          · rw [if_neg valid] at h
            cases h

theorem resolvePoint_assigned {s : State} (sound : s.Sound) {src : PointSource} {field clipLane : Option (Fin 8)} {out : Bool}
    {l : Fin 8} {n : Nat} (h : s.resolvePoint src field clipLane out = .ok (l, n)) : (s.lane l).newestAssigned ≠ none := by
  have valid := (resolvePoint_spec h).2
  cases out with
  | false => exact Lane.assigned_of_inValid valid
  | true => exact sound.protected.assigned_of_outValid valid

theorem Lane.inValid_of_spanCheck {x : Lane} {a b : Nat} (h : x.spanCheck a b = none) : x.inValid a = true := by
  unfold Lane.spanCheck at h
  split at h
  · cases h
  · split at h
    · next valid => exact (Bool.and_eq_true_iff.mp valid).1
    · cases h

theorem safe_createByMark {s : State} {n : Nat} (free : n = 0 ∨ (s.clip n).state = .free ∧ n ≤ 1023) (src : PointSource)
    (field : Option (Fin 8)) (vl el level : Nat) : s.Safe (s.createByMark n src field vl el level).state := by
  unfold State.createByMark
  split
  · exact .refl s
  · next allowed =>
    split
    · exact .refl s
    · next l lfn point =>
      split
      · exact .refl s
      · next k record =>
        obtain ⟨state, inRange⟩ := recordFor_spec free record
        have levels := (levelsAllowed_iff ..).mp (by simpa using allowed)
        exact safe_created state inRange (fun _ => levels.2) (.retimed s _) fun sound => resolvePoint_assigned sound point

theorem safe_markExisting {s : State} {n : Nat} (used : (s.clip n).state ≠ .free) (src : PointSource) (field : Option (Fin 8))
    (out : Bool) (level : Nat) : s.Safe (s.markExisting n src field out level).state := by
  unfold State.markExisting
  simp only []
  split
  · exact .refl s
  · split
    · exact .refl s
    · next unlocked =>
      split
      · exact .refl s
      · split
        · exact .refl s
        · next l lfn point =>
          have lane := (resolvePoint_spec point).1 _ rfl
          refine safe_repointed_unlocked used (by simpa using unlocked) (.trans ?_ (.retimed s _)) fun sound =>
            lane ▸ resolvePoint_assigned sound point
          split
          · exact .markOut _ _ _
          · exact .markIn _ _

theorem safe_clipMarkRequest (s : State) (f : MarkFields) (level : Nat) : s.Safe (s.clipMarkRequest f level).state := by
  unfold State.clipMarkRequest
  split
  · exact .refl s
  · split
    · exact .refl s
    · split
      · exact .refl s
      · next inRange =>
        split
        · exact safe_createByMark (.inl rfl) ..
        · split
          · next free =>
            split
            · exact .refl s
            · exact safe_createByMark (.inr ⟨free, by omega⟩) ..
          · next used => exact safe_markExisting used ..

theorem safe_createBySpan {s : State} {n : Nat} (free : n = 0 ∨ (s.clip n).state = .free ∧ n ≤ 1023) (l : Fin 8)
    (f : SpanFields) (level : Nat) : s.Safe (s.createBySpan n l f level).state := by
  unfold State.createBySpan
  split
  · exact .refl s
  · next allowed =>
    split
    · exact .refl s
    · next point =>
      split
      · exact .refl s
      · next k record =>
        obtain ⟨state, inRange⟩ := recordFor_spec free record
        have levels := (levelsAllowed_iff ..).mp (by simpa using allowed)
        exact safe_created state inRange (fun _ => levels.2) ((Clip.Repointed.span _ _ _ _).trans (.retimed s _)) fun _ =>
          Lane.assigned_of_inValid (Lane.inValid_of_spanCheck point)

theorem safe_spanExisting {s : State} {n : Nat} (used : (s.clip n).state ≠ .free) (l : Fin 8) (f : SpanFields) (level : Nat) :
    s.Safe (s.spanExisting n l f level).state := by
  unfold State.spanExisting
  simp only []
  split
  · exact .refl s
  · split
    · exact .refl s
    · next unlocked =>
      split
      · exact .refl s
      · next lane =>
        split
        · exact .refl s
        · next point =>
          refine safe_repointed_unlocked used (by simpa using unlocked) ((Clip.Repointed.span _ _ _ _).trans (.retimed s _)) fun _ => ?_
          rw [not_not.mp lane]
          exact Lane.assigned_of_inValid (Lane.inValid_of_spanCheck point)

end Sys2Proof.Machine
/-!
PROOFS. Locks set and released keep the invariants: the held count moves by the entries that a clip alone covers (R33 to R35).
-/

namespace Sys2Proof.Machine

/-! ### What a lock adds to the held entries -/

theorem isHeld_iff_or {s : State} (sorted : Sparse.Sorted s.clips) (k : Nat) (l : Fin 8) (n : Nat) :
    s.isHeld l n = true ↔ (s.clip k).protects l n = true ∨ ∃ j, j ≠ k ∧ (s.clip j).protects l n = true := by
  rw [isHeld_iff_protects sorted]
  constructor
  · rintro ⟨j, hj⟩
    by_cases here : j = k
    · exact .inl (here ▸ hj)
    · exact .inr ⟨j, here, hj⟩
  · rintro (hk | ⟨j, _, hj⟩)
    · exact ⟨k, hk⟩
    · exact ⟨j, hj⟩

/-- Of two tables that differ at one clip, locked in the second alone, the second holds what the first does and what the clip covers. -/
theorem isHeld_locking {s t : State} (before : Sparse.Sorted s.clips) (after : Sparse.Sorted t.clips) {k : Nat}
    (others : ∀ j, j ≠ k → t.clip j = s.clip j) (unlocked : (s.clip k).locked = false) (locked : (t.clip k).locked = true)
    {l : Fin 8} (lane : (t.clip k).lane = l) (n : Nat) : t.isHeld l n = (s.isHeld l n || (t.clip k).covers n) := by
  have same : (∃ j, j ≠ k ∧ (t.clip j).protects l n = true) ↔ ∃ j, j ≠ k ∧ (s.clip j).protects l n = true :=
    exists_congr fun j => and_congr_right fun other => by rw [others j other]
  rw [Bool.eq_iff_iff, Bool.or_eq_true, isHeld_iff_or after k, isHeld_iff_or before k, same,
    Clip.protects_unlocked unlocked, Clip.protects_iff]
  simp only [locked, lane, true_and, Bool.false_eq_true, false_or]
  exact or_comm

theorem isHeld_other_lane {s t : State} (before : Sparse.Sorted s.clips) (after : Sparse.Sorted t.clips) {k : Nat}
    (others : ∀ j, j ≠ k → t.clip j = s.clip j) {l m : Fin 8} (first : (s.clip k).lane = l) (second : (t.clip k).lane = l)
    (other : l ≠ m) (n : Nat) : t.isHeld m n = s.isHeld m n := by
  refine isHeld_of_protects before after fun j => ?_
  by_cases here : j = k
  · subst here
    simp [Clip.protects, first, second, beq_false_of_ne other]
  · rw [others j here]

theorem countP_or {α : Type} (p q : α → Bool) (as : List α) :
    as.countP (fun a => p a || q a) = as.countP p + as.countP fun a => q a && !p a := by
  induction as with
  | nil => rfl
  | cons a as ih =>
    simp only [List.countP_cons, ih]
    cases p a <;> cases q a <;> simp <;> omega

theorem Clip.covers_of_range {c : Clip} {r : LfnRange} (range : c.range = some r) (n : Nat) : c.covers n = r.has n := by
  simp [Clip.covers, range]

theorem Clip.range_used {c : Clip} {r : LfnRange} (range : c.range = some r) : c.state ≠ .free := by
  intro free
  simp [Clip.range, free] at range

/-- The entries of a lane that locks hold. -/
def State.heldCount (s : State) (l : Fin 8) : Nat := (s.lane l).entries.countP fun e => s.isHeld l e.lfn

theorem heldCount_locking {s t : State} (before : Sparse.Sorted s.clips) (after : Sparse.Sorted t.clips) {k : Nat}
    (others : ∀ j, j ≠ k → t.clip j = s.clip j) (unlocked : (s.clip k).locked = false) (locked : (t.clip k).locked = true)
    {l : Fin 8} (lane : (t.clip k).lane = l) {r : LfnRange} (range : (t.clip k).range = some r)
    (entries : (t.lane l).entries = (s.lane l).entries) : t.heldCount l = s.heldCount l + s.unheldIn l r := by
  unfold State.heldCount State.unheldIn
  rw [entries, ← countP_or]
  refine List.countP_congr fun e _ => ?_
  rw [isHeld_locking before after others unlocked locked lane, Clip.covers_of_range range]

/-! ### A record with other locks -/

/-- A record takes other flags and its lane another held count. -/
def State.relock (s : State) (k : Nat) (opLock exportLock : Bool) (held : Nat) : State :=
  (s.setClip k { s.clip k with opLock, exportLock }).setLane (s.clip k).lane { s.lane (s.clip k).lane with held }

section
variable {s : State} {k : Nat} {opLock exportLock : Bool} {held : Nat}

theorem relock_eq (s : State) (k : Nat) (opLock exportLock : Bool) (held : Nat) : s.relock k opLock exportLock held =
    (s.setLane (s.clip k).lane { s.lane (s.clip k).lane with held }).setClip k { s.clip k with opLock, exportLock } := by
  unfold State.relock State.setClip
  split <;> rfl

theorem relock_lane (l : Fin 8) : (s.relock k opLock exportLock held).lane l =
    if (s.clip k).lane = l then { s.lane l with held } else s.lane l := by
  unfold State.relock
  rw [State.lane_setLane_eq, State.lane_congr (State.setClip_lanes ..)]
  split
  · next here => rw [here]
  · rfl

theorem relock_clip (used : (s.clip k).state ≠ .free) (n : Nat) : (s.relock k opLock exportLock held).clip n =
    if k = n then { s.clip k with opLock, exportLock } else s.clip n := by
  exact (State.clip_congr rfl n).trans (clip_setClip_used (by exact used) n)

theorem relock_others (used : (s.clip k).state ≠ .free) (n : Nat) (other : n ≠ k) :
    (s.relock k opLock exportLock held).clip n = s.clip n := by
  rw [relock_clip used, if_neg (Ne.symm other)]

theorem relock_same (used : (s.clip k).state ≠ .free) :
    (s.relock k opLock exportLock held).clip k = { s.clip k with opLock, exportLock } := by
  rw [relock_clip used, if_pos rfl]

theorem State.Table.relock (table : s.Table) (used : (s.clip k).state ≠ .free) : (s.relock k opLock exportLock held).Table := by
  have set := table.setClip (table.inRange used) { s.clip k with opLock, exportLock }
  exact ⟨set.inOrder, set.numbers⟩

theorem relock_lanes
    (fits : (s.lane (s.clip k).lane).held ≤ (s.lane (s.clip k).lane).h → held ≤ (s.lane (s.clip k).lane).h)
    (sound : ∀ l, (s.lane l).sound) (l : Fin 8) : ((s.relock k opLock exportLock held).lane l).sound := by
  rw [relock_lane]
  split
  · next here =>
    have lane := sound l
    exact ⟨lane.rising, lane.assigned, lane.slots, lane.inOrder, lane.arrivals, lane.writes, lane.recording, lane.off,
      here ▸ fits (here ▸ lane.held), lane.ceiling⟩
  · exact sound l

/-- A record takes other flags, its lane a held count within its limit. -/
theorem relock_keeps (used : (s.clip k).state ≠ .free)
    (fits : (s.lane (s.clip k).lane).held ≤ (s.lane (s.clip k).lane).h → held ≤ (s.lane (s.clip k).lane).h)
    (present : (s.clip k).Fine → (opLock || exportLock) = true → (s.clip k).state ≠ .absent) :
    s.Keeps (s.relock k opLock exportLock held) := by
  have only : s.OnlyClips (s.setClip k { s.clip k with opLock, exportLock }) := .setClip ..
  refine ⟨relock_lanes fits, fun sound => ?_⟩
  · have uses := only.uses (fun table => table.setClip (table.inRange used) _) (fun sound n => ?_) sound
    · exact ⟨⟨uses.1.1, uses.1.2, uses.1.3, uses.1.4, uses.1.5, uses.1.6⟩, ⟨uses.2.1, uses.2.2, uses.2.3, uses.2.4⟩⟩
    · rw [clip_setClip_used (by exact used)]
      split
      · next here =>
        subst here
        have fine := sound.fine k
        exact ⟨rfl, id, fine.levels, fine.label, present fine⟩
      · exact (sound.fine n).replaces

/-- A record takes other flags, with the held count that goes with them. -/
theorem safe_relock (used : (s.clip k).state ≠ .free)
    (fits : (s.lane (s.clip k).lane).held ≤ (s.lane (s.clip k).lane).h → held ≤ (s.lane (s.clip k).lane).h)
    (present : (s.clip k).Fine → (opLock || exportLock) = true → (s.clip k).state ≠ .absent)
    (count : s.Sound → held = (s.relock k opLock exportLock held).heldCount (s.clip k).lane)
    (exported : s.Sound → exportLock = true → (s.clip k).state = .closed)
    (exporting : s.Sound → s.exporter.state = .running → s.exporter.clip = k → exportLock = true) :
    s.Safe (s.relock k opLock exportLock held) := by
  have only : s.OnlyClips (s.setClip k { s.clip k with opLock, exportLock }) := .setClip ..
  have exporter : (s.relock k opLock exportLock held).exporter = s.exporter := only.exporter
  have keeps := relock_keeps used fits present
  refine ⟨keeps.lanes, keeps.clips, fun sound => ?_⟩
  · have before := sound.protected
    have table := sound.clips.table
    have sorted := (State.Table.relock (opLock := opLock) (exportLock := exportLock) (held := held) table used).inOrder
    have same (l : Fin 8) : { (s.relock k opLock exportLock held).lane l with held := (s.lane l).held } = s.lane l := by
      rw [relock_lane]
      split <;> rfl
    have entries (l : Fin 8) : ((s.relock k opLock exportLock held).lane l).entries = (s.lane l).entries := by
      have := congrArg Lane.entries (same l)
      exact this
    have newest (l : Fin 8) : ((s.relock k opLock exportLock held).lane l).newestAssigned = (s.lane l).newestAssigned := by
      have := congrArg Lane.newestAssigned (same l)
      exact this
    have next (l : Fin 8) : ((s.relock k opLock exportLock held).lane l).nextLfn = (s.lane l).nextLfn := by
      have := congrArg Lane.nextLfn (same l)
      exact this
    refine ⟨(protectionSound_iff sorted).mpr ⟨fun l => ?_, fun l => ?_, fun l => ?_, fun n => ?_, fun n => ?_, fun running => ?_⟩, ?_⟩
    · by_cases here : (s.clip k).lane = l
      · subst here
        have lane := relock_lane (s := s) (k := k) (opLock := opLock) (exportLock := exportLock) (held := held) (s.clip k).lane
        rw [if_pos rfl] at lane
        exact (congrArg Lane.held lane).trans (count sound)
      · rw [relock_lane, if_neg here, before.held]
        exact List.countP_congr fun e _ => by
          rw [isHeld_other_lane table.inOrder sorted (relock_others used) rfl (by rw [relock_same used]) here]
    · rw [entries, newest]; exact before.newest l
    · rw [newest, next]; exact before.next l
    · rw [newest, relock_clip used]
      split
      · next here => subst here; exact before.marked k
      · exact before.marked n
    · rw [relock_clip used]
      split
      · next here => exact exported sound
      · exact before.exported n
    · rw [exporter] at running ⊢
      rw [relock_clip used]
      split
      · next here => exact exporting sound running here.symm
      · exact before.exporting running
    · refine sound.claims.of_same entries (fun c => ?_) (by rw [exporter]) fun c => ?_
      · exact congrArg Channel.fetch (State.channel_congr (show (s.relock k opLock exportLock held).channels = s.channels from
          only.channels) c)
      · rw [State.fetchOf, show (s.relock k opLock exportLock held).xfer = s.xfer from only.xfer, ← State.fetchOf]

end

/-! ### Lock admission (R34) -/

theorem admitLock_eq_some {s s' : State} {l : Fin 8} {r : LfnRange} (h : s.admitLock l r = some s') :
    (s.lane l).held + s.unheldIn l r ≤ (s.lane l).h ∧
      s' = s.setLane l { s.lane l with held := (s.lane l).held + s.unheldIn l r } := by
  unfold State.admitLock at h
  simp only [] at h
  split at h
  · cases h
  · next room =>
    cases h
    exact ⟨Nat.not_lt.mp room, rfl⟩

theorem lock_keeps {s s' : State} {k : Nat} {r : LfnRange} {opLock exportLock : Bool} (range : (s.clip k).range = some r)
    (admitted : s.admitLock (s.clip k).lane r = some s') (present : (s.clip k).state ≠ .absent) :
    s.Keeps (s'.setClip k { s.clip k with opLock, exportLock }) := by
  obtain ⟨room, rfl⟩ := admitLock_eq_some admitted
  rw [← relock_eq]
  exact relock_keeps (Clip.range_used range) (fun _ => room) fun _ _ => present

/-- An unlocked record takes a lock that its lane admits. -/
theorem safe_lock {s s' : State} {k : Nat} {r : LfnRange} {opLock exportLock : Bool} (range : (s.clip k).range = some r)
    (admitted : s.admitLock (s.clip k).lane r = some s') (unlocked : s.Sound → (s.clip k).locked = false)
    (locks : (opLock || exportLock) = true) (present : (s.clip k).state ≠ .absent)
    (exported : s.Sound → exportLock = true → (s.clip k).state = .closed)
    (exporting : s.Sound → s.exporter.state = .running → s.exporter.clip = k → exportLock = true) :
    s.Safe (s'.setClip k { s.clip k with opLock, exportLock }) := by
  have used := Clip.range_used range
  obtain ⟨room, rfl⟩ := admitLock_eq_some admitted
  rw [← relock_eq]
  refine safe_relock used (fun _ => room) (fun _ _ => present) (fun sound => ?_) exported exporting
  have table := sound.clips.table
  have same := relock_same (opLock := opLock) (exportLock := exportLock)
    (held := (s.lane (s.clip k).lane).held + s.unheldIn (s.clip k).lane r) used
  rw [heldCount_locking table.inOrder (table.relock used).inOrder (relock_others used) (unlocked sound) (by rw [same]; exact locks)
    (by rw [same]) (by rw [same]; exact range) (by rw [relock_lane, if_pos rfl])]
  exact congrArg (· + _) (sound.protected.held _)

/-! ### Lock release (R35, R62) -/

theorem Clip.range_of_used {c : Clip} (used : c.state ≠ .free) : ∃ r, c.range = some r := by
  cases state : c.state with
  | free => exact absurd state used
  | opened => simp [Clip.range, state]
  | closed => simp [Clip.range, state]
  | absent => simp [Clip.range, state]

/-- A release leaves the lane the entries held by others. -/
theorem relax_eq_relock (s : State) {k : Nat} {opLock exportLock : Bool} {r : LfnRange} (range : (s.clip k).range = some r) :
    s.relax k { s.clip k with opLock, exportLock } =
      s.relock k opLock exportLock (if (opLock || exportLock) = true then (s.lane (s.clip k).lane).held
        else (s.lane (s.clip k).lane).held -
          (s.setClip k { s.clip k with opLock, exportLock }).unheldIn (s.clip k).lane r) := by
  have record : ({ s.clip k with opLock, exportLock } : Clip).locked = (opLock || exportLock) := rfl
  cases locked : (opLock || exportLock) with
  | true =>
    rw [relax_locked (record.trans locked), relock_eq, if_pos rfl, show ({ s.lane (s.clip k).lane with
      held := (s.lane (s.clip k).lane).held } : Lane) = s.lane (s.clip k).lane from rfl, State.setLane_lane]
  | false =>
    rw [relax_unlocked (record.trans locked) range, if_neg (by simp)]
    unfold State.release State.modifyLane State.relock
    rw [State.lane_congr (State.setClip_lanes ..)]

section
variable {s : State} {k : Nat} {opLock exportLock : Bool}

theorem relax_lanes (used : (s.clip k).state ≠ .free) (sound : ∀ l, (s.lane l).sound) (l : Fin 8) :
    ((s.relax k { s.clip k with opLock, exportLock }).lane l).sound := by
  obtain ⟨r, range⟩ := Clip.range_of_used used
  rw [relax_eq_relock s range]
  refine relock_lanes (fun fits => ?_) sound l
  split
  · exact fits
  · exact (Nat.sub_le _ _).trans fits

theorem relax_keeps (used : (s.clip k).state ≠ .free) (fewer : (opLock || exportLock) = true → (s.clip k).locked = true) :
    s.Keeps (s.relax k { s.clip k with opLock, exportLock }) := by
  refine ⟨relax_lanes used, ?_⟩
  obtain ⟨r, range⟩ := Clip.range_of_used used
  rw [relax_eq_relock s range]
  refine (relock_keeps used (fun fits => ?_) fun fine locked => fine.lock (fewer locked)).clips
  split
  · exact fits
  · exact (Nat.sub_le _ _).trans fits

/-- A locked record takes fewer flags, with the release when it loses its last one. -/
theorem safe_relax (used : (s.clip k).state ≠ .free) (fewer : (opLock || exportLock) = true → (s.clip k).locked = true)
    (before : s.Sound → (s.clip k).locked = true)
    (exported : s.Sound → exportLock = true → (s.clip k).state = .closed)
    (exporting : s.Sound → s.exporter.state = .running → s.exporter.clip = k → exportLock = true) :
    s.Safe (s.relax k { s.clip k with opLock, exportLock }) := by
  have record : ({ s.clip k with opLock, exportLock } : Clip).locked = (opLock || exportLock) := rfl
  obtain ⟨r, range⟩ := Clip.range_of_used used
  let u := s.setClip k { s.clip k with opLock, exportLock }
  have change (n : Nat) : u.clip n = if k = n then { s.clip k with opLock, exportLock } else s.clip n :=
    clip_setClip_used (by exact used) n
  rw [relax_eq_relock s range]
  refine safe_relock used (fun fits => ?_) (fun fine locked => fine.lock (fewer locked)) (fun sound => ?_) exported exporting
  · split
    · exact fits
    · exact (Nat.sub_le _ _).trans fits
  have table := sound.clips.table
  have after := (table.setClip (table.inRange used) { s.clip k with opLock, exportLock }).inOrder
  have held : (s.lane (s.clip k).lane).held = s.heldCount (s.clip k).lane := sound.protected.held _
  have same (v : Nat) : (s.relock k opLock exportLock v).heldCount (s.clip k).lane = u.heldCount (s.clip k).lane := by
    unfold State.heldCount
    rw [relock_lane, if_pos rfl, State.lane_congr (State.setClip_lanes ..)]
    rfl
  rw [same]
  split
  · next locked =>
    rw [held]
    unfold State.heldCount
    rw [show u.lane (s.clip k).lane = s.lane (s.clip k).lane from State.lane_congr (State.setClip_lanes ..) _]
    refine List.countP_congr fun e _ => ?_
    rw [isHeld_of_protects (t := u) table.inOrder after fun j => ?_]
    rw [change]
    split
    · next here =>
      subst here
      simp only [Clip.protects, record, locked, fewer locked]
      rfl
    · rfl
  · next unlocked =>
    have count := heldCount_locking (s := u) (t := s) (k := k) (l := (s.clip k).lane) after table.inOrder
      (fun j other => by rw [change, if_neg (Ne.symm other)])
      (by rw [change, if_pos rfl]; exact record.trans (Bool.eq_false_iff.mpr unlocked)) (before sound) rfl range
      (by rw [State.lane_congr (State.setClip_lanes ..)])
    rw [held, count]
    exact Nat.add_sub_cancel _ _

end

end Sys2Proof.Machine
/-!
PROOFS. The clip commands, LINE CONFIG and the mark actions keep the invariants.
-/

namespace Sys2Proof.Machine

open State

/-! ### The mark lines' groups (R71, R77) -/

/-- Other mark lines, of sound levels, with their working clips shared and used. -/
theorem safe_of_marks {s t : State} (same : { t with marks := s.marks } = s)
    (lines : (∀ m, (s.mark m).el ≤ (s.mark m).vl ∧ (s.mark m).vl ≤ 3) → ∀ m, (t.mark m).el ≤ (t.mark m).vl ∧ (t.mark m).vl ≤ 3)
    (working : s.usesSound → ∀ m, (t.mark m).workingClip = 0 ∨ (s.clip (t.mark m).workingClip).state ≠ .free)
    (groups : s.usesSound → ∀ m k, (t.mark m).binding = (t.mark k).binding → (t.mark m).workingClip = (t.mark k).workingClip) :
    s.Safe t := by
  have clip (n : Nat) : t.clip n = s.clip n := by
    have := congrArg (State.clip · n) same
    exact this
  refine ⟨fun sound l => ?_, fun sound => ⟨?_, ?_⟩, fun sound => ⟨?_, ?_⟩⟩
  · have lane := congrArg (State.lane · l) same
    rw [show t.lane l = s.lane l from lane]
    exact sound l
  · have kept : State.clipsSound { t with marks := s.marks } := same.symm ▸ sound.1
    exact ⟨kept.inOrder, kept.numbers, kept.levels, kept.labels, kept.locks, lines sound.1.lines⟩
  · have kept : State.usesSound { t with marks := s.marks } := same.symm ▸ sound.2
    exact ⟨kept.counts, fun m => by rw [clip]; exact working sound.2 m, groups sound.2, kept.frames⟩
  · have kept : State.protectionSound { t with marks := s.marks } := same.symm ▸ sound.protection
    exact ⟨kept.held, kept.newest, kept.next, kept.marked, kept.exported, kept.exporting⟩
  · have kept : State.claimsSound { t with marks := s.marks } := same.symm ▸ sound.claims
    exact ⟨kept.counts, kept.fetches, kept.frame, kept.queued⟩

theorem safe_setWorking {s : State} (b : LineBinding) {w : Nat} (used : w = 0 ∨ (s.clip w).state ≠ .free) :
    s.Safe (s.setWorking b w) := by
  refine safe_of_marks rfl (fun lines m => ?_) (fun sound m => ?_) fun sound m k => ?_
  · rw [setWorking_mark]
    split
    · exact lines m
    · exact lines m
  · rw [setWorking_mark]
    split
    · exact used
    · exact sound.working m
  · rw [setWorking_mark, setWorking_mark]
    split
    · next first =>
      split
      · exact fun _ => rfl
      · next second => exact fun same => absurd (same.symm.trans first) second
    · next first =>
      split
      · next second => exact fun same => absurd (same.trans second) first
      · exact sound.groups m k

theorem groupWorking_spec (s : State) (m : Fin 8) (b : LineBinding) :
    (∃ k, k ≠ m ∧ (s.mark k).binding = b ∧ s.groupWorking m b = (s.mark k).workingClip) ∨
      s.groupWorking m b = 0 ∧ ∀ k, k ≠ m → (s.mark k).binding ≠ b := by
  unfold State.groupWorking
  split
  · next k found =>
    have here := List.find?_some found
    simp only [Bool.and_eq_true, bne_iff_ne, beq_iff_eq] at here
    exact .inl ⟨k, here.1, here.2, rfl⟩
  · next missing =>
    refine .inr ⟨rfl, fun k other same => ?_⟩
    have := List.find?_eq_none.mp missing k (mem_allLines k)
    simp [other, same] at this

theorem lineConfig?_levels {f : LineFields} {x y : MarkLine} (h : lineConfig? f x = some y) : y.el ≤ y.vl ∧ y.vl ≤ 3 := by
  simp only [lineConfig?, Option.bind_eq_bind, Option.bind_eq_some_iff] at h
  obtain ⟨_, _, _, _, _, _, _, _, _, _, checked⟩ := h
  split at checked
  · next inRange =>
    cases checked
    exact ⟨inRange.2.2.2.2.1, inRange.2.2.2.1⟩
  · cases checked

theorem safe_lineConfigRequest (s : State) (f : LineFields) : s.Safe (s.lineConfigRequest f).state := by
  unfold State.lineConfigRequest
  split
  · exact .refl s
  · next m _ =>
    split
    · exact .refl s
    · next x config =>
      have levels := lineConfig?_levels config
      show s.Safe (s.setMark m { x with counter := 0, workingClip := s.groupWorking m x.binding })
      refine safe_of_marks rfl (fun lines k => ?_) (fun sound k => ?_) fun sound j k => ?_
      · rw [mark_setMark_eq]
        split
        · exact levels
        · exact lines k
      · rw [mark_setMark_eq]
        split
        · rcases groupWorking_spec s m x.binding with ⟨i, _, _, same⟩ | ⟨none, _⟩
          · rw [same]; exact sound.working i
          · exact .inl none
        · exact sound.working k
      · have joins (i : Fin 8) (other : i ≠ m) (same : (s.mark i).binding = x.binding) :
            (s.mark i).workingClip = s.groupWorking m x.binding := by
          rcases groupWorking_spec s m x.binding with ⟨i', _, binding, working⟩ | ⟨_, alone⟩
          · rw [working]; exact sound.groups i i' (same.trans binding.symm)
          · exact absurd same (alone i other)
        rw [mark_setMark_eq, mark_setMark_eq]
        split
        · split
          · exact fun _ => rfl
          · next other => exact fun same => (joins k (Ne.symm other) same.symm).symm
        · next other =>
          split
          · exact fun same => joins j (Ne.symm other) same
          · exact sound.groups j k

/-! ### Locks and deletion on command (R63, R64, R67) -/

theorem safe_withEdit {s : State} {n level : Nat} {run : Clip → Answer}
    (edit : (s.clip n).state ≠ .free → s.Safe (run (s.clip n)).state) : s.Safe (s.withEdit n level run).state := by
  unfold State.withEdit State.withClip
  split
  · exact .refl s
  · split
    · exact .refl s
    · next used =>
      simp only []
      split
      · exact .refl s
      · exact edit used

/-- A record takes the operator lock, its export lock left as it is. -/
theorem safe_setOpLock {s s' : State} {n : Nat} {r : LfnRange} (range : (s.clip n).range = some r)
    (admitted : s.admitLock (s.clip n).lane r = some s') (unlocked : s.Sound → (s.clip n).locked = false)
    (present : (s.clip n).state ≠ .absent) : s.Safe (s'.setClip n { s.clip n with opLock := true }) :=
  safe_lock range admitted unlocked (opLock := true) (exportLock := (s.clip n).exportLock) rfl present
    (fun sound => sound.protected.exported n) fun sound running here => here ▸ sound.protected.exporting running

theorem safe_lockRequest {s : State} {n : Nat} (used : (s.clip n).state ≠ .free) : s.Safe (s.lockRequest n (s.clip n)).state := by
  unfold State.lockRequest
  split
  · exact .refl s
  · next present =>
    split
    · exact .refl s
    · next noOp =>
      split
      · next exports =>
        refine safe_setClip_of_used used used
          (fun sound => ⟨rfl, (sound.fine n).levels, (sound.fine n).label, fun _ => present⟩)
          fun sound => ⟨fun l e _ => ?_, sound.protected.marked n, rfl, sound.protected.exported n⟩
        simp [Clip.protects, Clip.locked, exports]
        rfl
      · next noExport =>
        split
        · exact .refl s
        · next r range =>
          split
          · exact .refl s
          · next s' admitted => exact safe_setOpLock range admitted (fun _ => by simp [Clip.locked, noOp, noExport]) present

/-- The operator lock of a record is cleared. -/
theorem safe_clearOpLock {s : State} {n : Nat} (used : (s.clip n).state ≠ .free) (set : (s.clip n).opLock = true) :
    s.Safe (s.relax n { s.clip n with opLock := false }) := by
  have locked : (s.clip n).locked = true := (Clip.locked_iff _).mpr (.inl set)
  exact safe_relax (opLock := false) (exportLock := (s.clip n).exportLock) used (fun _ => locked) (fun _ => locked)
    (fun sound => sound.protected.exported n) fun sound running here => here ▸ sound.protected.exporting running

theorem safe_unlockRequest {s : State} {n : Nat} (used : (s.clip n).state ≠ .free) :
    s.Safe (s.unlockRequest n (s.clip n)).state := by
  unfold State.unlockRequest
  split
  · next set => exact safe_clearOpLock used set
  · exact .refl s

/-- A deletion: the record is FREE, and no line works on it. -/
theorem safe_delete {s : State} {n : Nat} (used : (s.clip n).state ≠ .free) (unlocked : (s.clip n).locked = false)
    (idle : (s.clip n).useCount = 0) : s.Safe ((s.setClip n Clip.free).dropWorking n) := by
  have only : s.OnlyClips (s.setClip n Clip.free) := .setClip ..
  have table (h : s.Table) : (s.setClip n Clip.free).Table := h.setClip (h.inRange used) _
  have change (k : Nat) : ((s.setClip n Clip.free).dropWorking n).clip k = if n = k then Clip.free else s.clip k :=
    (State.clip_congr rfl k).trans (clip_setClip s n k _)
  have mark (m : Fin 8) : ((s.setClip n Clip.free).dropWorking n).mark m =
      { s.mark m with workingClip := if (s.mark m).workingClip = n then 0 else (s.mark m).workingClip } := by
    rw [dropWorking_mark, only.mark]
  refine ⟨fun sound l => ?_, fun sound => ⟨(clipsSound_iff _).mpr ⟨?_, fun k => ?_, fun m => ?_⟩, fun k => ?_, fun m => ?_,
    fun m k => ?_, ?_⟩, fun sound => ⟨?_, ?_⟩⟩
  · have lane : ((s.setClip n Clip.free).dropWorking n).lane l = s.lane l := only.lane l
    rw [lane]; exact sound l
  · exact ⟨(table sound.1.table).inOrder, (table sound.1.table).numbers⟩
  · rw [change]
    split
    · exact Clip.fine_free
    · exact sound.1.fine k
  · rw [mark]; exact sound.1.lines m
  · have roles : ((s.setClip n Clip.free).dropWorking n).roles k = s.roles k := only.roles k
    rw [change, roles]
    split
    · next here => exact idle.symm.trans (here ▸ sound.2.counts n)
    · exact sound.2.counts k
  · rw [mark, change]
    by_cases here : (s.mark m).workingClip = n
    · exact .inl (if_pos here)
    · simp only [here, if_false, if_neg (Ne.symm here)]
      exact sound.2.working m
  · rw [mark, mark]
    intro same
    have shared := sound.2.groups m k same
    simp only [shared]
  · have exporter : ((s.setClip n Clip.free).dropWorking n).exporter = s.exporter := only.exporter
    rw [exporter]; exact sound.2.frames
  · have kept := only.protectionSound table sound fun k => ?_
    · exact ⟨kept.held, kept.newest, kept.next, kept.marked, kept.exported, kept.exporting⟩
    · rw [clip_setClip]
      split
      · next here => exact here ▸ .of_unlocked unlocked rfl (by simp [Clip.free])
      · exact sound.protected.protects k
  · have kept := only.claimsSound sound.claims
    exact ⟨kept.counts, kept.fetches, kept.frame, kept.queued⟩

theorem safe_deleteRequest {s : State} {n : Nat} (used : (s.clip n).state ≠ .free) :
    s.Safe (s.deleteRequest n (s.clip n)).state := by
  unfold State.deleteRequest
  split
  · exact .refl s
  · next unlocked =>
    split
    · exact .refl s
    · next idle => exact safe_delete used (by simpa using unlocked) (not_not.mp idle)

/-! ### Locks at a mark line (R81, R83) -/

theorem safe_askLock {s : State} {n : Nat} (unlocked : s.Sound → (s.clip n).locked = false)
    (present : (s.clip n).state ≠ .absent) : s.Safe (s.askLock n).1 := by
  unfold State.askLock
  simp only []
  split
  · exact .refl s
  · next s' admitted =>
    obtain ⟨r, range, admits⟩ := Option.bind_eq_some_iff.mp admitted
    exact safe_setOpLock range admits unlocked present

theorem askLock_keeps {s : State} {n : Nat} (present : (s.clip n).state ≠ .absent) : s.Keeps (s.askLock n).1 := by
  unfold State.askLock
  simp only []
  split
  · exact (State.Safe.refl s).keeps
  · next s' admitted =>
    obtain ⟨r, range, admits⟩ := Option.bind_eq_some_iff.mp admitted
    exact lock_keeps (opLock := true) (exportLock := (s.clip n).exportLock) range admits present

theorem askLock_used {s : State} {n : Nat} (used : (s.clip n).state ≠ .free) : ((s.askLock n).1.clip n).state ≠ .free := by
  unfold State.askLock
  simp only []
  split
  · exact used
  · rw [clip_setClip_used (by exact used), if_pos rfl]
    exact used

theorem safe_createByLine {s : State} {n : Nat} {c : Clip} {l : Fin 8} {lfn vl el : Nat} {rpn : Count32}
    (free : (s.clip n).state = .free) (inRange : 1 ≤ n ∧ n ≤ 1023) (levels : s.clipsSound → el ≤ vl ∧ vl ≤ 3)
    (points : c.Repointed (newClip l lfn vl el rpn)) (present : c.state ≠ .absent)
    (assigned : s.Sound → (s.lane l).newestAssigned ≠ none) (lock : Bool) :
    s.Safe (s.createByLine n c lock).1 ∧ ((s.createByLine n c lock).1.clip n).state ≠ .free := by
  have used : c.state ≠ .free := points.used (by simp [newClip])
  have created : s.Safe (s.setClip n (s.retimed c)) := safe_created free inRange levels (points.trans (.retimed s c)) assigned
  have record : (s.setClip n (s.retimed c)).clip n = s.retimed c := clip_setClip_same s n (by exact used)
  cases lock with
  | false => exact ⟨created, by rw [createByLine_unlocked, record]; exact used⟩
  | true =>
    refine ⟨created.trans (safe_askLock (fun _ => ?_) (by rw [record]; exact present)), askLock_used (by rw [record]; exact used)⟩
    rw [record]
    exact points.locked.trans rfl

/-- A record whose operator lock is clear takes new points, and asks for the lock. -/
theorem safe_repoint_and_ask {u : State} {n : Nat} {c : Clip} (state : (u.clip n).state = .opened) (clear : (u.clip n).opLock = false)
    (points : c.Repointed (u.clip n)) (present : c.state ≠ .absent) : u.Safe ((u.setClip n c).askLock n).1 := by
  have used : (u.clip n).state ≠ .free := by simp [state]
  have record := clip_setClip_same u n (points.used used)
  have unlocked (sound : u.Sound) : (u.clip n).locked = false := by
    cases lock : (u.clip n).exportLock with
    | false => simp [Clip.locked, clear, lock]
    | true => exact absurd (sound.protected.exported n lock) (by simp [state])
  have moved : u.Safe (u.setClip n c) := safe_repointed used (fun _ => present) unlocked points
    fun sound => sound.protected.marked n (.inl state)
  refine .of_keeps (moved.keeps.trans (askLock_keeps (by rw [record]; exact present))) fun sound => ?_
  exact moved.trans (safe_askLock (fun _ => by rw [record]; exact points.locked.trans (unlocked sound))
    (by rw [record]; exact present))

/-- New points on an OPEN clip that a line works on. -/
theorem safe_repoint {s : State} {n : Nat} {c : Clip} (state : (s.clip n).state = .opened) (points : c.Repointed (s.clip n))
    (present : c.state ≠ .absent) : s.Safe (s.repoint n c).1 := by
  have used : (s.clip n).state ≠ .free := by simp [state]
  unfold State.repoint
  simp only []
  split
  · next set =>
    have record : (s.relax n { s.clip n with opLock := false }).clip n = { s.clip n with opLock := false } :=
      clip_relax s n (by exact used)
    generalize relaxed : s.relax n { s.clip n with opLock := false } = u at record
    refine (relaxed ▸ safe_clearOpLock used set : s.Safe u).trans (safe_repoint_and_ask ?_ ?_ ?_ present)
    · rw [record]; exact state
    · rw [record]
    · rw [record]
      exact ⟨points.lane, rfl, points.exportLock, points.vl, points.el, points.label, points.useCount, points.used⟩
  · next clear =>
    refine safe_repointed used (fun _ => present) (fun sound => ?_) (points.trans (.retimed s c))
      fun sound => sound.protected.marked n (.inl state)
    cases lock : (s.clip n).exportLock with
    | false => simp [Clip.locked, clear, lock]
    | true => exact absurd (sound.protected.exported n lock) (by simp [state])

end Sys2Proof.Machine
/-!
PROOFS. The mark lines' actions keep the invariants (spec/04).
-/

namespace Sys2Proof.Machine

open State

theorem calm_markIgnored (s : State) (m : Fin 8) (w : Nat) (r : MarkReason) (detail : List Byte) :
    s.Calm (s.markIgnored m w r detail) := calm_post ..

theorem calm_markTaken (s : State) (m : Fin 8) (clip point lfn : Nat) (o : LockOutcome) (swapped : Bool) :
    s.Calm (s.markTaken m clip point lfn o swapped) := calm_post ..

theorem openWorking_spec {s : State} {x : MarkLine} {n : Nat} {c : Clip} (h : s.openWorking x = some (n, c)) :
    s.clip n = c ∧ c.state = .opened := by
  unfold State.openWorking at h
  split at h
  · next working =>
    cases h
    exact ⟨rfl, working.2⟩
  · cases h

/-- R79: MARK_IN creates a clip. -/
theorem safe_markInCreates (s : State) (m l : Fin 8) (lfn : Nat) : s.Safe (s.markInCreates m l lfn) := by
  unfold State.markInCreates
  simp only []
  split
  · exact (calm_markIgnored ..).safe
  · split
    · exact (calm_markIgnored ..).safe
    · next valid =>
      split
      · exact (calm_markIgnored ..).safe
      · next n lowest =>
        obtain ⟨free, inRange⟩ := lowestFree_spec lowest
        have assigned : (s.lane l).newestAssigned ≠ none := Lane.assigned_of_inValid (by simpa using valid)
        obtain ⟨created, used⟩ := safe_createByLine (rpn := s.rpn) free inRange (fun sound => sound.lines m) (.refl _)
          (by simp [newClip]) (fun _ => assigned) (s.mark m).lockOnCreate
        exact (created.trans (safe_setWorking _ (.inr used))).calm (calm_markTaken ..)

/-- R79, R81: MARK_IN replaces the in of the working clip. -/
theorem safe_markInReplaces {s : State} {n : Nat} {c : Clip} (record : s.clip n = c) (state : c.state = .opened) (m l : Fin 8)
    (lfn : Nat) : s.Safe (s.markInReplaces m l n c lfn) := by
  subst record
  unfold State.markInReplaces
  simp only []
  split
  · exact (calm_markIgnored ..).safe
  · split
    · exact (calm_markIgnored ..).safe
    · exact (safe_repoint state (c := { s.clip n with inLfn := lfn }) ⟨rfl, rfl, rfl, rfl, rfl, rfl, rfl, id⟩
        (by simp [state])).calm (calm_markTaken ..)

theorem safe_markInAction (s : State) (m l : Fin 8) (lfn : Nat) : s.Safe (s.markInAction m l lfn) := by
  unfold State.markInAction
  split
  · next n c working =>
    obtain ⟨record, state⟩ := openWorking_spec working
    split
    · exact safe_markInReplaces record state m l lfn
    · exact safe_markInCreates s m l lfn
  · exact safe_markInCreates s m l lfn

theorem closeAt_state (c : Clip) (n : Nat) : (c.closeAt n).clip.state = .closed := by
  unfold Clip.closeAt
  split <;> rfl

/-- R80. -/
theorem safe_markOutAction (s : State) (m l : Fin 8) (lfn : Nat) : s.Safe (s.markOutAction m l lfn) := by
  unfold State.markOutAction
  simp only []
  split
  · exact (safe_setWorking _ (.inl rfl)).calm (calm_markIgnored ..)
  · next n c working =>
    obtain ⟨rfl, state⟩ := openWorking_spec working
    split
    · exact (calm_markIgnored ..).safe
    · split
      · exact (calm_markIgnored ..).safe
      · split
        · exact (calm_markIgnored ..).safe
        · exact ((safe_repoint state (Clip.Repointed.closeAt _ lfn) (by simp [closeAt_state])).trans
            (safe_setWorking _ (.inl rfl))).calm (calm_markTaken ..)

theorem Clip.span_present (c : Clip) (a b : Nat) (x : Lane) : (c.span a b x).clip.state ≠ .absent := by
  unfold Clip.span
  simp only []
  split <;> simp

/-- R82. -/
theorem safe_markSnapAction (s : State) (m l : Fin 8) (lfn : Nat) : s.Safe (s.markSnapAction m l lfn) := by
  unfold State.markSnapAction
  simp only []
  split
  · exact (calm_markIgnored ..).safe
  · split
    · exact (calm_markIgnored ..).safe
    · next valid =>
      split
      · exact (calm_markIgnored ..).safe
      · next n lowest =>
        obtain ⟨free, inRange⟩ := lowestFree_spec lowest
        exact (safe_createByLine free inRange (fun sound => sound.lines m) (Clip.Repointed.span _ _ _ _) (Clip.span_present _ _ _ _)
          (fun sound => sound.protected.assigned_of_outValid (by simpa using valid)) _).1.calm (calm_markTaken ..)

theorem safe_markAction {s : State} {m : Fin 8} {run : Fin 8 → Nat → State} (runs : ∀ l n, s.Safe (run l n)) :
    s.Safe (s.markAction m run) := by
  unfold State.markAction
  simp only []
  split
  · exact (calm_markIgnored ..).safe
  · exact runs ..

/-- R85: a request to the line's channel. -/
theorem safe_channelAction {s : State} {m : Fin 8} {request : Fin 4 → Answer} (requests : ∀ c, s.Safe (request c).state) :
    s.Safe (s.channelAction m request) := by
  unfold State.channelAction
  simp only []
  split
  · exact .refl s
  · next c _ =>
    split
    · exact requests c
    · exact (requests c).calm (calm_markIgnored ..)

theorem safe_lineTick (s : State) (m : Fin 8) : s.Safe (s.lineTick m) :=
  (calm_setMark (x := { s.mark m with counter := (s.mark m).counter - 1 }) rfl).safe

end Sys2Proof.Machine
/-!
PROOFS. A channel whose source or saved source moves from one clip to another keeps the invariants: the use counts follow (R66, R107).
-/

namespace Sys2Proof.Machine

open State

/-! ### Clips taken and left -/

theorem State.Table.modifyClip {s : State} (table : s.Table) (n : Nat) (f : Clip → Clip) : (s.modifyClip n f).Table := by
  unfold State.modifyClip
  split
  · exact table
  · next used => exact table.setClip (table.inRange used) _

theorem State.Table.moveRole {s : State} (table : s.Table) (old new : Source) : (s.moveRole old new).Table := by
  rw [moveRole_split]
  have enters : (s.moveRole .none new).Table := by
    cases new with
    | clip n => exact table.modifyClip n fun c => { c with useCount := c.useCount + 1 }
    | none => exact table
    | lane l => exact table
    | live l d => exact table
  cases old with
  | clip n => exact enters.modifyClip n fun c => { c with useCount := c.useCount - 1 }
  | none => exact enters
  | lane l => exact enters
  | live l d => exact enters

theorem used_of_roles {s : State} (table : s.Table) (sound : s.usesSound) {n : Nat} (held : 1 ≤ s.roles n) :
    (s.clip n).state ≠ .free := by
  intro free
  have count := sound.counts n
  rw [clip_free_of_state table free] at count
  exact absurd (count.symm ▸ held : 1 ≤ Clip.free.useCount) (by decide)

theorem holds_le_roles (s : State) (c : Fin 4) (n : Nat) : (s.channel c).holds n ≤ s.roles n := by
  rw [roles_eq]
  exact (le_sumChannels s c (·.holds n)).trans (Nat.le_add_right _ _)

/-- The export takes or leaves nothing of the channels' part. -/
theorem onlyClips_moveRole (s : State) (old new : Source) : s.OnlyClips (s.moveRole old new) := by
  have same := moveRole_withClips s old new
  exact congrArg (fun t : State => { t with link := s.link, fresh := s.fresh }) same

/-! ### A channel's record and the clips it uses -/

/-- A channel's record takes a place where the clip `new` is held once more and the clip `old` once less. -/
theorem safe_moveRole {s : State} {c : Fin 4} {old new : Source} {y : Channel}
    (enters : s.clipsSound → s.usesSound → ∀ n, new = .clip n → (s.clip n).state ≠ .free)
    (holds : ∀ n, y.holds n + (if old = .clip n then 1 else 0) = (s.channel c).holds n + if new = .clip n then 1 else 0)
    (fetch : y.fetch = (s.channel c).fetch) : s.Safe ((s.moveRole old new).setChannel c y) := by
  have only := onlyClips_moveRole s old new
  have leaves (clips : s.clipsSound) (uses : s.usesSound) (n : Nat) (left : old = .clip n) : (s.clip n).state ≠ .free := by
    by_cases same : new = .clip n
    · exact enters clips uses n same
    · have one := holds n
      rw [if_pos left, if_neg same] at one
      exact used_of_roles clips.table uses ((by omega : 1 ≤ (s.channel c).holds n).trans (holds_le_roles s c n))
  have clip (clips : s.clipsSound) (uses : s.usesSound) (k : Nat) : (s.moveRole old new).clip k = { s.clip k with
      useCount := (s.clip k).useCount + (if new = .clip k then 1 else 0) - (if old = .clip k then 1 else 0) } :=
    clip_moveRole s (leaves clips uses) (enters clips uses) k
  have before (l : Fin 8) : ((s.moveRole old new).setChannel c y).lane l = s.lane l := by
    rw [lane_congr (setChannel_lanes ..), only.lane]
  have after (k : Nat) : ((s.moveRole old new).setChannel c y).clip k = (s.moveRole old new).clip k :=
    clip_congr (setChannel_clips ..) k
  have mark (m : Fin 8) : ((s.moveRole old new).setChannel c y).mark m = s.mark m := by
    rw [State.mark, setChannel_marks, ← State.mark, only.mark]
  have exporter : ((s.moveRole old new).setChannel c y).exporter = s.exporter := by rw [setChannel_exporter, only.exporter]
  have channel (d : Fin 4) : (s.moveRole old new).channel d = s.channel d := channel_congr only.channels d
  refine ⟨fun sound l => by rw [before]; exact sound l, fun ⟨clips, uses⟩ => ?_, fun sound => ?_⟩
  · have record := clip clips uses
    refine ⟨(clipsSound_iff _).mpr ⟨?_, fun k => ?_, fun m => by rw [mark]; exact clips.lines m⟩, fun n => ?_, fun m => ?_,
      fun m k => ?_, ?_⟩
    · have table := clips.table.moveRole old new
      exact ⟨by rw [setChannel_clips]; exact table.inOrder, by rw [setChannel_clips]; exact table.numbers⟩
    · rw [after, record]
      have fine := clips.fine k
      exact ⟨fine.levels, fine.label, fine.lock⟩
    · have counts := uses.counts n
      have sums := sumChannels_setChannel (s.moveRole old new) c y (·.holds n)
      have same : (s.moveRole old new).sumChannels (·.holds n) = s.sumChannels (·.holds n) := by
        simp only [State.sumChannels, channel]
      have change := holds n
      rw [roles_eq] at counts ⊢
      rw [after, record, exporter]
      simp only [channel, same] at sums
      show (s.clip n).useCount + _ - _ = _
      omega
    · rw [mark, after, record]; exact uses.working m
    · rw [mark, mark]; exact uses.groups m k
    · rw [exporter]; exact uses.frames
  · have record := clip sound.clips sound.uses
    have kept := only.protectionSound (fun table => table.moveRole old new) sound fun k => by
      rw [record]
      exact ⟨fun _ _ _ => rfl, sound.protected.marked k, rfl, sound.protected.exported k⟩
    have same := setChannel_withChannels (s.moveRole old new) c y
    refine ⟨?_, sound.claims.of_same (fun l => by rw [before]) (fun d => ?_) (by rw [exporter]) fun d => ?_⟩
    · have back : State.protectionSound { (s.moveRole old new).setChannel c y with
        channels := (s.moveRole old new).channels, cues := (s.moveRole old new).cues } := same.symm ▸ kept
      exact ⟨back.held, back.newest, back.next, back.marked, back.exported, back.exporting⟩
    · rw [channel_setChannel, channel]
      split
      · next here => exact here ▸ fetch
      · rfl
    · rw [State.fetchOf, setChannel_xfer, only.xfer, ← State.fetchOf]

theorem holds_eq (x : Channel) (n : Nat) : x.holds n =
    (if x.source = .clip n then 1 else 0) + if ∃ k, x.saved = some k ∧ k.source = .clip n then 1 else 0 := by
  have number (src : Source) : src.clipNumber = some n ↔ src = .clip n := by
    rw [← beq_iff_eq, ← Source.beq_clip, beq_iff_eq]
  have saved : (x.saved.bind fun k => k.source.clipNumber) = some n ↔ ∃ k, x.saved = some k ∧ k.source = .clip n := by
    simp only [Option.bind_eq_some_iff, number]
  simp only [Channel.holds, Channel.uses, Bool.toNat, Bool.cond_eq_ite, beq_iff_eq, number, saved]

/-! ### Cueing, going live, saving and resuming (R107 to R110, R129 to R131) -/

/-- A channel's source moves, its save slot and its fetch left as they are. -/
theorem safe_moveSource {s : State} {c : Fin 4} {new : Source} {y : Channel}
    (enters : s.clipsSound → s.usesSound → ∀ n, new = .clip n → (s.clip n).state ≠ .free) (source : y.source = new)
    (saved : y.saved = (s.channel c).saved) (fetch : y.fetch = (s.channel c).fetch) :
    s.Safe ((s.moveRole (s.channel c).source new).setChannel c y) := by
  refine safe_moveRole enters (fun n => ?_) fetch
  rw [holds_eq, holds_eq, source, saved]
  omega

theorem safe_cueAt {s : State} (c : Fin 4) {src : Source} (enters : ∀ n, src = .clip n → (s.clip n).state ≠ .free) (lfn : Nat) :
    s.Safe (s.cueAt c src lfn) := safe_moveSource (fun _ _ => enters) rfl rfl rfl

theorem safe_goLive (s : State) (c : Fin 4) (l : Fin 8) (delay newest : Nat) : s.Safe (s.goLive c l delay newest) :=
  safe_moveSource (by simp) rfl rfl rfl

/-- The channel's source keeps the clip it has in use. -/
theorem safe_saveContext (s : State) (c : Fin 4) : s.Safe (s.saveContext c) := by
  rw [saveContext_eq]
  split
  · exact .refl s
  · next empty =>
    have none : (s.channel c).saved = none := by
      by_contra some
      exact empty (.inl some)
    refine safe_moveRole (fun clips uses n source => ?_) (fun n => ?_) rfl
    · refine used_of_roles clips.table uses (Nat.le_trans ?_ (holds_le_roles s c n))
      rw [holds_eq, if_pos source]
      exact Nat.le_add_right 1 _
    · rw [holds_eq, holds_eq, none]
      simp
      rfl

theorem safe_discardSave (s : State) (c : Fin 4) : s.Safe (s.discardSave c) := by
  unfold State.discardSave
  split
  · exact .refl s
  · next k saved =>
    refine safe_moveRole (by simp) (fun n => ?_) rfl
    rw [holds_eq, holds_eq, saved]
    simp

theorem safe_resumeRequest (s : State) (c : Fin 4) (level : Nat) : s.Safe (s.resumeRequest c level).state := by
  unfold State.resumeRequest
  simp only []
  split
  · exact .refl s
  · next k saved =>
    split
    · exact .refl s
    · refine safe_moveRole (by simp) (fun n => ?_) rfl
      rw [holds_eq, holds_eq, saved]
      simp [Nat.add_comm]

theorem modifyClip_state (s : State) (n : Nat) {f : Clip → Clip} (same : ∀ c, (f c).state = c.state) (m : Nat) :
    ((s.modifyClip n f).clip m).state = (s.clip m).state := by
  rw [clip_modifyClip s n m f fun free => (same _).symm.trans free]
  split
  · next here => rw [same, here.1]
  · rfl

theorem moveRole_state (s : State) (old new : Source) (m : Nat) : ((s.moveRole old new).clip m).state = (s.clip m).state := by
  rw [moveRole_split]
  have enters : ((s.moveRole .none new).clip m).state = (s.clip m).state := by
    cases new with
    | clip n => exact modifyClip_state s n (f := fun c => { c with useCount := c.useCount + 1 }) (fun _ => rfl) m
    | none => rfl
    | lane l => rfl
    | live l d => rfl
  cases old with
  | clip n =>
    exact (modifyClip_state (s.moveRole .none new) n (f := fun c => { c with useCount := c.useCount - 1 }) (fun _ => rfl) m).trans enters
  | none => exact enters
  | lane l => exact enters
  | live l d => exact enters

theorem saveContext_state (s : State) (c : Fin 4) (m : Nat) : ((s.saveContext c).clip m).state = (s.clip m).state := by
  rw [saveContext_eq]
  split
  · rfl
  · rw [clip_congr (setChannel_clips ..), moveRole_state]

theorem cueClipAt_used {s : State} {n offset level lfn : Nat} (h : s.cueClipAt n offset level = .ok lfn) :
    (s.clip n).state ≠ .free := by
  unfold State.cueClipAt at h
  simp only [] at h
  split at h
  · cases h
  · next used => exact used

theorem safe_cueClipRequest (s : State) (c : Fin 4) (n offset : Nat) : s.Safe (s.cueClipRequest c n offset).state := by
  unfold State.cueClipRequest
  split
  · exact .refl s
  · next lfn ok =>
    refine safe_cueAt c (fun m same => ?_) lfn
    cases same
    exact cueClipAt_used ok

theorem safe_cueLane (s : State) (c : Fin 4) (l : Fin 8) (lfn : Nat) : s.Safe (s.cueAt c (.lane l) lfn) :=
  safe_cueAt c (by simp) lfn

theorem safe_cueLaneRequest (s : State) (c : Fin 4) (l : Fin 8) (newest : Bool) (lfn : Nat) :
    s.Safe (s.cueLaneRequest c l newest lfn).state := by
  unfold State.cueLaneRequest
  split
  · exact .refl s
  · split
    · exact safe_cueLane ..
    · split
      · exact safe_cueLane ..
      · exact .refl s

theorem safe_liveRequest (s : State) (c : Fin 4) (l : Fin 8) (delay : Nat) : s.Safe (s.liveRequest c l delay).state := by
  unfold State.liveRequest
  split
  · exact .refl s
  · exact safe_goLive ..

theorem safe_snapLaneRequest (s : State) (c : Fin 4) (l : Fin 8) (delay : Nat) : s.Safe (s.snapLaneRequest c l delay).state := by
  unfold State.snapLaneRequest
  split
  · exact .refl s
  · exact (safe_saveContext s c).trans (safe_goLive ..)

theorem safe_snapClipRequest (s : State) (c : Fin 4) (n offset : Nat) : s.Safe (s.snapClipRequest c n offset).state := by
  unfold State.snapClipRequest
  split
  · exact .refl s
  · next lfn ok =>
    refine (safe_saveContext s c).trans (safe_cueAt c (fun m same => ?_) lfn)
    cases same
    rw [saveContext_state]
    exact cueClipAt_used ok

/-! ### Segues (R138 to R142) -/

theorem safe_passSegue {s : State} (c : Fin 4) {t : SegueTarget} (used : (s.clip t.clip).state ≠ .free) (cause : SegueCause)
    (request : Option SegueRequest) : s.Safe (s.passSegue c t cause request) := by
  refine State.Safe.calm (State.Safe.calm ?_ (calm_post ..)) (calm_reportSegue ..)
  refine safe_moveSource (fun _ _ n same => ?_) rfl rfl rfl
  cases same
  exact used

theorem segueCheck_used {s : State} {level : Nat} {b : Fin 8} {n : Int} {t : SegueTarget}
    (ok : s.segueCheck level b n = .ok t) : (s.clip t.clip).state ≠ .free := by
  by_cases inRange : 0 ≤ n ∧ n < 32
  · have entry : n = ((⟨n.toNat, by omega⟩ : Fin 32).val : Int) := by simp [inRange.1]
    rw [entry] at ok
    rw [(segueCheck_ok ok).2.2.2]
    simp
  · rw [segueCheck_out s level b (by omega)] at ok
    cases ok

theorem calm_failSegue (s : State) (c : Fin 4) (r : Running) (b : Fin 8) (n : Int) (f : SegueFault) (cause : SegueCause)
    (position : Nat) (clamped : Bool) : s.Calm (s.failSegue c r b n f cause position clamped) := by
  unfold State.failSegue
  simp only []
  refine Calm.trans ?_ (calm_post ..)
  refine Calm.trans ?_ (calm_setFlag ..)
  refine Calm.trans ?_ (calm_setChannel (by rfl))
  have paused : s.Calm (s.setChannel c { s.channel c with state := .paused, current := 0, target := 0, position }) :=
    calm_setChannel (by rfl)
  split
  · exact paused.trans (calm_setFlag ..)
  · exact paused

theorem safe_makeSegue (s : State) (c : Fin 4) (r : Running) (b : Fin 8) (n : Int) (cause : SegueCause) (fallback : Nat × Bool) :
    s.Safe (s.makeSegue c r b n cause fallback) := by
  unfold State.makeSegue
  split
  · next t ok => exact safe_passSegue c (segueCheck_used ok) cause none
  · exact (calm_failSegue ..).safe

theorem safe_takeRequest (s : State) (c : Fin 4) (r : Running) (q : SegueRequest) (fallback : Nat × Bool) :
    s.Safe (s.takeRequest c r q fallback) := by
  cases q with
  | start => exact .refl s
  | next => exact safe_makeSegue ..
  | release => exact safe_makeSegue ..
  | goto e => exact safe_makeSegue ..
  | chain b => exact safe_makeSegue ..

theorem calm_holdAction (s : State) (c : Fin 4) (r : Running) (lfn : Nat) : s.Calm (s.holdAction c r lfn) :=
  Calm.trans (calm_setChannel (x := { (s.channel c).pausedAt lfn with hold := true }) rfl) (calm_post ..)

theorem calm_stopAction (s : State) (c : Fin 4) (r : Running) (lfn : Nat) : s.Calm (s.stopAction c r lfn) := by
  unfold State.stopAction
  simp only []
  refine Calm.trans ?_ (calm_post ..)
  split
  · exact Calm.trans (calm_setChannel (by rfl)) (calm_setFlag ..)
  · exact calm_setChannel (by rfl)

theorem safe_endAction (s : State) (c : Fin 4) (r : Running) (lfn : Nat) : s.Safe (s.endAction c r lfn) := by
  unfold State.endAction
  simp only []
  split
  · exact safe_makeSegue ..
  · exact safe_makeSegue ..
  · exact safe_makeSegue ..
  · exact safe_makeSegue ..
  · exact safe_makeSegue ..
  · exact (calm_holdAction ..).safe
  · exact (calm_stopAction ..).safe

theorem safe_runRequest (s : State) (c : Fin 4) (b : Fin 8) (entry : Nat) : s.Safe (s.runRequest c b entry).state := by
  unfold State.runRequest
  split
  · exact .refl s
  · split
    · exact .refl s
    · next t ok =>
      simp only [State.accept]
      exact safe_passSegue c (segueCheck_used ok) .run (some .start)

theorem safe_segueRequest (s : State) (c : Fin 4) (q : SegueRequest) : s.Safe (s.segueRequest c q).state := by
  unfold State.segueRequest
  simp only []
  split
  · exact (calm_setChannel (by rfl)).safe
  · exact .refl s

end Sys2Proof.Machine
/-!
PROOFS. Read claims placed and removed keep the invariants: every read count follows the fetches and the export's frame (R32).
-/

namespace Sys2Proof.Machine

open State

/-! ### An entry's read count and status -/

/-- The change keeps an entry's LFN and slot, and makes no entry WRITING. -/
structure Entry.Amends (g : Entry → Entry) : Prop where
  lfn    : ∀ e, (g e).lfn = e.lfn
  slot   : ∀ e, (g e).slot = e.slot
  status : ∀ e, e.status = .good → (g e).status = .good

theorem amends_place : Entry.Amends fun e => { e with readCount := e.readCount + 1 } := ⟨fun _ => rfl, fun _ => rfl, fun _ => id⟩

theorem amends_remove : Entry.Amends fun e => { e with readCount := e.readCount - 1 } := ⟨fun _ => rfl, fun _ => rfl, fun _ => id⟩

theorem amends_good : Entry.Amends fun e => { e with status := .good } := ⟨fun _ => rfl, fun _ => rfl, fun _ _ => rfl⟩

/-- An entry of the LFN changed, another left as it is. -/
def Entry.amended (g : Entry → Entry) (n : Nat) (e : Entry) : Entry := if e.lfn = n then g e else e

theorem modifyEntry_entries (x : Lane) (n : Nat) (g : Entry → Entry) :
    (x.modifyEntry n g).entries = x.entries.map (Entry.amended g n) := rfl

namespace Entry.Amends

variable {g : Entry → Entry} (h : Entry.Amends g) (n : Nat)
include h

theorem amended_lfn (e : Entry) : (Entry.amended g n e).lfn = e.lfn := by
  unfold Entry.amended
  split
  · exact h.lfn e
  · rfl

theorem amended_slot (e : Entry) : (Entry.amended g n e).slot = e.slot := by
  unfold Entry.amended
  split
  · exact h.slot e
  · rfl

theorem amended_good (e : Entry) (good : e.status = .good) : (Entry.amended g n e).status = .good := by
  unfold Entry.amended
  split
  · exact h.status e good
  · exact good

theorem sound {x : Lane} (sound : x.sound) : (x.modifyEntry n g).sound := by
  refine ⟨?_, ?_, ?_, sound.inOrder, sound.arrivals, ?_, sound.recording, sound.off, sound.held, sound.ceiling⟩
  · rw [modifyEntry_entries, List.pairwise_map]
    simp only [h.amended_lfn]
    exact sound.rising
  · intro e he
    rw [modifyEntry_entries] at he
    obtain ⟨old, listed, rfl⟩ := List.mem_map.mp he
    rw [h.amended_lfn]
    exact sound.assigned old listed
  · rw [modifyEntry_entries, List.map_map, show Entry.slot ∘ Entry.amended g n = Entry.slot from funext (h.amended_slot n)]
    exact sound.slots
  · refine Nat.le_trans ?_ sound.writes
    unfold Lane.writing
    rw [modifyEntry_entries, List.countP_map]
    refine List.countP_mono_left fun e _ writing => ?_
    simp only [Function.comp, beq_iff_eq] at writing ⊢
    cases status : e.status with
    | writing => rfl
    | good => rw [h.amended_good n e status] at writing; cases writing

/-- The protection of frames reads no read count and no status. -/
theorem protectionSound {s t : State} (clips : t.clips = s.clips) {l : Fin 8}
    (lane : ∀ k, t.lane k = if l = k then (s.lane k).modifyEntry n g else s.lane k)
    (exporter : t.exporter.state = s.exporter.state ∧ t.exporter.clip = s.exporter.clip) (sound : s.protectionSound) :
    t.protectionSound := by
  have held (k : Fin 8) : (t.lane k).held = (s.lane k).held := by rw [lane]; split <;> rfl
  have newest (k : Fin 8) : (t.lane k).newestAssigned = (s.lane k).newestAssigned := by rw [lane]; split <;> rfl
  have next (k : Fin 8) : (t.lane k).nextLfn = (s.lane k).nextLfn := by rw [lane]; split <;> rfl
  have lfns (k : Fin 8) : (t.lane k).entries.map Entry.lfn = (s.lane k).entries.map Entry.lfn := by
    rw [lane]
    split
    · rw [modifyEntry_entries, List.map_map, show Entry.lfn ∘ Entry.amended g n = Entry.lfn from funext (h.amended_lfn n)]
    · rfl
  have count (k : Fin 8) (p : Nat → Bool) :
      (t.lane k).entries.countP (fun e => p e.lfn) = (s.lane k).entries.countP fun e => p e.lfn := by
    have both := congrArg (List.countP p) (lfns k)
    rw [List.countP_map, List.countP_map] at both
    exact both
  refine ⟨fun k => ?_, fun k e he => ?_, fun k => ?_, ?_, ?_, ?_⟩
  · rw [held, sound.held, heldEntries_length, heldEntries_length]
    have same (m : Nat) : t.isHeld k m = s.isHeld k m := by simp only [State.isHeld, clips]
    simp only [same]
    exact (count k (s.isHeld k)).symm
  · have listed : e.lfn ∈ (s.lane k).entries.map Entry.lfn := lfns k ▸ List.mem_map_of_mem he
    obtain ⟨e', he', same⟩ := List.mem_map.mp listed
    rw [newest, ← same]
    exact sound.newest k e' he'
  · rw [newest, next]; exact sound.next k
  · rw [clips]; intro e he
    rw [newest]; exact sound.marked e he
  · rw [clips]; exact sound.exported
  · rw [exporter.1, exporter.2, State.clip_congr clips]; exact sound.exporting

/-- The claims stay sound when the changed read counts are the claims there are. -/
theorem claimsSound {s t : State} {l : Fin 8}
    (lane : ∀ k, t.lane k = if l = k then (s.lane k).modifyEntry n g else s.lane k)
    (counts : ∀ k, ∀ e ∈ (s.lane k).entries,
      (if l = k then (Entry.amended g n e).readCount else e.readCount) = t.claims k e.lfn)
    (fetches : ∀ c r, (t.channel c).fetch = some r → ∃ e ∈ (s.lane r.lane).entries, e.lfn = r.lfn ∧ e.slot = r.slot ∧ e.status = .good)
    (frame : ∀ f, t.exporter.frame = some f →
      ∃ e ∈ (s.lane t.exporter.lane).entries, e.lfn = f.lfn ∧ e.slot = f.slot ∧ e.status = .good)
    (queued : ∀ c, (t.fetchOf c).map Fetch.frame = (t.channel c).fetch) : t.claimsSound := by
  have still {k : Fin 8} {m j : Nat} (there : ∃ e ∈ (s.lane k).entries, e.lfn = m ∧ e.slot = j ∧ e.status = .good) :
      ∃ e ∈ (t.lane k).entries, e.lfn = m ∧ e.slot = j ∧ e.status = .good := by
    obtain ⟨e, he, lfn, slot, good⟩ := there
    rw [lane]
    split
    · exact ⟨Entry.amended g n e, List.mem_map_of_mem he, (h.amended_lfn n e).trans lfn, (h.amended_slot n e).trans slot,
        h.amended_good n e good⟩
    · exact ⟨e, he, lfn, slot, good⟩
  refine ⟨fun k e he => ?_, fun c r hr => still (fetches c r hr), fun f hf => still (frame f hf), queued⟩
  rw [lane] at he
  split at he
  · next here =>
    rw [modifyEntry_entries] at he
    obtain ⟨old, listed, rfl⟩ := List.mem_map.mp he
    have count := counts k old listed
    rw [if_pos here] at count
    rw [count, h.amended_lfn]
  · next other =>
    have count := counts k e he
    rw [if_neg other] at count
    exact count

/-- An entry is changed, and the claims with it; the clips' uses stay what they are. -/
theorem safe {s t : State} (clips : t.clips = s.clips) {l : Fin 8}
    (lane : ∀ k, t.lane k = if l = k then (s.lane k).modifyEntry n g else s.lane k) (marks : t.marks = s.marks)
    (holds : ∀ d k, (t.channel d).holds k = (s.channel d).holds k)
    (exporter : t.exporter.state = s.exporter.state ∧ t.exporter.clip = s.exporter.clip)
    (running : s.usesSound → t.exporter.frame ≠ none → s.exporter.state = .running)
    (claims : s.Sound → t.claimsSound) : s.Safe t := by
  have mark (m : Fin 8) : t.mark m = s.mark m := by rw [State.mark, marks, ← State.mark]
  have clip (k : Nat) := State.clip_congr clips k
  refine ⟨fun sound k => ?_, fun ⟨table, uses⟩ => ⟨?_, fun k => ?_, fun m => ?_, fun m k => ?_, fun f => ?_⟩,
    fun sound => ⟨h.protectionSound n clips lane exporter sound.protection, claims sound⟩⟩
  · rw [lane]
    split
    · exact h.sound n (sound k)
    · exact sound k
  · rw [clipsSound_iff] at table ⊢
    obtain ⟨⟨sorted, numbers⟩, fine, lines⟩ := table
    exact ⟨⟨by rw [clips]; exact sorted, by rw [clips]; exact numbers⟩, fun k => by rw [clip]; exact fine k,
      fun m => by rw [mark]; exact lines m⟩
  · have roles : t.roles k = s.roles k := by
      rw [roles_eq, roles_eq]
      simp only [State.sumChannels, holds, Exporter.holds_eq, exporter.1, exporter.2]
    rw [clip, roles]; exact uses.counts k
  · rw [mark, clip]; exact uses.working m
  · rw [mark, mark]; exact uses.groups m k
  · rw [exporter.1]; exact running uses f

end Entry.Amends

end Sys2Proof.Machine
/-!
PROOFS. A channel's fetch from its request to its end, and the export's frame, keep the invariants (R122, R123, R160, R161, R172, R173).
-/

namespace Sys2Proof.Machine

open State

/-! ### Who claims what -/

theorem fetches_none {x : Channel} (fetch : x.fetch = none) (l : Fin 8) (n : Nat) : x.fetches l n = 0 := by
  simp [Channel.fetches, Channel.uses, fetch]

theorem fetches_some {x : Channel} {r : FrameRef} (fetch : x.fetch = some r) (l : Fin 8) (n : Nat) :
    x.fetches l n = if r.lane = l ∧ r.lfn = n then 1 else 0 := by
  simp [Channel.fetches, Channel.uses, fetch, Bool.toNat, Bool.cond_eq_ite]

theorem reads_none {e : Exporter} (frame : e.frame = none) (l : Fin 8) (n : Nat) : e.reads l n = 0 := by
  simp [Exporter.reads_eq, frame]

theorem reads_some {e : Exporter} {f : ExportFrame} (frame : e.frame = some f) (l : Fin 8) (n : Nat) :
    e.reads l n = if e.lane = l ∧ f.lfn = n then 1 else 0 := by
  simp [Exporter.reads_eq, frame]

/-- A claim is placed on the entries of an LFN. -/
theorem counts_place {l k : Fin 8} {n : Nat} {e : Entry} {before after : Nat} (count : e.readCount = before)
    (more : after = before + if l = k ∧ n = e.lfn then 1 else 0) :
    (if l = k then (Entry.amended (fun e => { e with readCount := e.readCount + 1 }) n e).readCount else e.readCount) = after := by
  subst more count
  unfold Entry.amended
  by_cases this : n = e.lfn
  · subst this
    by_cases here : l = k
    · simp [here]
    · simp [here]
  · simp [this, Ne.symm this]

/-- A claim is removed from the entries of an LFN. -/
theorem counts_remove {l k : Fin 8} {n : Nat} {e : Entry} {before after : Nat} (count : e.readCount = before)
    (less : after + (if l = k ∧ n = e.lfn then 1 else 0) = before) :
    (if l = k then (Entry.amended (fun e => { e with readCount := e.readCount - 1 }) n e).readCount else e.readCount) = after := by
  subst less
  unfold Entry.amended
  by_cases this : n = e.lfn
  · subst this
    by_cases here : l = k
    · simp [here, count]
    · simp [here, count]
  · simp [this, Ne.symm this, count]

theorem holds_of_same {x y : Channel} (source : y.source = x.source) (saved : y.saved = x.saved) (n : Nat) :
    y.holds n = x.holds n := by
  rw [holds_eq, holds_eq, source, saved]

/-! ### A fetch (R122, R123) -/

section
variable {s : State} {c : Fin 4} {f : FrameRef} {y : Channel} {queue : Option Fetch}

theorem safe_placeFetch (idle : (s.channel c).fetch = none)
    (there : ∃ e ∈ (s.lane f.lane).entries, e.lfn = f.lfn ∧ e.slot = f.slot ∧ e.status = .good)
    (source : y.source = (s.channel c).source) (saved : y.saved = (s.channel c).saved) (fetch : y.fetch = some f)
    (queued : queue.map Fetch.frame = some f) :
    s.Safe (((s.placeClaim f.lane f.lfn).setChannel c y).setFetch c queue) := by
  have channel (d : Fin 4) : (((s.placeClaim f.lane f.lfn).setChannel c y).setFetch c queue).channel d =
      if c = d then y else s.channel d := channel_setChannel (s.placeClaim f.lane f.lfn) c d y
  have lane (k : Fin 8) : (((s.placeClaim f.lane f.lfn).setChannel c y).setFetch c queue).lane k =
      if f.lane = k then (s.lane k).modifyEntry f.lfn fun e => { e with readCount := e.readCount + 1 } else s.lane k :=
    (lane_congr (setChannel_lanes (s.placeClaim f.lane f.lfn) c y) k).trans (modifyLane_lane_eq s f.lane k _)
  have exporter : (((s.placeClaim f.lane f.lfn).setChannel c y).setFetch c queue).exporter = s.exporter :=
    setChannel_exporter (s.placeClaim f.lane f.lfn) c y
  have fetchOf (d : Fin 4) : (((s.placeClaim f.lane f.lfn).setChannel c y).setFetch c queue).fetchOf d =
      if c = d then queue else s.fetchOf d := by
    rw [fetchOf_setFetch_eq, State.fetchOf, setChannel_xfer]
    rfl
  refine amends_place.safe f.lfn (setChannel_clips ..) lane (setChannel_marks ..) (fun d k => ?_) (by rw [exporter]; exact ⟨rfl, rfl⟩)
    (fun uses => by rw [exporter]; exact uses.frames) fun sound => amends_place.claimsSound f.lfn lane (fun k e he => ?_)
    (fun d r hr => ?_) (by rw [exporter]; exact sound.claims.frame) fun d => ?_
  · rw [channel]
    split
    · next here => exact here ▸ holds_of_same source saved k
    · rfl
  · refine counts_place (sound.claims.counts k e he) ?_
    have sums := sumChannels_of_change channel (·.fetches k e.lfn)
    simp only [fetches_none idle, fetches_some fetch] at sums
    rw [claims_eq, claims_eq, exporter]
    omega
  · rw [channel] at hr
    split at hr
    · cases fetch.symm.trans hr
      exact there
    · exact sound.claims.fetches d r hr
  · rw [fetchOf, channel]
    split
    · rw [queued, fetch]
    · exact sound.claims.queued d

/-- The channel claims a GOOD entry and its fetch is handed over. -/
theorem safe_requestFetch (idle : (s.channel c).fetch = none)
    (there : ∃ e ∈ (s.lane f.lane).entries, e.lfn = f.lfn ∧ e.slot = f.slot ∧ e.status = .good) :
    s.Safe (s.requestFetch c f) := by
  unfold State.requestFetch State.handFetch
  simp only []
  refine State.Safe.calm (safe_placeFetch idle there ?_ ?_ ?_ ?_) (calm_grant _)
  all_goals rfl

theorem safe_removeFetch (busy : ∃ g, s.fetchOf c = some g ∧ g.frame = f) (source : y.source = (s.channel c).source)
    (saved : y.saved = (s.channel c).saved) (fetch : y.fetch = none) :
    s.Safe (((s.setFetch c none).removeClaim f.lane f.lfn).setChannel c y) := by
  have channel (d : Fin 4) : (((s.setFetch c none).removeClaim f.lane f.lfn).setChannel c y).channel d =
      if c = d then y else s.channel d := channel_setChannel ((s.setFetch c none).removeClaim f.lane f.lfn) c d y
  have lane (k : Fin 8) : (((s.setFetch c none).removeClaim f.lane f.lfn).setChannel c y).lane k =
      if f.lane = k then (s.lane k).modifyEntry f.lfn fun e => { e with readCount := e.readCount - 1 } else s.lane k :=
    (lane_congr (setChannel_lanes ..) k).trans (modifyLane_lane_eq (s.setFetch c none) f.lane k _)
  have exporter : (((s.setFetch c none).removeClaim f.lane f.lfn).setChannel c y).exporter = s.exporter :=
    setChannel_exporter ((s.setFetch c none).removeClaim f.lane f.lfn) c y
  have fetchOf (d : Fin 4) : (((s.setFetch c none).removeClaim f.lane f.lfn).setChannel c y).fetchOf d =
      if c = d then none else s.fetchOf d := by
    rw [State.fetchOf, setChannel_xfer]
    exact fetchOf_setFetch_eq s c d none
  refine amends_remove.safe f.lfn (setChannel_clips ..) lane (setChannel_marks ..) (fun d k => ?_) (by rw [exporter]; exact ⟨rfl, rfl⟩)
    (fun uses => by rw [exporter]; exact uses.frames) fun sound => ?_
  · rw [channel]
    split
    · next here => exact here ▸ holds_of_same source saved k
    · rfl
  obtain ⟨g, inQueue, frame⟩ := busy
  have before : (s.channel c).fetch = some f := by rw [← sound.claims.queued, inQueue, ← frame]; rfl
  refine amends_remove.claimsSound f.lfn lane (fun k e he => ?_) (fun d r hr => ?_) (by rw [exporter]; exact sound.claims.frame)
    fun d => ?_
  · refine counts_remove (sound.claims.counts k e he) ?_
    have sums := sumChannels_of_change channel (·.fetches k e.lfn)
    simp only [fetches_some before, fetches_none fetch] at sums
    rw [claims_eq, claims_eq, exporter]
    omega
  · rw [channel] at hr
    split at hr
    · rw [fetch] at hr
      cases hr
    · exact sound.claims.fetches d r hr
  · rw [fetchOf, channel]
    split
    · rw [fetch]; rfl
    · exact sound.claims.queued d

theorem safe_fetchCompleted (busy : ∃ g, s.fetchOf c = some g ∧ g.frame = f) : s.Safe (s.fetchCompleted c f) :=
  safe_removeFetch busy rfl rfl rfl

theorem safe_fetchFailed (busy : ∃ g, s.fetchOf c = some g ∧ g.frame = f) : s.Safe (s.fetchFailed c f) := by
  have staged : s.Calm (s.setOutPort c { s.outPort c with staging := none }) := .same
  unfold State.fetchFailed
  simp only []
  refine (staged.safe.trans (safe_removeFetch ?_ ?_ ?_ ?_)).calm (calm_setFlag ..)
  · exact busy
  all_goals rfl

theorem safe_fetchBlockDone (s : State) (c : Fin 4) (block index : Nat) (good : Bool) :
    s.Safe (s.fetchBlockDone c block index good) := by
  unfold State.fetchBlockDone
  split
  · exact .refl s
  · next g inQueue =>
    split
    · have streamed : s.Calm (s.streamBlock c (s.readBlock block)) := .same
      simp only []
      split
      · exact streamed.safe.trans (safe_fetchCompleted ⟨g, inQueue, rfl⟩)
      · refine (streamed.trans (calm_setFetch ?_)).safe
        exact (congrArg (Option.map Fetch.frame) inQueue).symm
    · have posted := calm_post s .store 0 g.frame.lane.val
        (leBytes 4 block ++ lfnBytes g.frame.lfn ++ leBytes 1 index ++ leBytes 1 c.val)
      refine posted.safe.trans (safe_fetchFailed ⟨g, ?_, rfl⟩)
      rw [State.fetchOf, post_xfer]
      exact inQueue

end

/-! ### The export's frame (R172, R173) -/

theorem safe_beginFrame {s : State} {e : Entry} (running : s.exporter.state = .running) (idle : s.exporter.frame = none)
    (there : e ∈ (s.lane s.exporter.lane).entries) (good : e.status = .good) : s.Safe (s.beginFrame e) := by
  unfold State.beginFrame
  simp only []
  refine State.Safe.calm (State.Safe.calm ?_ (.same)) (calm_handExportRead ..)
  have lane := modifyLane_lane_eq s s.exporter.lane (f := fun x => x.modifyEntry e.lfn fun e => { e with readCount := e.readCount + 1 })
  refine amends_place.safe e.lfn rfl (fun k => lane k) rfl (fun _ _ => rfl) ⟨rfl, rfl⟩ (fun _ _ => running) fun sound =>
    amends_place.claimsSound e.lfn (fun k => lane k) (fun k e' he' => ?_) sound.claims.fetches (fun f hf => ?_) sound.claims.queued
  · refine counts_place (sound.claims.counts k e' he') ?_
    rw [claims_eq, claims_eq, reads_none idle, reads_some (e := State.exporter _) rfl]
    rw [Nat.add_zero]
    rfl
  · cases hf
    exact ⟨e, there, rfl, rfl, good⟩

theorem safe_endFrame {s : State} {f : ExportFrame} (busy : ∃ g, s.exporter.frame = some g ∧ g.lfn = f.lfn) (damaged : Bool) :
    s.Safe (s.endFrame f damaged) := by
  unfold State.endFrame
  simp only []
  obtain ⟨g, inProgress, lfn⟩ := busy
  have lane := modifyLane_lane_eq s s.exporter.lane (f := fun x => x.modifyEntry f.lfn fun e => { e with readCount := e.readCount - 1 })
  refine amends_remove.safe f.lfn rfl (fun k => lane k) rfl (fun _ _ => rfl) ⟨rfl, rfl⟩ (fun _ some => absurd rfl some) fun sound =>
    amends_remove.claimsSound f.lfn (fun k => lane k) (fun k e he => ?_) sound.claims.fetches (fun f hf => ?_) sound.claims.queued
  · refine counts_remove (sound.claims.counts k e he) ?_
    rw [claims_eq, claims_eq, reads_some inProgress, reads_none (e := State.exporter _) rfl, lfn]
    rw [Nat.add_zero]
    rfl
  · cases hf

end Sys2Proof.Machine
/-!
PROOFS. Exports keep the invariants, from their start to each of their ends (spec/09).
-/

namespace Sys2Proof.Machine

open State

/-! ### The export takes and leaves its clip (R66) -/

/-- The clip's use count and the export move together. -/
theorem safe_moveExporter {s : State} {n : Nat} {count : Nat → Nat} {e : Exporter} (used : (s.clip n).state ≠ .free)
    (counts : ∀ k, s.exporter.holds k ≤ (s.clip k).useCount →
      (if n = k then count (s.clip k).useCount else (s.clip k).useCount) + s.exporter.holds k = (s.clip k).useCount + e.holds k)
    (frames : s.usesSound → e.frame ≠ none → e.state = .running)
    (exporting : s.Sound → e.state = .running → (s.clip e.clip).exportLock = true) (reads : e.uses.2.2 = s.exporter.uses.2.2) :
    s.Safe ((s.setClip n { s.clip n with useCount := count (s.clip n).useCount }).setExporter e) := by
  have only : s.OnlyClips (s.setClip n { s.clip n with useCount := count (s.clip n).useCount }) := .setClip ..
  have table (h : s.Table) := h.setClip (h.inRange used) { s.clip n with useCount := count (s.clip n).useCount }
  have change (k : Nat) : ((s.setClip n { s.clip n with useCount := count (s.clip n).useCount }).setExporter e).clip k =
      { s.clip k with useCount := if n = k then count (s.clip k).useCount else (s.clip k).useCount } := by
    refine (State.clip_congr rfl k).trans ((clip_setClip_used (by exact used) k).trans ?_)
    split
    · next here => rw [here]
    · rfl
  refine ⟨fun sound l => ?_, fun ⟨clips, uses⟩ => ⟨(clipsSound_iff _).mpr ⟨?_, fun k => ?_, fun m => ?_⟩, fun k => ?_, fun m => ?_,
    fun m k => ?_, frames uses⟩, fun sound => ⟨?_, ?_⟩⟩
  · have lane : ((s.setClip n { s.clip n with useCount := count (s.clip n).useCount }).setExporter e).lane l = s.lane l := only.lane l
    rw [lane]; exact sound l
  · exact ⟨(table clips.table).inOrder, (table clips.table).numbers⟩
  · rw [change]
    have fine := clips.fine k
    exact ⟨fine.levels, fine.label, fine.lock⟩
  · exact (only.mark m).symm ▸ clips.lines m
  · have before := uses.counts k
    have sums : ((s.setClip n { s.clip n with useCount := count (s.clip n).useCount }).setExporter e).sumChannels (·.holds k) =
        s.sumChannels (·.holds k) := by
      have channel (d : Fin 4) : ((s.setClip n { s.clip n with useCount := count (s.clip n).useCount }).setExporter e).channel d =
          s.channel d := channel_congr only.channels d
      simp only [State.sumChannels, channel]
    have moved := counts k
    rw [roles_eq] at before ⊢
    rw [change, sums]
    show (if n = k then _ else _) = _ + e.holds k
    omega
  · rw [change]; exact (only.mark m).symm ▸ uses.working m
  · exact (only.mark m).symm ▸ (only.mark k).symm ▸ uses.groups m k
  · have kept := only.protectionSound table sound fun k => ?_
    · refine ⟨kept.held, kept.newest, kept.next, kept.marked, kept.exported, fun running => ?_⟩
      rw [change]
      exact exporting sound running
    · have same := change k
      rw [show (s.setClip n { s.clip n with useCount := count (s.clip n).useCount }).clip k = _ from same]
      exact ⟨fun _ _ _ => rfl, sound.protected.marked k, rfl, sound.protected.exported k⟩
  · exact (only.claimsSound sound.claims).of_same (fun _ => rfl) (fun _ => rfl) (by rw [only.exporter]; exact reads) fun _ => rfl

/-! ### The end of an export (R176) -/

theorem leaveClip_of_used {s : State} {n : Nat} (used : (s.clip n).state ≠ .free) :
    s.leaveClip n = s.setClip n { s.clip n with useCount := (s.clip n).useCount - 1 } := if_neg used

theorem takeClip_of_used {s : State} {n : Nat} (used : (s.clip n).state ≠ .free) :
    s.takeClip n = s.setClip n { s.clip n with useCount := (s.clip n).useCount + 1 } := if_neg used

/-- The export after its end. -/
def Exporter.ended (e : Exporter) (r : ExportResult) : Exporter :=
  { e with lastResult := some r, abort := false, stall := 0, state := .idle }

/-- The export lock released and the clip left, with the export idle. -/
def State.exportLeft (s : State) (r : ExportResult) : State :=
  ((s.relax s.exporter.clip { s.clip s.exporter.clip with exportLock := false }).leaveClip s.exporter.clip).setExporter
    (s.exporter.ended r)

theorem endExport_eq (s : State) (r : ExportResult) : s.endExport r =
    ((s.emit (.portRecord (endRecord s.exporter r))).exportLeft r).post .exporting 0 s.exporter.clip (exportEndData s.exporter r) :=
  rfl

theorem relax_lanes_of_any {s : State} {k : Nat} {opLock exportLock : Bool} (sound : ∀ l, (s.lane l).sound) (l : Fin 8) :
    ((s.relax k { s.clip k with opLock, exportLock }).lane l).sound := by
  by_cases used : (s.clip k).state = .free
  · have none : ({ s.clip k with opLock, exportLock } : Clip).range = none := by simp [Clip.range, used]
    have same : s.relax k { s.clip k with opLock, exportLock } = s.setClip k { s.clip k with opLock, exportLock } := by
      simp only [State.relax, none, ite_self]
    rw [same, lane_congr (setClip_lanes ..)]
    exact sound l
  · exact relax_lanes used sound l

theorem exportLeft_lanes {s : State} (r : ExportResult) (sound : ∀ l, (s.lane l).sound) (l : Fin 8) :
    ((s.exportLeft r).lane l).sound := by
  have same : (s.exportLeft r).lane l = (s.relax s.exporter.clip { s.clip s.exporter.clip with exportLock := false }).lane l :=
    lane_congr (modifyClip_lanes ..) l
  rw [same]
  exact relax_lanes_of_any (opLock := (s.clip s.exporter.clip).opLock) (exportLock := false) sound l

theorem relock_clips {s : State} {k : Nat} (used : (s.clip k).state ≠ .free) (opLock exportLock : Bool) (held : Nat) :
    (s.relock k opLock exportLock held).clips = Sparse.insert s.clips k { s.clip k with opLock, exportLock } := by
  rw [State.relock, setLane_clips, setClip_of_used s k (by exact used)]

theorem relock_others_same (s : State) (k : Nat) (opLock exportLock : Bool) (held : Nat) :
    (s.relock k opLock exportLock held).marks = s.marks ∧ (s.relock k opLock exportLock held).channels = s.channels ∧
      (s.relock k opLock exportLock held).xfer = s.xfer ∧ (s.relock k opLock exportLock held).exporter = s.exporter :=
  ⟨setClip_marks .., setClip_channels .., setClip_xfer .., setClip_exporter ..⟩

theorem unheldIn_congr {s t : State} (before : Sparse.Sorted s.clips) (after : Sparse.Sorted t.clips) {l : Fin 8}
    (entries : (t.lane l).entries = (s.lane l).entries) (same : ∀ j n, (t.clip j).protects l n = (s.clip j).protects l n)
    (r : LfnRange) : t.unheldIn l r = s.unheldIn l r := by
  unfold State.unheldIn
  rw [entries]
  exact List.countP_congr fun e _ => by rw [isHeld_of_protects before after fun j => same j e.lfn]

section
variable {s : State}

/-- The export at its end with its clip left, and the export lock still set. -/
def State.exportIdled (s : State) (r : ExportResult) : State :=
  (s.setClip s.exporter.clip { s.clip s.exporter.clip with useCount := (s.clip s.exporter.clip).useCount - 1 }).setExporter
    (s.exporter.ended r)

theorem exportIdled_clip (used : (s.clip s.exporter.clip).state ≠ .free) (r : ExportResult) (k : Nat) : (s.exportIdled r).clip k =
    if s.exporter.clip = k then { s.clip s.exporter.clip with useCount := (s.clip s.exporter.clip).useCount - 1 } else s.clip k :=
  (State.clip_congr rfl k).trans (clip_setClip_used (by exact used) k)

theorem exportIdled_lane (r : ExportResult) (l : Fin 8) : (s.exportIdled r).lane l = s.lane l := lane_congr (setClip_lanes ..) l

/-- Releasing the export lock and leaving the clip may be taken in either order. -/
theorem exportLeft_calm (r : ExportResult) (clips : s.clipsSound) (used : (s.clip s.exporter.clip).state ≠ .free) :
    ((s.exportIdled r).relax s.exporter.clip { (s.exportIdled r).clip s.exporter.clip with exportLock := false }).Calm
      (s.exportLeft r) := by
  obtain ⟨range, hrange⟩ := Clip.range_of_used used
  have record := exportIdled_clip used r s.exporter.clip
  rw [if_pos rfl] at record
  have usedIdled : ((s.exportIdled r).clip s.exporter.clip).state ≠ .free := by rw [record]; exact used
  have idledRange : ((s.exportIdled r).clip s.exporter.clip).range = some range := by rw [record]; exact hrange
  have left := relax_eq_relock s (opLock := (s.clip s.exporter.clip).opLock) (exportLock := false) hrange
  have right := relax_eq_relock (s.exportIdled r) (opLock := ((s.exportIdled r).clip s.exporter.clip).opLock) (exportLock := false)
    idledRange
  have same : ((s.exportIdled r).setClip s.exporter.clip
        { (s.exportIdled r).clip s.exporter.clip with exportLock := false }).unheldIn (s.clip s.exporter.clip).lane range =
      (s.setClip s.exporter.clip { s.clip s.exporter.clip with exportLock := false }).unheldIn (s.clip s.exporter.clip).lane range := by
    have table := clips.table
    have idled : (s.exportIdled r).Table := by
      have set := table.setClip (table.inRange used)
        { s.clip s.exporter.clip with useCount := (s.clip s.exporter.clip).useCount - 1 }
      exact ⟨set.inOrder, set.numbers⟩
    refine unheldIn_congr (table.setClip (table.inRange used) _).inOrder (idled.setClip (table.inRange used) _).inOrder ?_
      (fun j n => ?_) range
    · rw [lane_congr (setClip_lanes ..), lane_congr (setClip_lanes ..), exportIdled_lane]
    · rw [clip_setClip_used (by exact usedIdled), clip_setClip_used (by exact used), record, exportIdled_clip used]
      split
      · rfl
      · rfl
  have lane : ((s.exportIdled r).clip s.exporter.clip).lane = (s.clip s.exporter.clip).lane := by rw [record]
  have opLock : ((s.exportIdled r).clip s.exporter.clip).opLock = (s.clip s.exporter.clip).opLock := by rw [record]
  rw [lane, exportIdled_lane, same, opLock] at right
  generalize (if ((s.clip s.exporter.clip).opLock || false) = true then _ else _ : Nat) = held at left right
  have released : (s.exportIdled r).relax s.exporter.clip { (s.exportIdled r).clip s.exporter.clip with exportLock := false } =
      (s.exportIdled r).relock s.exporter.clip (s.clip s.exporter.clip).opLock false held := by rw [← right, ← opLock]
  have locked := relock_same (opLock := (s.clip s.exporter.clip).opLock) (exportLock := false) (held := held) used
  rw [released, State.exportLeft, left, leaveClip_of_used (by rw [locked]; exact used), locked,
    setClip_of_used _ _ (by exact used)]
  obtain ⟨leftMarks, leftChannels, leftXfer, -⟩ := relock_others_same s s.exporter.clip (s.clip s.exporter.clip).opLock false held
  obtain ⟨rightMarks, rightChannels, rightXfer, idledExporter⟩ :=
    relock_others_same (s.exportIdled r) s.exporter.clip (s.clip s.exporter.clip).opLock false held
  have idledMarks := rightMarks.trans (setClip_marks s _ _ : (s.exportIdled r).marks = s.marks)
  have idledChannels := rightChannels.trans (setClip_channels s _ _ : (s.exportIdled r).channels = s.channels)
  have idledXfer := rightXfer.trans (setClip_xfer s _ _ : (s.exportIdled r).xfer = s.xfer)
  refine ⟨?_, fun l => ?_, fun m => ?_, fun c => ?_, ?_, fun c => ?_⟩
  · show Sparse.insert _ _ _ = _
    rw [relock_clips used, relock_clips usedIdled, Sparse.insert_insert, record, State.exportIdled, setExporter_clips,
      setClip_of_used _ _ (by exact used), Sparse.insert_insert]
  · refine congrArg Lane.core ?_
    show (s.relock s.exporter.clip (s.clip s.exporter.clip).opLock false held).lane l = _
    rw [relock_lane, relock_lane, lane, exportIdled_lane]
  · rw [State.mark, State.mark, idledMarks]
    exact congrArg (fun marks : Vector MarkLine 8 => marks[m].group) leftMarks
  · rw [State.channel, State.channel, idledChannels]
    exact congrArg (fun channels : Vector Channel 4 => channels[c].uses) leftChannels
  · rw [idledExporter]
    rfl
  · rw [State.fetchOf, State.fetchOf, idledXfer]
    exact congrArg (fun xfer : Xfer => xfer.fetch[c].map Fetch.frame) leftXfer

/-- R176: an export ends, its frame ended before. -/
theorem safe_exportLeft (r : ExportResult) (running : s.exporter.state = .running) (idle : s.exporter.frame = none) :
    s.Safe (s.exportLeft r) := by
  refine .of_lanes (exportLeft_lanes r) fun clips uses => ?_
  have held : s.exporter.holds s.exporter.clip = 1 := by rw [Exporter.holds_eq, if_pos ⟨running, rfl⟩]
  have used : (s.clip s.exporter.clip).state ≠ .free := used_of_roles clips.table uses (by rw [roles_eq, held]; omega)
  have idled : s.Safe (s.exportIdled r) := by
    refine safe_moveExporter (count := fun n => n - 1) (e := s.exporter.ended r) used (fun k most => ?_)
      (fun _ some => absurd idle some) (fun _ still => by cases still) rfl
    rw [show (s.exporter.ended r).holds k = 0 from if_neg fun still => by cases still.1]
    by_cases here : s.exporter.clip = k
    · rw [← here, held] at most ⊢
      rw [if_pos rfl]
      omega
    · rw [if_neg here, Exporter.holds_eq, if_neg fun both => here both.2]
  have record := exportIdled_clip used r s.exporter.clip
  rw [if_pos rfl] at record
  have usedIdled : ((s.exportIdled r).clip s.exporter.clip).state ≠ .free := by rw [record]; exact used
  have fewer : (((s.exportIdled r).clip s.exporter.clip).opLock || false) = true →
      ((s.exportIdled r).clip s.exporter.clip).locked = true := fun set => (Clip.locked_iff _).mpr (.inl (by simpa using set))
  have calm := exportLeft_calm r clips used
  refine .of_keeps (idled.keeps.trans ((relax_keeps usedIdled fewer).trans calm.safe.keeps)) fun sound => ?_
  have lock := sound.protected.exporting running
  refine idled.trans (State.Safe.calm ?_ calm)
  exact safe_relax (opLock := ((s.exportIdled r).clip s.exporter.clip).opLock) (exportLock := false) usedIdled fewer
    (fun _ => (Clip.locked_iff _).mpr (.inr (by rw [record]; exact lock))) (by simp) (fun _ still => by cases still)

theorem safe_endExport (r : ExportResult) (running : s.exporter.state = .running) (idle : s.exporter.frame = none) :
    s.Safe (s.endExport r) := by
  rw [endExport_eq]
  have sent : s.Calm (s.emit (.portRecord (endRecord s.exporter r))) := .same
  exact (sent.safe.trans (safe_exportLeft (s := s.emit (.portRecord (endRecord s.exporter r))) r running idle)).calm (calm_post ..)

end

/-! ### The walk (R172) -/

theorem goodAt_spec {x : Lane} {n : Nat} {e : Entry} (h : x.goodAt n = some e) : e ∈ x.entries ∧ e.status = .good := by
  have good := List.find?_some h
  simp only [Bool.and_eq_true, Entry.isGood, beq_iff_eq] at good
  exact ⟨List.mem_of_find?_eq_some h, good.2⟩

theorem calm_sendGap (s : State) : s.Calm s.sendGap :=
  Calm.trans (.same : s.Calm (s.emit (.portRecord (gapRecord s.exporter.next)))) (calm_setExporter rfl)

theorem safe_walk (fuel : Nat) {s : State} (running : s.exporter.state = .running) (idle : s.exporter.frame = none) :
    s.Safe (s.walk fuel) := by
  induction fuel generalizing s with
  | zero => exact .refl s
  | succ fuel ih =>
    unfold State.walk
    split
    · next e found =>
      obtain ⟨there, good⟩ := goodAt_spec found
      exact safe_beginFrame running idle there good
    · have gap := calm_sendGap s
      simp only []
      split
      · exact gap.safe.trans (safe_endExport .complete running idle)
      · have onward : s.sendGap.Calm (s.sendGap.setExporter { s.sendGap.exporter with next := s.sendGap.exporter.next + 1 }) :=
          calm_setExporter rfl
        exact (gap.trans onward).safe.trans (ih running idle)

end Sys2Proof.Machine
/-!
PROOFS. The export at its block completions, its stalls and its commands keeps the invariants (spec/09).
-/

namespace Sys2Proof.Machine

open State

/-! ### The lanes alone -/

theorem endFrame_lanes {s : State} (f : ExportFrame) (damaged : Bool) (sound : ∀ l, (s.lane l).sound) (l : Fin 8) :
    ((s.endFrame f damaged).lane l).sound := by
  have lane : (s.endFrame f damaged).lane l = if s.exporter.lane = l
      then (s.lane l).modifyEntry f.lfn fun e => { e with readCount := e.readCount - 1 } else s.lane l :=
    modifyLane_lane_eq s s.exporter.lane l (f := fun x => x.modifyEntry f.lfn fun e => { e with readCount := e.readCount - 1 })
  rw [lane]
  split
  · exact amends_remove.sound f.lfn (sound l)
  · exact sound l

theorem beginFrame_lanes {s : State} (e : Entry) (sound : ∀ l, (s.lane l).sound) (l : Fin 8) :
    ((s.beginFrame e).lane l).sound := by
  unfold State.beginFrame
  simp only []
  refine (calm_handExportRead ..).laneSound (fun k => ?_) l
  have lane := modifyLane_lane_eq s s.exporter.lane k (f := fun x => x.modifyEntry e.lfn fun e => { e with readCount := e.readCount + 1 })
  show ((s.modifyLane s.exporter.lane fun x => x.modifyEntry e.lfn fun e => { e with readCount := e.readCount + 1 }).lane k).sound
  rw [lane]
  split
  · exact amends_place.sound e.lfn (sound k)
  · exact sound k

theorem endExport_lanes {s : State} (r : ExportResult) (sound : ∀ l, (s.lane l).sound) (l : Fin 8) :
    ((s.endExport r).lane l).sound := by
  rw [endExport_eq]
  have sent : s.Calm (s.emit (.portRecord (endRecord s.exporter r))) := .same
  exact (calm_post ..).laneSound (exportLeft_lanes (s := s.emit (.portRecord (endRecord s.exporter r))) r (sent.laneSound sound)) l

theorem walk_lanes (fuel : Nat) {s : State} (sound : ∀ l, (s.lane l).sound) : ∀ l, ((s.walk fuel).lane l).sound := by
  induction fuel generalizing s with
  | zero => exact sound
  | succ fuel ih =>
    unfold State.walk
    have gap := (calm_sendGap s).laneSound sound
    split
    · exact beginFrame_lanes _ sound
    · simp only []
      split
      · exact endExport_lanes _ gap
      · exact ih gap

/-! ### Block completions and stalls (R173 to R175) -/

theorem exportBlockDone_lanes {s : State} (good : Bool) (sound : ∀ l, (s.lane l).sound) :
    ∀ l, ((s.exportBlockDone good).lane l).sound := by
  unfold State.exportBlockDone
  simp only []
  split
  · exact sound
  · split
    · exact endExport_lanes _ (endFrame_lanes _ _ sound)
    · split
      · exact (calm_handExportRead ..).laneSound sound
      · split
        · exact endExport_lanes _ (endFrame_lanes _ _ sound)
        · exact walk_lanes _ (endFrame_lanes _ _ sound)

theorem safe_exportBlockDone (s : State) (good : Bool) : s.Safe (s.exportBlockDone good) := by
  refine .of_lanes (exportBlockDone_lanes good) fun _ uses => ?_
  unfold State.exportBlockDone
  simp only []
  split
  · exact .refl s
  · next f inProgress =>
    have running := uses.frames (by rw [inProgress]; simp)
    generalize frame' : ({ f with sent := f.sent + 1, failed := f.failed || !good } : ExportFrame) = g
    have read : s.Calm (s.setExporter { s.exporter with frame := some g }) :=
      calm_setExporter (by rw [← frame']; simp [Exporter.uses, inProgress])
    have ended (damaged : Bool) := read.safe.trans (safe_endFrame (f := g) ⟨g, rfl, rfl⟩ damaged)
    have after (damaged : Bool) : ((s.setExporter { s.exporter with frame := some g }).endFrame g damaged).exporter.state = .running ∧
        ((s.setExporter { s.exporter with frame := some g }).endFrame g damaged).exporter.frame = Option.none := ⟨running, rfl⟩
    split
    · exact (ended true).trans (safe_endExport .aborted (after true).1 (after true).2)
    · split
      · exact (read.trans (calm_handExportRead ..)).safe
      · split
        · exact (ended _).trans (safe_endExport .complete (after _).1 (after _).2)
        · have onward (t : State) (n : Nat) : t.Calm (t.setExporter { t.exporter with next := n }) := calm_setExporter rfl
          exact ((ended _).calm (onward ..)).trans
            (safe_walk _ (after (f.failed || !good)).1 (after (f.failed || !good)).2)

theorem safe_exportReadDone (s : State) (block : Nat) (good : Bool) : s.Safe (s.exportReadDone block good) := by
  unfold State.exportReadDone
  split
  · exact .refl s
  · next r _ =>
    have sent (word : BlockData) : s.Calm ((s.setExportRead Option.none).emit (.portBlock word)) := .same
    simp only []
    refine State.Safe.trans (State.Calm.safe ?_) (safe_exportBlockDone ..)
    split
    · exact sent _
    · exact (sent _).trans (calm_post ..)

theorem safe_stallEnd {s : State} (running : s.exporter.state = .running) : s.Safe s.stallEnd := by
  have withdrawn : s.Calm (s.setExportRead Option.none) := .same
  unfold State.stallEnd
  simp only []
  split
  · next idle => exact withdrawn.safe.trans (safe_endExport _ running idle)
  · next f inProgress =>
    exact withdrawn.safe.trans ((safe_endFrame (s := s.setExportRead Option.none) ⟨f, inProgress, rfl⟩ true).trans
      (safe_endExport _ running rfl))

theorem safe_exporterTick (s : State) : s.Safe s.exporterTick := by
  unfold State.exporterTick
  simp only []
  split
  · next held =>
    have running : s.exporter.state = .running := by
      simp only [State.exportHeld, Bool.and_eq_true, beq_iff_eq] at held
      exact held.1.1.1
    have counted : s.Calm (s.setExporter { s.exporter with stall := s.exporter.counted }) := calm_setExporter rfl
    split
    · exact counted.safe.trans (safe_stallEnd running)
    · exact counted.safe
  · exact .refl s

/-! ### The start of an export (R170, R171) -/

theorem safe_lockForExport {s s' : State} {n : Nat} (closed : (s.clip n).state = .closed) (idle : s.exporter.state ≠ .running)
    (h : s.lockForExport n = some s') : s.Safe s' := by
  have used : (s.clip n).state ≠ .free := by rw [closed]; simp
  have present : (s.clip n).state ≠ .absent := by rw [closed]; simp
  unfold State.lockForExport at h
  simp only [] at h
  split at h
  · next locked =>
    cases h
    rw [← relax_locked (c := { s.clip n with exportLock := true }) ((Clip.locked_iff _).mpr (.inr rfl))]
    exact safe_relax (opLock := (s.clip n).opLock) (exportLock := true) used (fun _ => locked) (fun _ => locked)
      (fun _ _ => closed) fun _ running => absurd running idle
  · next unlocked =>
    split at h
    · cases h
    · next r range =>
      obtain ⟨t, admitted, rfl⟩ := Option.map_eq_some_iff.mp h
      exact safe_lock (opLock := (s.clip n).opLock) (exportLock := true) range admitted
        (fun _ => Bool.eq_false_iff.mpr unlocked) (by simp) present (fun _ _ => closed) fun _ running => absurd running idle

theorem lockForExport_locked {s s' : State} {n : Nat} (used : (s.clip n).state ≠ .free) (h : s.lockForExport n = some s') :
    s'.clip n = { s.clip n with exportLock := true } ∧ s'.exporter = s.exporter := by
  unfold State.lockForExport at h
  simp only [] at h
  split at h
  · cases h
    exact ⟨by rw [clip_setClip_used (by exact used), if_pos rfl], setClip_exporter ..⟩
  · split at h
    · cases h
    · obtain ⟨t, admitted, rfl⟩ := Option.map_eq_some_iff.mp h
      exact ⟨by rw [clip_setClip_used (by exact used), if_pos rfl], (setClip_exporter ..).trans (admitLock_exporter admitted)⟩

theorem startExport_lanes {s : State} (n a b tag : Nat) (sound : ∀ l, (s.lane l).sound) :
    ∀ l, ((s.startExport n a b tag).lane l).sound :=
  walk_lanes _ fun l => by
    have same : (s.takeClip n).lane l = s.lane l := lane_congr (modifyClip_lanes ..) l
    exact same ▸ sound l

/-- R171: the export starts on a clip that has its export lock. -/
theorem safe_startExport {s : State} {n : Nat} (a b tag : Nat) (used : (s.clip n).state ≠ .free)
    (lock : (s.clip n).exportLock = true) (idle : s.exporter.state ≠ .running) : s.Safe (s.startExport n a b tag) := by
  refine .of_lanes (startExport_lanes n a b tag) fun _ uses => ?_
  have none : s.exporter.frame = Option.none := by
    by_contra some
    exact idle (uses.frames some)
  unfold State.startExport State.walkOn
  simp only []
  rw [takeClip_of_used used]
  refine State.Safe.trans (State.Safe.calm (safe_moveExporter (count := fun k => k + 1) used (fun k _ => ?_) (fun _ _ => rfl)
    (fun _ _ => lock) ?_) .same) (safe_walk _ rfl ?_)
  · have before : s.exporter.holds k = 0 := if_neg fun both => idle both.1
    by_cases here : n = k
    · rw [before, if_pos here]
      exact congrArg ((s.clip k).useCount + ·) (if_pos ⟨rfl, here⟩ : Exporter.holds _ k = 1).symm
    · rw [before, if_neg here]
      exact congrArg ((s.clip k).useCount + ·) (if_neg fun both => here both.2 : Exporter.holds _ k = 0).symm
  · simp [Exporter.uses, setClip_exporter, none]
  · exact (congrArg Exporter.frame (setClip_exporter ..)).trans none

theorem safe_exportStartRequest (s : State) (n a b tag level : Nat) : s.Safe (s.exportStartRequest n a b tag level).state := by
  unfold State.exportStartRequest
  simp only []
  split
  · exact .refl s
  · next idle =>
    split
    · exact .refl s
    · next used =>
      split
      · exact .refl s
      · split
        · exact .refl s
        · next present =>
          split
          · exact .refl s
          · next notOpened =>
            split
            · exact .refl s
            · have closed : (s.clip n).state = .closed := by
                cases state : (s.clip n).state with
                | free => exact absurd state used
                | absent => exact absurd state present
                | opened => exact absurd state notOpened
                | closed => rfl
              split
              · exact .refl s
              · next s' locked =>
                obtain ⟨record, exporter⟩ := lockForExport_locked used locked
                exact (safe_lockForExport closed idle locked).trans
                  (safe_startExport a b tag (by rw [record]; exact used) (by rw [record]) (by rw [exporter]; exact idle))

end Sys2Proof.Machine
/-!
PROOFS. Changes of one lane keep the invariants: its states and counters, and entries that leave and join it (spec/02).
-/

namespace Sys2Proof.Machine

open State

/-! ### One lane changes -/

/-- The Clip Table and its uses do not read the lanes. -/
theorem clips_setLane {s : State} (l : Fin 8) (x : Lane) (sound : s.clipsSound ∧ s.usesSound) :
    (s.setLane l x).clipsSound ∧ (s.setLane l x).usesSound :=
  ⟨⟨sound.1.1, sound.1.2, sound.1.3, sound.1.4, sound.1.5, sound.1.6⟩, ⟨sound.2.1, sound.2.2, sound.2.3, sound.2.4⟩⟩

theorem lanes_setLane {s : State} {l : Fin 8} {x : Lane} (lane : (s.lane l).sound → x.sound) (sound : ∀ m, (s.lane m).sound)
    (m : Fin 8) : ((s.setLane l x).lane m).sound := by
  rw [lane_setLane_eq]
  split
  · exact lane (sound l)
  · exact sound m

/-- What a lane has to keep for the protection of frames, and for the claims on its entries. -/
structure State.Guards (s : State) (l : Fin 8) (x : Lane) : Prop where
  held   : x.held = x.entries.countP fun e => s.isHeld l e.lfn
  newest : ∀ e ∈ x.entries, ∃ a, x.newestAssigned = some a ∧ e.lfn ≤ a
  next   : ∀ a, x.newestAssigned = some a → a < x.nextLfn
  marked : ∀ n, (s.clip n).lane = l → (s.clip n).state = .opened ∨ (s.clip n).state = .closed → x.newestAssigned ≠ none
  counts : ∀ e ∈ x.entries, e.readCount = s.claims l e.lfn
  kept   : ∀ e ∈ (s.lane l).entries, e.status = .good → 0 < e.readCount → e ∈ x.entries

theorem protectionSound_setLane {s : State} {l : Fin 8} {x : Lane} (sound : s.Sound) (guards : s.Guards l x) :
    (s.setLane l x).protectionSound := by
  have before := sound.protected
  refine (protectionSound_iff (by exact sound.clips.inOrder)).mpr ⟨fun m => ?_, fun m => ?_, fun m => ?_, fun n opened => ?_,
    before.exported, before.exporting⟩
  · rw [lane_setLane_eq]
    split
    · next here => exact here ▸ guards.held
    · exact before.held m
  · rw [lane_setLane_eq]
    split
    · exact guards.newest
    · exact before.newest m
  · rw [lane_setLane_eq]
    split
    · exact guards.next
    · exact before.next m
  · rw [lane_setLane_eq]
    split
    · next here => exact guards.marked n here.symm opened
    · exact before.marked n opened

/-- What is claimed has its count above 0. -/
theorem claims_of_fetch {s : State} {c : Fin 4} {r : FrameRef} (fetch : (s.channel c).fetch = some r) : 0 < s.claims r.lane r.lfn := by
  have one := le_sumChannels s c (·.fetches r.lane r.lfn)
  rw [show (s.channel c).fetches r.lane r.lfn = 1 by rw [fetches_some fetch, if_pos ⟨rfl, rfl⟩]] at one
  rw [claims_eq]
  omega

theorem claims_of_frame {s : State} {f : ExportFrame} (frame : s.exporter.frame = some f) : 0 < s.claims s.exporter.lane f.lfn := by
  rw [claims_eq, reads_some frame, if_pos ⟨rfl, rfl⟩]
  exact Nat.succ_pos _

theorem claimsSound_setLane {s : State} {l : Fin 8} {x : Lane} (sound : s.Sound) (guards : s.Guards l x) :
    (s.setLane l x).claimsSound := by
  have still {m : Fin 8} {n j : Nat} (claimed : 0 < s.claims m n)
      (there : ∃ e ∈ (s.lane m).entries, e.lfn = n ∧ e.slot = j ∧ e.status = .good) :
      ∃ e ∈ ((s.setLane l x).lane m).entries, e.lfn = n ∧ e.slot = j ∧ e.status = .good := by
    obtain ⟨e, listed, lfn, slot, good⟩ := there
    have count := sound.claims.counts m e listed
    rw [lane_setLane_eq]
    split
    · next here =>
      subst here
      exact ⟨e, guards.kept e listed good (by rw [count, lfn]; exact claimed), lfn, slot, good⟩
    · exact ⟨e, listed, lfn, slot, good⟩
  refine ⟨fun m e he => ?_, fun c r fetch => still (claims_of_fetch fetch) (sound.claims.fetches c r fetch),
    fun f frame => still (claims_of_frame frame) (sound.claims.frame f frame), sound.claims.queued⟩
  rw [lane_setLane_eq] at he
  split at he
  · next here => exact here ▸ guards.counts e he
  · exact sound.claims.counts m e he

/-- A lane takes new values that it may. -/
theorem safe_setLane {s : State} {l : Fin 8} {x : Lane} (lane : (s.lane l).sound → x.sound) (guards : s.Sound → s.Guards l x) :
    s.Safe (s.setLane l x) :=
  ⟨lanes_setLane lane, clips_setLane l x,
    fun sound => ⟨protectionSound_setLane sound (guards sound), claimsSound_setLane sound (guards sound)⟩⟩

/-! ### The entries stay -/

/-- The lane has the entries, held count and newest LFN that it had, and its next LFN is not below what it was. -/
structure Lane.Holds (x y : Lane) : Prop where
  entries : y.entries = x.entries
  held    : y.held = x.held
  newest  : y.newestAssigned = x.newestAssigned
  next    : x.nextLfn ≤ y.nextLfn

theorem Lane.Holds.guards {s : State} {l : Fin 8} {y : Lane} (holds : (s.lane l).Holds y) (sound : s.Sound) : s.Guards l y := by
  have before := sound.protected
  refine ⟨?_, ?_, fun a newest => ?_, ?_, ?_, fun e he _ _ => ?_⟩
  · rw [holds.held, holds.entries]; exact before.held l
  · rw [holds.entries, holds.newest]; exact before.newest l
  · exact Nat.lt_of_lt_of_le (before.next l a (holds.newest ▸ newest)) holds.next
  · intro n here opened
    rw [holds.newest, ← here]
    exact before.marked n opened
  · rw [holds.entries]; exact sound.claims.counts l
  · rw [holds.entries]; exact he

theorem safe_holding {s : State} {l : Fin 8} {x : Lane} (lane : (s.lane l).sound → x.sound) (holds : (s.lane l).Holds x) :
    s.Safe (s.setLane l x) := safe_setLane lane holds.guards

/-- A lane's state and stop cause, when it neither starts nor goes OFF (R20, R21). -/
theorem Lane.sound.withState {x : Lane} (sound : x.sound) {state : LaneState} (cause : StopCause)
    (plain : state = .stopping ∨ state = .stopped) : Lane.sound { x with state, stopCause := cause } := by
  refine ⟨sound.rising, sound.assigned, sound.slots, sound.inOrder, sound.arrivals, sound.writes, fun recording => ?_, fun off => ?_,
    sound.held, sound.ceiling⟩
  · have : state = .recording := recording
    rcases plain with rfl | rfl <;> cases this
  · have : state = .off := off
    rcases plain with rfl | rfl <;> cases this

theorem safe_enterStopped (s : State) (l : Fin 8) : s.Safe (s.enterStopped l) := by
  unfold State.enterStopped
  have stopped : s.Safe (s.setLane l { s.lane l with state := .stopped }) :=
    safe_holding (fun sound => sound.withState (s.lane l).stopCause (.inr rfl)) ⟨rfl, rfl, rfl, Nat.le_refl _⟩
  exact stopped.calm (calm_post ..)

theorem safe_stopLane (s : State) (l : Fin 8) (cause : StopCause) : s.Safe (s.stopLane l cause) := by
  unfold State.stopLane
  simp only []
  split
  · have caused : s.Calm (s.setLane l { s.lane l with stopCause := cause }) := calm_setLane rfl
    exact caused.safe.trans (safe_enterStopped ..)
  · exact safe_holding (fun sound => sound.withState cause (.inl rfl)) ⟨rfl, rfl, rfl, Nat.le_refl _⟩

theorem safe_settleStopping (s : State) (l : Fin 8) : s.Safe (s.settleStopping l) := by
  unfold State.settleStopping
  split
  · exact safe_enterStopped s l
  · exact .refl s

/-! ### REC START, REC STOP and the lane's tick (R19, R20, R23) -/

theorem Lane.sound.started {x : Lane} (sound : x.sound) (may : x.mayStart = true) : x.started.sound := by
  simp only [Lane.mayStart, Bool.and_eq_true, decide_eq_true_iff] at may
  obtain ⟨-, room⟩ := may
  refine ⟨sound.rising, fun e he => ?_, sound.slots, sound.inOrder, Nat.zero_le _, sound.writes, fun _ => ?_, fun off => (by cases off),
    sound.held, sound.ceiling⟩
  · exact sound.assigned e he
  · show x.nextLfn + x.p ≤ maxLfn + 1
    omega

theorem safe_started {s : State} {l : Fin 8} (may : (s.lane l).mayStart = true) : s.Safe (s.setLane l (s.lane l).started) :=
  safe_holding (fun sound => sound.started may) ⟨rfl, rfl, rfl, Nat.le_refl _⟩

theorem safe_recStart (ls : List (Fin 8)) (a : State × List Nat) : a.1.Safe (ls.foldl recStartOne a).1 := by
  induction ls generalizing a with
  | nil => exact .refl _
  | cons l ls ih =>
    refine State.Safe.trans ?_ (ih (recStartOne a l))
    unfold recStartOne
    simp only []
    split
    · next may => exact safe_started may
    · exact .refl _

theorem safe_recStop (ls : List (Fin 8)) (a : State × List Nat) : a.1.Safe (ls.foldl recStopOne a).1 := by
  induction ls generalizing a with
  | nil => exact .refl _
  | cons l ls ih =>
    refine State.Safe.trans ?_ (ih (recStopOne a l))
    unfold recStopOne
    split
    · exact safe_stopLane ..
    · exact .refl _

/-- The next period of a lane (R23). -/
def Lane.nextPeriod (x : Lane) : Lane := { x with periodBase := x.periodBase + x.p, arrivals := 0 }

theorem Lane.sound.nextPeriod {x : Lane} (sound : x.sound) (room : x.periodBase + 2 * x.p - 1 ≤ maxLfn) : x.nextPeriod.sound := by
  have arrivals := sound.arrivals
  refine ⟨sound.rising, fun e he => ?_, sound.slots, sound.inOrder, Nat.zero_le _, sound.writes, fun _ => ?_, sound.off,
    sound.held, sound.ceiling⟩
  · obtain ⟨below, top⟩ := sound.assigned e he
    refine ⟨?_, top⟩
    show e.lfn < x.periodBase + x.p + 0
    omega
  · show x.periodBase + x.p + x.p ≤ maxLfn + 1
    omega

theorem safe_laneTick (s : State) (l : Fin 8) : s.Safe (s.laneTick l) := by
  unfold State.laneTick State.periodTick
  simp only []
  split
  · split
    · next room =>
      refine State.Safe.trans ?_ (safe_closeBelow _ l _)
      refine ⟨lanes_setLane fun sound => sound.nextPeriod room, clips_setLane l _, fun sound => ?_⟩
      have arrivals := (sound.lanes l).arrivals
      have holds : (s.lane l).Holds (s.lane l).nextPeriod := ⟨rfl, rfl, rfl, by
        show (s.lane l).periodBase + (s.lane l).arrivals ≤ (s.lane l).periodBase + (s.lane l).p + 0
        omega⟩
      exact ⟨protectionSound_setLane sound (holds.guards sound), claimsSound_setLane sound (holds.guards sound)⟩
    · exact ((safe_closeBelow s l _).trans (safe_stopLane ..)).calm (calm_post ..)
  · exact .refl s

/-! ### A write completes (R30) -/

theorem safe_writeCompleted (s : State) (l : Fin 8) (n : Nat) : s.Safe (s.writeCompleted l n) := by
  unfold State.writeCompleted
  refine State.Safe.trans ?_ (safe_settleStopping _ l)
  refine amends_good.safe n rfl (fun k => modifyLane_lane_eq s l k _) rfl (fun _ _ => rfl) ⟨rfl, rfl⟩ (fun uses => uses.frames)
    fun sound => amends_good.claimsSound n (fun k => modifyLane_lane_eq s l k _) (fun k e he => ?_) sound.claims.fetches
      sound.claims.frame sound.claims.queued
  refine Eq.trans ?_ (sound.claims.counts k e he)
  unfold Entry.amended
  split
  · split <;> rfl
  · rfl

/-! ### An entry leaves the lane (R26, R29, R31) -/

theorem insertSlot_perm (slots : List Nat) (j : Nat) : (insertSlot slots j).Perm (j :: slots) := by
  induction slots with
  | nil => exact .refl _
  | cons k slots ih =>
    unfold insertSlot
    split
    · exact .refl _
    · exact (ih.cons k).trans (.swap j k slots)

theorem insertSlot_inOrder {slots : List Nat} {j : Nat} (inOrder : slots.Pairwise (· < ·)) (new : j ∉ slots) :
    (insertSlot slots j).Pairwise (· < ·) := by
  induction slots with
  | nil => simp [insertSlot]
  | cons k slots ih =>
    obtain ⟨above, rest⟩ := List.pairwise_cons.mp inOrder
    have other : j ≠ k := fun same => new (same ▸ List.mem_cons_self)
    unfold insertSlot
    split
    · next less =>
      refine List.pairwise_cons.mpr ⟨fun i hi => ?_, inOrder⟩
      rcases List.mem_cons.mp hi with rfl | listed
      · exact less
      · exact less.trans (above i listed)
    · next notLess =>
      refine List.pairwise_cons.mpr ⟨fun i hi => ?_, ih rest fun listed => new (List.mem_cons_of_mem k listed)⟩
      rcases List.mem_cons.mp ((insertSlot_perm slots j).subset hi) with rfl | listed
      · omega
      · exact above i listed

/-- An entry of a sound lane, with those before and after it. -/
theorem Lane.sound.removed {x : Lane} (sound : x.sound) {e : Entry} (listed : e ∈ x.entries) :
    ∃ older newer, x.entries = older ++ e :: newer ∧ (x.removeEntry e).entries = older ++ newer := by
  obtain ⟨older, newer, entries⟩ := List.append_of_mem listed
  refine ⟨older, newer, entries, ?_⟩
  show x.entries.filter (fun y => y.lfn != e.lfn) = _
  rw [entries]
  exact filter_lfn_ne_of_rising (entries ▸ sound.rising)

theorem Lane.sound.removeEntry {x : Lane} (sound : x.sound) {e : Entry} (listed : e ∈ x.entries) : (x.removeEntry e).sound := by
  obtain ⟨older, newer, entries, left⟩ := sound.removed listed
  have sub : (older ++ newer).Sublist x.entries := entries ▸ (List.sublist_cons_self e newer).append_left older
  have slots : (e.slot :: (older ++ newer).map Entry.slot ++ x.freeSlots).Perm (List.range x.k) := by
    refine List.Perm.trans ?_ sound.slots
    rw [entries]
    refine List.Perm.append_right _ ?_
    rw [List.map_append, List.map_append, List.map_cons]
    exact List.perm_middle.symm
  have new : e.slot ∉ x.freeSlots := by
    have nodup := slots.nodup_iff.mpr List.nodup_range
    rw [List.cons_append] at nodup
    exact fun free => (List.nodup_cons.mp nodup).1 (List.mem_append_right _ free)
  refine ⟨left ▸ sound.rising.sublist sub, left ▸ fun y hy => sound.assigned y (sub.subset hy), ?_, insertSlot_inOrder sound.inOrder new,
    sound.arrivals, ?_, sound.recording, sound.off, sound.held, sound.ceiling⟩
  · rw [left]
    refine List.Perm.trans ?_ slots
    exact ((insertSlot_perm x.freeSlots e.slot).append_left _).trans List.perm_middle
  · refine Nat.le_trans ?_ sound.writes
    unfold Lane.writing
    rw [left]
    exact sub.countP_le

theorem countP_removed {older newer : List Entry} (e : Entry) (p : Nat → Bool) :
    (older ++ e :: newer).countP (fun y => p y.lfn) = (older ++ newer).countP (fun y => p y.lfn) + if p e.lfn then 1 else 0 := by
  simp only [List.countP_append, List.countP_cons]
  omega

/-- An unclaimed entry leaves its lane. -/
theorem safe_removeEntry {s : State} {l : Fin 8} {e : Entry} {held : Nat} {evicted damaged : Count32} (listed : e ∈ (s.lane l).entries)
    (unclaimed : e.status = .good → e.readCount = 0)
    (count : held = if s.isHeld l e.lfn then (s.lane l).held - 1 else (s.lane l).held) :
    s.Safe (s.setLane l { (s.lane l).removeEntry e with held, evicted, damaged }) := by
  refine safe_setLane (fun sound => ?_) fun sound => ?_
  · have removed := sound.removeEntry listed
    refine ⟨removed.rising, removed.assigned, removed.slots, removed.inOrder, removed.arrivals, removed.writes, removed.recording,
      removed.off, ?_, removed.ceiling⟩
    refine Nat.le_trans ?_ sound.held
    show held ≤ _
    rw [count]
    split
    · exact Nat.sub_le _ _
    · exact Nat.le_refl _
  · obtain ⟨older, newer, entries, left⟩ := (sound.lanes l).removed listed
    have before := sound.protected
    have sub : ∀ y ∈ ((s.lane l).removeEntry e).entries, y ∈ (s.lane l).entries := fun y hy => (List.mem_filter.mp hy).1
    refine ⟨?_, fun y hy => before.newest l y (sub y hy), before.next l,
      fun n here opened => here ▸ before.marked n opened, fun y hy => sound.claims.counts l y (sub y hy),
      fun y hy good claimed => ?_⟩
    · show held = ((s.lane l).removeEntry e).entries.countP _
      have total := before.held l
      rw [entries, countP_removed e (s.isHeld l)] at total
      rw [left, count]
      split
      · next isHeld => rw [total, if_pos isHeld]; exact Nat.add_sub_cancel _ _
      · next notHeld => rw [total, if_neg notHeld]; rfl
    · refine left ▸ ?_
      rw [entries] at hy
      rcases List.mem_append.mp hy with hy | hy
      · exact List.mem_append_left _ hy
      · rcases List.mem_cons.mp hy with rfl | hy
        · exact absurd (unclaimed good) (Nat.ne_of_gt claimed)
        · exact List.mem_append_right _ hy

theorem safe_evict {s : State} {l : Fin 8} {e : Entry} (found : s.evictable l = some e) : s.Safe (s.evict l e) := by
  have fits := List.find?_some found
  simp only [Bool.and_eq_true, Bool.not_eq_true', beq_iff_eq] at fits
  obtain ⟨⟨-, unclaimed⟩, unheld⟩ := fits
  refine State.Safe.trans ?_ (safe_evictedAt ..)
  exact safe_removeEntry (List.mem_of_find?_eq_some found) (fun _ => unclaimed) (by rw [unheld]; rfl)

theorem safe_makeRoom (s : State) (l : Fin 8) : s.Safe (s.makeRoom l) := by
  unfold State.makeRoom
  split
  · exact .refl s
  · split
    · exact .refl s
    · next e found => exact safe_evict found

theorem safe_damageFrame (s : State) (l : Fin 8) (n : Nat) : s.Safe (s.damageFrame l n) := by
  unfold State.damageFrame
  split
  · exact .refl s
  · next e found =>
    have fits := List.find?_some found
    simp only [Bool.and_eq_true, beq_iff_eq] at fits
    obtain ⟨rfl, writing⟩ := fits
    have calm (t : State) : t.Calm ((t.cancelWrite l e.lfn).post .cadence 2 l.val (lfnBytes e.lfn ++ leBytes 2 e.slot)) :=
      (calm_cancelWrite ..).trans (calm_post ..)
    refine State.Safe.trans (State.Safe.calm ?_ (calm _)) (safe_settleStopping ..)
    exact safe_removeEntry (List.mem_of_find?_eq_some found) (fun good => by rw [writing] at good; cases good) rfl

theorem safe_endDamaged (s : State) (l : Fin 8) (frame : Option Nat) : s.Safe (s.endDamaged l frame) := by
  have ended : s.Calm (s.modifyLane l fun x => x.frameEnded frame) := calm_modifyLane (by cases frame <;> rfl)
  unfold State.endDamaged
  simp only []
  split
  · exact ended.safe
  · exact ended.safe.trans (safe_damageFrame ..)

theorem safe_signalReport (s : State) (l : Fin 8) (present : Bool) : s.Safe (s.signalReport l present) := by
  unfold State.signalReport
  simp only []
  split
  · exact .refl s
  · have lost : s.Safe (if present then s else s.endDamaged l Option.none) := by
      split
      · exact .refl s
      · exact safe_endDamaged ..
    generalize (if present then s else s.endDamaged l Option.none) = t at lost ⊢
    have reported : t.Calm (t.modifyLane l fun x => { x with signal := present }) := calm_modifyLane rfl
    split
    · exact lost.calm reported
    · exact (lost.calm reported).calm (calm_post ..)

theorem safe_finishWrite (s : State) (l : Fin 8) (n : Nat) : s.Safe (s.finishWrite l n) := by
  unfold State.finishWrite
  split
  · exact .refl s
  · split
    · exact State.Safe.trans (State.Calm.safe .same) (safe_writeCompleted _ l n)
    · exact .refl s

theorem safe_frameEnds (s : State) (l : Fin 8) (x : FrameEnd) : s.Safe (s.frameEnds l x) := by
  unfold State.frameEnds
  split
  · exact safe_endDamaged ..
  · split
    · exact safe_endDamaged ..
    · next f _ _ =>
      have ended : s.Calm (s.modifyLane l fun y => y.frameEnded x.frame) := calm_modifyLane (by cases x.frame <;> rfl)
      exact (ended.safe.trans (State.Calm.safe .same)).trans (safe_finishWrite _ l f.lfn)

theorem safe_writeBlockDone (s : State) (l : Fin 8) (n block : Nat) (d : BlockData) : s.Safe (s.writeBlockDone l n block d) :=
  State.Safe.trans (State.Calm.safe .same) (safe_finishWrite _ l n)

theorem safe_finishBlock (s : State) (v : InService) (good : Bool) : s.Safe (s.finishBlock v good) := by
  unfold State.finishBlock
  split
  · exact safe_writeBlockDone ..
  · exact safe_fetchBlockDone ..
  · exact safe_exportReadDone ..
  · exact State.Calm.safe .same
  · exact .refl s

end Sys2Proof.Machine
/-!
PROOFS. A frame's arrival keeps the invariants: its number, the room made for it, its entry and the closes at the ceiling (R24, R36, R39).
-/

namespace Sys2Proof.Machine

open State

/-! ### The number of an arrival (R24) -/

/-- The lane has numbered an arrival that has no entry yet, and may give it one. -/
structure Lane.Awaits (x : Lane) (lfn : Nat) : Prop where
  below  : ∀ e ∈ x.entries, e.lfn < lfn
  next   : x.nextLfn = lfn + 1
  newest : x.newestAssigned = some lfn
  top    : lfn ≤ maxLfn
  idle   : x.writing < 2

theorem Lane.sound.numbered {x : Lane} (sound : x.sound) (room : x.arrivals ≠ x.p) : x.numbered.sound := by
  refine ⟨sound.rising, fun e he => ?_, sound.slots, sound.inOrder, Nat.lt_of_le_of_ne sound.arrivals room, sound.writes,
    sound.recording, sound.off, sound.held, sound.ceiling⟩
  obtain ⟨below, top⟩ := sound.assigned e he
  exact ⟨Nat.lt_succ_of_lt below, top⟩

theorem Lane.sound.awaits {x : Lane} (sound : x.sound) (recording : x.state = .recording) (room : x.arrivals ≠ x.p)
    (idle : x.writing < 2) : x.numbered.Awaits x.nextLfn := by
  refine ⟨fun e he => (sound.assigned e he).1, rfl, rfl, ?_, idle⟩
  have period := sound.recording recording
  have arrivals := sound.arrivals
  unfold Lane.nextLfn
  omega

theorem safe_numbered {s : State} {l : Fin 8} (room : (s.lane l).arrivals ≠ (s.lane l).p) :
    s.Safe (s.setLane l (s.lane l).numbered) := by
  refine safe_setLane (fun sound => sound.numbered room) fun sound => ?_
  have before := sound.protected
  refine ⟨before.held l, fun e he => ⟨_, rfl, ?_⟩, fun a newest => ?_, fun _ _ _ => by simp [Lane.numbered], sound.claims.counts l,
    fun e he _ _ => he⟩
  · exact Nat.le_of_lt ((sound.lanes l).assigned e he).1
  · cases newest
    exact Nat.lt_succ_self _

theorem Lane.RoomMade.awaits {x y : Lane} (made : x.RoomMade y) {lfn : Nat} (awaits : x.Awaits lfn) : y.Awaits lfn := by
  have next := congrArg Lane.nextLfn made.partition
  have newest := congrArg Lane.newestAssigned made.partition
  exact ⟨fun e he => awaits.below e (made.sublist.subset he), (show y.nextLfn = _ from next).trans awaits.next,
    (show y.newestAssigned = _ from newest).trans awaits.newest, awaits.top,
    Nat.lt_of_le_of_lt made.sublist.countP_le awaits.idle⟩

/-! ### The entry of an arrival (R27, R36) -/

theorem Lane.sound.appended {x : Lane} (sound : x.sound) {lfn j held : Nat} {rest : List Nat} {accepted : Count32} (awaits : x.Awaits lfn)
    (free : x.freeSlots = j :: rest) (fits : held ≤ x.h) {e : Entry} (isLfn : e.lfn = lfn) (slot : e.slot = j) :
    Lane.sound { x with entries := x.entries ++ [e], freeSlots := rest, accepted, held } := by
  have next : x.periodBase + x.arrivals = lfn + 1 := awaits.next
  have idle := awaits.idle
  have slots := sound.slots
  have inOrder := sound.inOrder
  rw [free] at slots inOrder
  refine ⟨?_, fun y hy => ?_, ?_, (List.pairwise_cons.mp inOrder).2, sound.arrivals, ?_, sound.recording, sound.off, fits,
    sound.ceiling⟩
  · refine List.pairwise_append.mpr ⟨sound.rising, List.pairwise_singleton .., fun y hy z hz => ?_⟩
    rw [List.mem_singleton.mp hz, isLfn]
    exact awaits.below y hy
  · rcases List.mem_append.mp hy with hy | hy
    · exact sound.assigned y hy
    · rw [List.mem_singleton.mp hy, isLfn]
      exact ⟨Nat.lt_of_lt_of_eq (Nat.lt_succ_self _) next.symm, awaits.top⟩
  · refine List.Perm.trans (List.Perm.of_eq ?_) slots
    simp [slot]
  · unfold Lane.writing at idle ⊢
    rw [List.countP_append]
    have one := List.countP_le_length (p := fun e : Entry => e.status == .writing) (l := [e])
    simp only [List.length_singleton] at one
    omega

/-- What is claimed has an entry. -/
theorem entry_of_claims {s : State} (sound : s.claimsSound) {l : Fin 8} {n : Nat} (claimed : s.claims l n ≠ 0) :
    ∃ e ∈ (s.lane l).entries, e.lfn = n := by
  by_cases fetched : (allChannels.filter fun c => (s.channel c).fetch.any fun r => r.lane == l && r.lfn == n) = []
  · have read : s.exporter.lane = l ∧ (s.exporter.frame.any fun f => f.lfn == n) = true := by
      by_contra none
      exact claimed (by rw [State.claims, fetched, if_neg none]; rfl)
    obtain ⟨rfl, frame⟩ := read
    obtain ⟨f, inProgress, isLfn⟩ := (Option.any_eq_true _ _).mp frame
    obtain ⟨e, listed, lfn, -, -⟩ := sound.frame f inProgress
    exact ⟨e, listed, lfn.trans (beq_iff_eq.mp isLfn)⟩
  · obtain ⟨c, hc⟩ := List.exists_mem_of_ne_nil _ fetched
    obtain ⟨-, any⟩ := List.mem_filter.mp hc
    obtain ⟨r, fetch, same⟩ := (Option.any_eq_true _ _).mp any
    simp only [Bool.and_eq_true, beq_iff_eq] at same
    obtain ⟨rfl, rfl⟩ := same
    obtain ⟨e, listed, lfn, -, -⟩ := sound.fetches c r fetch
    exact ⟨e, listed, lfn⟩

theorem isHeld_eq_lockedAt (s : State) (l : Fin 8) (n : Nat) : s.isHeld l n = decide (s.lockedAt l n ≠ []) := by
  rw [Bool.eq_iff_iff, decide_eq_true_iff]
  simp only [State.isHeld, State.lockedAt, State.clipsOf, List.any_eq_true, ne_eq, List.map_eq_nil_iff, List.filter_eq_nil_iff,
    not_forall, not_not, Bool.and_eq_true, exists_prop]
  refine exists_congr fun e => and_congr_right fun _ => ?_
  tauto

section
variable {s : State} {l : Fin 8} {lfn j : Nat} {rest : List Nat} (phase : Nat)

theorem appendArrival_lanes (free : (s.lane l).freeSlots = j :: rest) (awaits : (s.lane l).Awaits lfn) (sound : ∀ m, (s.lane m).sound) :
    ∀ m, ((s.appendArrival l lfn phase j rest).lane m).sound := by
  refine lanes_setLane (fun lane => ?_) sound
  refine lane.appended awaits free ?_ rfl rfl
  split
  · next below => exact below.2
  · exact lane.held

/-- An entry that no locked clip covers, or that is held below the ceiling. -/
theorem safe_appendArrival (free : (s.lane l).freeSlots = j :: rest) (awaits : (s.lane l).Awaits lfn)
    (below : s.lockedAt l lfn ≠ [] → (s.lane l).held < (s.lane l).h) : s.Safe (s.appendArrival l lfn phase j rest) := by
  refine ⟨appendArrival_lanes phase free awaits, clips_setLane l _, fun sound => ?_⟩
  have before := sound.protected
  suffices guards : s.Guards l _ from ⟨protectionSound_setLane sound guards, claimsSound_setLane sound guards⟩
  refine ⟨?_, fun e he => ⟨lfn, awaits.newest, ?_⟩, before.next l, fun n here opened => here ▸ before.marked n opened, fun e he => ?_,
    fun e he _ _ => List.mem_append_left _ he⟩
  · have held := before.held l
    simp only [List.countP_append, List.countP_cons, List.countP_nil, isHeld_eq_lockedAt s l lfn, ← held]
    by_cases locked : s.lockedAt l lfn = []
    · simp [locked]
    · simp [locked, below locked]
  · rcases List.mem_append.mp he with he | he
    · exact Nat.le_of_lt (awaits.below e he)
    · rw [List.mem_singleton.mp he]
  · rcases List.mem_append.mp he with he | he
    · exact sound.claims.counts l e he
    · rw [List.mem_singleton.mp he]
      by_contra claimed
      obtain ⟨y, listed, isLfn⟩ := entry_of_claims sound.claims (Ne.symm claimed)
      exact absurd isLfn (Nat.ne_of_lt (awaits.below y listed))

end

/-! ### The closes at the ceiling (R36) -/

/-- The clips at the ceiling closed. -/
def State.ceiled (s : State) (l : Fin 8) (before lfn : Nat) : State :=
  (s.lockedAt l lfn).foldl (fun u n => u.closeAtCeiling l before lfn n) s

section
variable {s : State} {l : Fin 8} {before lfn : Nat}

theorem ceiled_onlyClips : s.OnlyClips (s.ceiled l before lfn) := .foldl (fun t n => .closeAtCeiling t l before lfn n) _ _

theorem ceiled_table (table : s.Table) : (s.ceiled l before lfn).Table := by
  unfold State.ceiled
  induction s.lockedAt l lfn generalizing s with
  | nil => exact table
  | cons n ns ih =>
    refine ih ?_
    have closed : (s.closeClip n before).Table := table.modifyClip n _
    have posted : (s.closeAtCeiling l before lfn n).clips = (s.closeClip n before).clips := post_clips ..
    exact ⟨posted ▸ closed.inOrder, posted ▸ closed.numbers⟩

theorem ceiled_clip (sorted : Sparse.Sorted s.clips) (k : Nat) : (s.ceiled l before lfn).clip k =
    if k ∈ s.lockedAt l lfn ∧ (s.clip k).state ≠ .free then s.closedAt (s.clip k) before else s.clip k :=
  clip_foldl_closeAtCeiling l before lfn (clipsOf_nodup sorted l _) k

theorem ceiled_uses (sound : s.clipsSound ∧ s.usesSound) :
    (s.ceiled l before lfn).clipsSound ∧ (s.ceiled l before lfn).usesSound := by
  refine ceiled_onlyClips.uses ceiled_table (fun clips k => ?_) sound
  have fine := clips.fine k
  rw [ceiled_clip clips.inOrder]
  split
  · exact ⟨rfl, fun _ => by simp, fine.levels, fine.label, fun _ => by simp⟩
  · exact fine.replaces

/-- A clip that covers an arrival covers, once closed before it, the same entries before it. -/
theorem covers_closedAt {c : Clip} (covers : c.covers lfn = true) (earlier : before < lfn) {n : Nat} (le : n ≤ before) :
    (s.closedAt c before).covers n = c.covers n := by
  have after : (s.closedAt c before).covers n = (decide (c.inLfn ≤ n) && decide (n ≤ before)) := by
    simp [Clip.covers, Clip.range, LfnRange.has]
  rw [after]
  unfold Clip.covers at covers ⊢
  cases range : c.range with
  | none => rw [range] at covers; cases covers
  | some r =>
    rw [range] at covers
    have lo : r.lo = c.inLfn := by
      unfold Clip.range at range
      split at range <;> cases range <;> rfl
    simp only [LfnRange.has, lo] at covers ⊢
    cases hi : r.hi with
    | none => simp [le]
    | some h =>
      simp only [hi, Bool.and_eq_true, decide_eq_true_iff] at covers
      have fits : n ≤ h := by omega
      simp [le, fits]

theorem covers_closedAt_later {c : Clip} (earlier : before < lfn) : (s.closedAt c before).covers lfn = false := by
  simp [Clip.covers, Clip.range, LfnRange.has, Nat.not_le.mpr earlier]

/-- Closing the clips that cover an arrival at the newest LFN before it protects the entries that they protected. -/
theorem safe_ceiled (earlier : s.lockedAt l lfn ≠ [] → before < lfn ∧ ∀ e ∈ (s.lane l).entries, e.lfn ≤ before) :
    s.Safe (s.ceiled l before lfn) := by
  refine ⟨fun sound m => by rw [ceiled_onlyClips.lane]; exact sound m, ceiled_uses,
    fun sound => ⟨ceiled_onlyClips.protectionSound ceiled_table sound fun k => ?_, ceiled_onlyClips.claimsSound sound.claims⟩⟩
  have old := sound.protected
  rw [ceiled_clip sound.clips.inOrder]
  split
  · next closes =>
    obtain ⟨lane, locked, covers⟩ := (mem_lockedAt_iff sound.clips.inOrder).mp closes.1
    obtain ⟨less, entries⟩ := earlier (List.ne_nil_of_mem closes.1)
    refine ⟨fun m e he => ?_, fun _ => ?_, rfl, fun _ => rfl⟩
    · by_cases here : (s.clip k).lane = m
      · have le : e.lfn ≤ before := entries e (by rw [← lane, here]; exact he)
        unfold Clip.protects
        rw [covers_closedAt covers less le]
        rfl
      · have other : ((s.clip k).lane == m) = false := beq_eq_false_iff_ne.mpr here
        simp [Clip.protects, State.closedAt, other]
    · refine old.marked k ?_
      cases state : (s.clip k).state with
      | free => exact absurd state closes.2
      | absent => exact absurd state ((sound.clips.fine k).lock locked)
      | opened => exact .inl rfl
      | closed => exact .inr rfl
  · exact old.protects k

theorem ceiled_lockedAt (sound : s.clipsSound) (earlier : s.lockedAt l lfn ≠ [] → before < lfn) :
    (s.ceiled l before lfn).lockedAt l lfn = [] := by
  refine List.eq_nil_iff_forall_not_mem.mpr fun k listed => ?_
  obtain ⟨lane, locked, covers⟩ := (mem_lockedAt_iff (ceiled_table sound.table).inOrder).mp listed
  rw [ceiled_clip sound.inOrder] at lane locked covers
  split at covers
  · next closes =>
    rw [covers_closedAt_later (earlier (List.ne_nil_of_mem closes.1))] at covers
    cases covers
  · next stays =>
    rw [if_neg stays] at lane locked
    refine stays ⟨(mem_lockedAt_iff sound.inOrder).mpr ⟨lane, locked, covers⟩, fun free => ?_⟩
    rw [Clip.covers_free free] at covers
    cases covers

theorem closeAtCeiling_setLane {y : Lane} (n : Nat)
    (timecode : ∀ m, (s.setLane l y).entryTimecode m before = s.entryTimecode m before) :
    (s.setLane l y).closeAtCeiling l before lfn n = (s.closeAtCeiling l before lfn n).setLane l y := by
  unfold State.closeAtCeiling
  rw [post_setLane]
  congr 1
  unfold State.closeClip State.modifyClip
  simp only [timecode]
  show (if (s.clip n).state = .free then _ else _) = _
  split
  · rfl
  · unfold State.setClip
    split <;> rfl

theorem foldl_closeAtCeiling_setLane {y : Lane} (ns : List Nat)
    (timecode : ∀ m, (s.setLane l y).entryTimecode m before = s.entryTimecode m before) :
    ns.foldl (fun u n => u.closeAtCeiling l before lfn n) (s.setLane l y) =
      (ns.foldl (fun u n => u.closeAtCeiling l before lfn n) s).setLane l y := by
  induction ns generalizing s with
  | nil => rfl
  | cons n ns ih =>
    rw [List.foldl_cons, List.foldl_cons, closeAtCeiling_setLane n timecode]
    refine ih fun m => ?_
    have only : s.OnlyClips (s.closeAtCeiling l before lfn n) := .closeAtCeiling s l before lfn n
    have same := timecode m
    unfold State.entryTimecode at same ⊢
    rw [lane_setLane_eq] at same ⊢
    rw [only.lane]
    exact same

/-- At the ceiling, the closes and the new entry may be taken in either order. -/
theorem ceiled_appendArrival {phase j : Nat} {rest : List Nat} (ceiling : (s.lane l).h ≤ (s.lane l).held)
    (earlier : s.lockedAt l lfn ≠ [] → before < lfn) :
    (s.appendArrival l lfn phase j rest).ceiled l before lfn = (s.ceiled l before lfn).appendArrival l lfn phase j rest := by
  have refu : (s.ceiled l before lfn).refu = s.refu := ceiled_onlyClips.refu
  have notBelow := Nat.not_lt.mpr ceiling
  unfold State.appendArrival
  rw [ceiled_onlyClips.lane, refu]
  simp only [notBelow, and_false, if_false]
  generalize appended : ({ s.lane l with entries := _, freeSlots := _, accepted := _, held := _ } : Lane) = y
  have locked : (s.setLane l y).lockedAt l lfn = s.lockedAt l lfn := rfl
  unfold State.ceiled
  rw [locked]
  cases at_ : s.lockedAt l lfn with
  | nil => rfl
  | cons n ns =>
    refine foldl_closeAtCeiling_setLane _ fun m => ?_
    have less := earlier (by rw [at_]; simp)
    unfold State.entryTimecode Lane.entryAt
    rw [lane_setLane_eq]
    split
    · next here =>
      subst here appended
      have other : (lfn == before) = false := beq_eq_false_iff_ne.mpr (Nat.ne_of_gt less)
      simp [List.find?_append, other]
    · rfl

end

/-! ### The arrival (R39) -/

theorem safe_overrunArrival (s : State) (l : Fin 8) (lfn : Nat) : s.Safe (s.overrunArrival l lfn) := by
  have counted : s.Calm (s.modifyLane l fun x => { x with overruns := x.overruns + 1 }) := calm_modifyLane rfl
  unfold State.overrunArrival
  exact ((counted.trans (calm_post ..)).safe.trans (safe_closePlanned _ l lfn)).calm (calm_discardArrival ..)

theorem closeArrival_eq (s : State) (l : Fin 8) (before lfn : Nat) (ceiling : Bool) :
    s.closeArrival l before lfn ceiling = (if ceiling then s.ceiled l before lfn else s).closePlanned l lfn := rfl

/-- An arrival that takes an entry: the entry, its held decision and the closes. -/
theorem safe_recorded {s u : State} {l : Fin 8} {before lfn j : Nat} {rest : List Nat} (phase : Nat) (ready : s.Safe u)
    (free : (u.lane l).freeSlots = j :: rest) (awaits : (∀ m, (s.lane m).sound) → (u.lane l).Awaits lfn)
    (earlier : s.Sound → u.lockedAt l lfn ≠ [] → before < lfn ∧ ∀ e ∈ (u.lane l).entries, e.lfn ≤ before) :
    s.Safe ((u.appendArrival l lfn phase j rest).closeArrival l before lfn (decide ((u.lane l).h ≤ (u.lane l).held))) := by
  refine ⟨fun sound m => ?_, fun sound => ?_, fun sound => ?_⟩
  · rw [(closeArrival_onlyClips ..).lane]
    exact appendArrival_lanes phase free (awaits sound) (ready.lanes sound) m
  · rw [closeArrival_eq]
    refine (safe_closePlanned _ l lfn).clips ?_
    have appended : (u.appendArrival l lfn phase j rest).clipsSound ∧ (u.appendArrival l lfn phase j rest).usesSound :=
      clips_setLane l _ (ready.clips sound)
    split
    · exact ceiled_uses appended
    · exact appended
  · have uSound := ready.sound sound
    have awaits := awaits sound.lanes
    have earlier := earlier sound
    suffices recorded : u.Safe _ from ((recorded.trans (safe_closePlanned _ l lfn)).all uSound)
    by_cases ceiling : (u.lane l).h ≤ (u.lane l).held
    · have lane : (u.ceiled l before lfn).lane l = u.lane l := ceiled_onlyClips.lane l
      rw [decide_eq_true ceiling, if_pos rfl]
      show u.Safe ((u.appendArrival l lfn phase j rest).ceiled l before lfn)
      rw [ceiled_appendArrival ceiling fun covered => (earlier covered).1]
      refine (safe_ceiled earlier).trans (safe_appendArrival phase (lane ▸ free) (lane ▸ awaits) fun covered => ?_)
      exact absurd (ceiled_lockedAt uSound.clips fun covered => (earlier covered).1) covered
    · rw [decide_eq_false ceiling]
      exact safe_appendArrival phase free awaits fun _ => Nat.not_le.mp ceiling

theorem makeRoom_of_empty {s : State} {l : Fin 8} (empty : (s.lane l).entries = []) : s.makeRoom l = s := by
  have none : s.evictable l = none := by simp [State.evictable, empty]
  unfold State.makeRoom
  rw [none]
  split <;> rfl

/-- A locked clip that covers an arrival has an LFN assigned before it on its lane, at or above every entry (R33). -/
theorem earlier_of_lockedAt {s : State} {l : Fin 8} (sound : s.Sound)
    (covered : ((s.setLane l (s.lane l).numbered).makeRoom l).lockedAt l (s.lane l).nextLfn ≠ []) :
    (s.lane l).newestAssigned.getD 0 < (s.lane l).nextLfn ∧
      ∀ e ∈ (s.lane l).entries, e.lfn ≤ (s.lane l).newestAssigned.getD 0 := by
  have before := sound.protected
  cases newest : (s.lane l).newestAssigned with
  | some a =>
    refine ⟨before.next l a newest, fun e he => ?_⟩
    obtain ⟨b, assigned, le⟩ := before.newest l e he
    cases newest.symm.trans assigned
    exact le
  | none =>
    have empty : (s.lane l).entries = [] := by
      refine List.eq_nil_iff_forall_not_mem.mpr fun e he => ?_
      obtain ⟨b, assigned, -⟩ := before.newest l e he
      cases newest.symm.trans assigned
    rw [makeRoom_of_empty (by rw [State.lane_setLane]; exact empty)] at covered
    obtain ⟨k, listed⟩ := List.exists_mem_of_ne_nil _ covered
    obtain ⟨lane, locked, covers⟩ := (mem_lockedAt_iff (s := s.setLane l _) (by exact sound.clips.inOrder)).mp listed
    refine absurd newest (lane ▸ before.marked k ?_)
    cases state : (s.clip k).state with
    | free => exact absurd (Clip.covers_free (c := s.clip k) state _) (by rw [show (s.clip k).covers _ = true from covers]; simp)
    | absent => exact absurd state ((sound.clips.fine k).lock locked)
    | opened => exact .inl rfl
    | closed => exact .inr rfl

/-- The frame's write is handed over and the port told TAKE. -/
theorem calm_taken (s : State) (l : Fin 8) (lfn j : Nat) :
    s.Calm (((s.handWrite l lfn j).modifyLane l fun x => x.nextFrame (.taking lfn 0)).emit (.take l lfn)) := by
  have handed : s.Calm (s.handWrite l lfn j) := .same
  have going : (s.handWrite l lfn j).Calm ((s.handWrite l lfn j).modifyLane l fun x => x.nextFrame (.taking lfn 0)) := calm_modifyLane rfl
  exact (handed.trans going).trans .same

theorem safe_arrivalTaken {s : State} {l : Fin 8} (recording : (s.lane l).state = .recording)
    (room : (s.lane l).arrivals ≠ (s.lane l).p) (idle : (s.lane l).writing < 2) :
    s.Safe ((s.setLane l (s.lane l).numbered).takeArrival l ((s.lane l).newestAssigned.getD 0) (s.lane l).nextLfn
      (s.lane l).arrivals) := by
  have ready := (safe_numbered room).trans (safe_makeRoom (s.setLane l (s.lane l).numbered) l)
  obtain ⟨y, made, only⟩ := makeRoom_eq (s.setLane l (s.lane l).numbered) l
  have lane : ((s.setLane l (s.lane l).numbered).makeRoom l).lane l = y := (only.lane l).trans (State.lane_setLane ..)
  rw [State.lane_setLane] at made
  cases free : (((s.setLane l (s.lane l).numbered).makeRoom l).lane l).freeSlots with
  | nil =>
    rw [takeArrival_of_full free]
    exact (ready.trans (safe_closePlanned _ l _)).calm (calm_discardArrival ..)
  | cons j rest =>
    rw [takeArrival_of_free free, holdArrival_append _ free]
    refine State.Safe.calm (safe_recorded _ ready free (fun sound => ?_) fun sound covered => ?_) (calm_taken ..)
    · rw [lane]
      exact made.awaits ((sound l).awaits recording room idle)
    · obtain ⟨less, le⟩ := earlier_of_lockedAt sound covered
      refine ⟨less, fun e he => le e ?_⟩
      rw [lane] at he
      exact made.sublist.subset he

theorem safe_frameArrives (s : State) (l : Fin 8) : s.Safe (s.frameArrives l) := by
  by_cases recording : (s.lane l).state = .recording
  · by_cases full : (s.lane l).arrivals = (s.lane l).p
    · rw [frameArrives_over recording full]
      have counted : s.Calm (s.setLane l { s.lane l with overs := (s.lane l).overs + 1 }) := calm_setLane rfl
      exact ((counted.trans (calm_post ..)).trans (calm_discardArrival ..)).safe
    · by_cases busy : 2 ≤ (s.lane l).writing
      · rw [frameArrives_lost recording full busy]
        exact (safe_numbered full).trans (safe_overrunArrival ..)
      · rw [frameArrives_taken recording full (Nat.not_le.mp busy)]
        exact safe_arrivalTaken recording full (Nat.not_le.mp busy)
  · rw [frameArrives_of_not_recording recording]
    exact (calm_discardArrival ..).safe

end Sys2Proof.Machine
/-!
PROOFS. LANE CONFIG keeps the invariants (R17, R18).
-/

namespace Sys2Proof.Machine

open State

/-- The clips of a lane become ABSENT before or after the lane's own change. -/
theorem makeAbsent_setLane (s : State) (l : Fin 8) (y : Lane) (lfn cause n : Nat) :
    (s.setLane l y).makeAbsent l lfn cause n = (s.makeAbsent l lfn cause n).setLane l y := by
  unfold State.makeAbsent
  rw [post_setLane]
  congr 1
  unfold State.modifyClip
  show (if (s.clip n).state = .free then _ else _) = _
  split
  · rfl
  · unfold State.setClip
    split <;> rfl

theorem laneConfigured_after_setLane (s : State) (l : Fin 8) (y : Lane) :
    (s.setLane l y).laneConfigured l = (s.laneConfigured l).setLane l y := by
  unfold State.laneConfigured
  have same : (s.setLane l y).clipsOf l Clip.mayBecomeAbsent = s.clipsOf l Clip.mayBecomeAbsent := rfl
  rw [same]
  induction s.clipsOf l Clip.mayBecomeAbsent generalizing s with
  | nil => rfl
  | cons n ns ih => rw [List.foldl_cons, List.foldl_cons, makeAbsent_setLane]; exact ih _ rfl

theorem configured_sound (x : Lane) {f : LaneFields} {enable : Bool} (fields : enable = true → laneFieldsInRange f = true) :
    (x.configured f enable).sound := by
  cases enable with
  | true =>
    obtain ⟨-, -, -, -, -, -, -, ceiling⟩ := (laneFieldsInRange_iff f).mp (fields rfl)
    refine ⟨List.Pairwise.nil, fun e he => (by cases he), .refl _, List.pairwise_lt_range, Nat.zero_le _, Nat.zero_le _,
      fun recording => (by cases recording), fun off => (by cases off), Nat.zero_le _, ceiling⟩
  | false =>
    refine ⟨List.Pairwise.nil, fun e he => (by cases he), .refl _, List.Pairwise.nil, Nat.zero_le _, Nat.zero_le _,
      fun recording => (by cases recording), fun _ => rfl, Nat.zero_le _, Nat.zero_le _⟩

/-- No entry of a lane that is not in use is claimed (R17). -/
theorem claims_of_notInUse {s : State} (uses : s.usesSound) {l : Fin 8} (notInUse : ¬s.laneInUse l = true) (n : Nat) :
    s.claims l n = 0 := by
  rw [laneInUse_iff, not_or, not_exists] at notInUse
  obtain ⟨channels, exporter⟩ := notInUse
  have fetched : (allChannels.filter fun c => (s.channel c).fetch.any fun r => r.lane == l && r.lfn == n) = [] := by
    refine List.filter_eq_nil_iff.mpr fun c _ any => ?_
    obtain ⟨r, fetch, same⟩ := (Option.any_eq_true _ _).mp any
    simp only [Bool.and_eq_true, beq_iff_eq] at same
    exact channels c (.inr (.inr ⟨r, fetch, same.1⟩))
  have read : ¬(s.exporter.lane = l ∧ (s.exporter.frame.any fun f => f.lfn == n) = true) := by
    rintro ⟨here, frame⟩
    obtain ⟨f, inProgress, -⟩ := (Option.any_eq_true _ _).mp frame
    exact exporter ⟨uses.frames (by rw [inProgress]; simp), here⟩
  rw [State.claims, fetched, if_neg read]
  rfl

theorem safe_configured {s : State} {l : Fin 8} {y : Lane} (notInUse : ¬s.laneInUse l = true) (unlocked : ¬s.laneLocked l = true)
    (sound : y.sound) (empty : y.entries = []) (held : y.held = 0) (newest : y.newestAssigned = none) :
    s.Safe ((s.setLane l y).laneConfigured l) := by
  rw [laneConfigured_after_setLane]
  have absent := safe_laneConfigured s l
  refine ⟨fun before => lanes_setLane (fun _ => sound) (absent.lanes before), fun before => clips_setLane l y (absent.clips before),
    fun before => ?_⟩
  have after := absent.sound before
  have only : s.OnlyClips (s.laneConfigured l) := .foldl (fun t n => .makeAbsent t l 0 1 n) _ _
  suffices guards : (s.laneConfigured l).Guards l y from ⟨protectionSound_setLane after guards, claimsSound_setLane after guards⟩
  refine ⟨by rw [empty, held]; rfl, fun e he => ?_, fun a some => ?_, fun n here opened => ?_, fun e he => ?_,
    fun e he _ claimed => ?_⟩
  · rw [empty] at he; cases he
  · rw [newest] at some; cases some
  · exfalso
    rw [State.laneConfigured, clip_foldl_makeAbsent before.clips.inOrder l rfl] at here opened
    by_cases goes : (s.clip n).lane = l ∧ (s.clip n).mayBecomeAbsent = true
    · have may := (Clip.mayBecomeAbsent_iff _).mp goes.2
      have used : (s.clip n).state ≠ .free := by rcases may.2 with state | state <;> simp [state]
      rw [if_pos goes, if_neg used] at opened
      rcases opened with state | state <;> cases state
    · rw [if_neg goes] at here opened
      refine goes ⟨here, (Clip.mayBecomeAbsent_iff _).mpr ⟨?_, opened⟩⟩
      by_contra locked
      have used : (s.clip n).state ≠ .free := by rcases opened with state | state <;> simp [state]
      refine unlocked ((laneLocked_iff s l).mpr ⟨_, clip_mem_of_state used, here, ?_⟩)
      exact (Clip.locked_iff _).mp (Bool.not_eq_false _ ▸ locked)
  · rw [empty] at he; cases he
  · rw [only.lane] at he
    have claims := claims_of_notInUse before.uses notInUse e.lfn
    rw [before.claims.counts l e he, claims] at claimed
    cases claimed

theorem safe_laneConfigRequest (s : State) (f : LaneFields) : s.Safe (s.laneConfigRequest f).state := by
  unfold State.laneConfigRequest
  split
  · next l enable _ _ =>
    simp only []
    split
    · exact .refl s
    · next fields =>
      split
      · exact .refl s
      · split
        · exact .refl s
        · next notInUse =>
          split
          · exact .refl s
          · next unlocked =>
            split
            · exact .refl s
            · split
              · exact .refl s
              · refine safe_configured notInUse unlocked (configured_sound (s.lane l) fun on => ?_) rfl rfl rfl
                simpa [on] using fields
  · exact .refl s
  · exact .refl s
  · exact .refl s

end Sys2Proof.Machine
/-!
PROOFS. A channel at its tick and at the commands that leave its source alone keeps the invariants (spec/06).
-/

namespace Sys2Proof.Machine

open State

theorem Source.withoutDelay_clipNumber (src : Source) : src.withoutDelay.clipNumber = src.clipNumber := by cases src <;> rfl

/-! ### Presentation and advance (R118, R119) -/

theorem calm_keepPicture (s : State) (c : Fin 4) : s.Calm (s.keepPicture c) := by
  unfold State.keepPicture
  split
  · exact .same
  · exact .same

theorem calm_presentNext (s : State) (c : Fin 4) (f : FrameRef) : s.Calm (s.presentNext c f) := by
  have picture : s.Calm (s.setOutPort c { staging := none, picture := .body ((s.outPort c).staging.getD []) }) := .same
  have presented (t : State) (x : Channel) : (t.setChannel c x).Calm ((t.setChannel c x).emit (.present c)) := .same
  unfold State.presentNext
  simp only []
  refine Calm.trans ?_ (calm_reportFrame ..)
  refine Calm.trans (picture.trans ?_) (presented ..)
  exact calm_setChannel (by rfl)

theorem calm_presentation (s : State) (c : Fin 4) : s.Calm (s.presentation c) := by
  unfold State.presentation
  simp only []
  split
  · have black : s.Calm (s.setOutPort c { s.outPort c with picture := .black }) := .same
    have told (t : State) : t.Calm (t.emit (.black c)) := .same
    exact (black.trans (calm_setChannel (by rfl))).trans (told _)
  · split
    · exact calm_presentNext ..
    · split
      · exact (calm_keepPicture s c).trans (calm_setFlag ..)
      · exact calm_keepPicture s c

theorem advanced_uses (s : State) (x : Channel) : (s.advanced x).1.uses = x.uses := by
  unfold State.advanced
  split
  · rfl
  · rfl
  · rfl
  · split
    · split <;> rfl
    all_goals rfl
  all_goals rfl

theorem advance_uses (s : State) (x : Channel) : (s.advance x).1.uses = x.uses := by
  unfold State.advance
  split
  · rfl
  · exact advanced_uses s x

/-! ### The boundary step (R120, R142) -/

theorem afterClamp_uses (x : Channel) : x.afterClamp.uses = x.uses := by
  unfold Channel.afterClamp
  split <;> rfl

theorem calm_holdStep (s : State) (c : Fin 4) (raw : Int) : s.Calm (s.holdStep c raw) := by
  unfold State.holdStep
  simp only []
  split
  · refine Calm.trans (Calm.trans (calm_setChannel ?_) (calm_setFlag ..)) (calm_setChannel (afterClamp_uses _))
    rfl
  · exact calm_setChannel (by rfl)

theorem calm_startStep (s : State) (c : Fin 4) (raw : Int) : s.Calm (s.startStep c raw) := by
  have taken : s.Calm (s.setChannel c { s.channel c with request := none }) := calm_setChannel (by rfl)
  unfold State.startStep
  simp only []
  split
  · exact taken.trans (calm_holdStep ..)
  · exact taken.trans (calm_holdStep ..)

theorem safe_crossingStep (s : State) (c : Fin 4) (r : Running) (raw : Int) : s.Safe (s.crossingStep c r raw) := by
  unfold State.crossingStep
  simp only []
  split
  · exact safe_endAction ..
  · exact (calm_holdStep ..).safe

theorem safe_runningStep (s : State) (c : Fin 4) (r : Running) (raw : Int) : s.Safe (s.runningStep c r raw) := by
  unfold State.runningStep
  simp only []
  split
  · exact safe_crossingStep ..
  · exact (calm_startStep ..).safe
  · split
    · exact safe_takeRequest ..
    · exact safe_crossingStep ..

theorem safe_boundaryStep (s : State) (c : Fin 4) (raw : Int) : s.Safe (s.boundaryStep c raw) := by
  unfold State.boundaryStep
  split
  · exact safe_runningStep ..
  · exact (calm_holdStep ..).safe

/-! ### Selection (R121, R122) -/

theorem choose_spec {x : Lane} {lo n hi : Nat} {e : Entry} (h : x.choose lo n hi = some e) : e ∈ x.entries ∧ e.status = .good := by
  have good {p : Entry → Bool} (there : e ∈ x.entries.filter fun e => e.isGood && p e) : e ∈ x.entries ∧ e.status = .good := by
    obtain ⟨listed, fits⟩ := List.mem_filter.mp there
    simp only [Bool.and_eq_true, Entry.isGood, beq_iff_eq] at fits
    exact ⟨listed, fits.1⟩
  unfold Lane.choose at h
  simp only [Bool.and_assoc] at h
  split at h
  · next last =>
    cases h
    exact good (List.mem_of_getLast? last)
  · exact good (List.mem_of_head? h)

theorem safe_selection (s : State) (c : Fin 4) : s.Safe (s.selection c) := by
  unfold State.selection
  simp only []
  split
  · exact .refl s
  · next l _ =>
    split
    · exact .refl s
    · next idle =>
      split
      · exact (calm_setFlag ..).safe
      · next e chosen =>
        obtain ⟨there, good⟩ := choose_spec chosen
        have flagged : s.Calm (if e.lfn ≠ roundLfn (s.channel c).round (s.channel c).position then s.setFlag c .repeated else s) := by
          split
          · exact calm_setFlag ..
          · exact .refl s
        generalize (if e.lfn ≠ roundLfn (s.channel c).round (s.channel c).position then s.setFlag c .repeated else s) = t at flagged ⊢
        split
        · exact flagged.safe
        · refine flagged.safe.trans (safe_requestFetch ?_ ⟨e, ?_, rfl, rfl, good⟩)
          · have same : (t.channel c).fetch = (s.channel c).fetch := congrArg (·.2.2) (flagged.channels c)
            rw [same]
            exact Option.not_isSome_iff_eq_none.mp idle
          · rw [flagged.entries]
            exact there

theorem safe_channelTick (s : State) (c : Fin 4) : s.Safe (s.channelTick c) := by
  have shown := calm_presentation s c
  unfold State.channelTick
  simp only []
  split
  · exact shown.safe
  · refine State.Safe.trans (State.Safe.trans (shown.safe.calm (calm_setChannel ?_)) (safe_boundaryStep ..)) (safe_selection ..)
    exact advance_uses ..

/-! ### Commands that leave the source alone (R104, R105, R111 to R117, R128) -/

theorem calm_noteQuant (s : State) (c : Fin 4) (inexact : Bool) : s.Calm (s.noteQuant c inexact) := by
  unfold State.noteQuant
  split
  · exact calm_setFlag ..
  · exact .refl s

theorem calm_playChannel (s : State) (c : Fin 4) (speed : Int) (ramp : Nat) (round : RoundMode) :
    s.Calm (s.playChannel c speed ramp round) := by
  refine calm_setChannel ?_
  simp only [Channel.uses, Source.withoutDelay_clipNumber]

theorem calm_playAt (s : State) (c : Fin 4) (f : SpeedField) (ramp : Nat) (round : RoundMode) : s.Calm (s.playAt c f ramp round) :=
  (calm_noteQuant ..).trans (calm_playChannel ..)

theorem calm_playRequest (s : State) (c : Fin 4) (f : SpeedField) (ramp : Nat) (round : RoundMode) :
    s.Calm (s.playRequest c f ramp round).state := by
  unfold State.playRequest
  simp only []
  split
  · exact .refl s
  · split
    · exact .refl s
    · exact calm_playAt ..

theorem calm_pauseRequest (s : State) (c : Fin 4) : s.Calm (s.pauseRequest c).state := by
  unfold State.pauseRequest
  simp only []
  split
  · refine calm_setChannel ?_
    simp only [Channel.uses, Source.withoutDelay_clipNumber]
  · exact .refl s

theorem calm_speedRequest (s : State) (c : Fin 4) (f : SpeedField) (ramp : Nat) : s.Calm (s.speedRequest c f ramp).state := by
  unfold State.speedRequest
  simp only []
  split
  · exact (calm_noteQuant ..).trans (calm_setChannel (by rfl))
  · exact .refl s

theorem calm_stepRequest (s : State) (c : Fin 4) (count : Int) : s.Calm (s.stepRequest c count).state := by
  unfold State.stepRequest
  simp only []
  split
  · simp only [State.positionReply, State.accept]
    split
    · exact Calm.trans (calm_setChannel (by rfl)) (calm_setFlag ..)
    · exact calm_setChannel (by rfl)
  · exact .refl s

theorem calm_continueRequest (s : State) (c : Fin 4) : s.Calm (s.continueRequest c).state := by
  unfold State.continueRequest
  simp only []
  split
  · exact .refl s
  · split
    · exact calm_setChannel (by rfl)
    · split
      · exact .refl s
      · exact calm_playChannel ..

theorem calm_syncFold (st : Fin 16) (f : SpeedField) (ramp : Nat) (round : RoundMode) (cs : List (Fin 4)) (a : State × List Nat) :
    a.1.Calm (cs.foldl (syncOne st f ramp round) a).1 := by
  induction cs generalizing a with
  | nil => exact .refl _
  | cons c cs ih =>
    refine Calm.trans ?_ (ih (syncOne st f ramp round a c))
    unfold syncOne
    split
    · exact calm_post ..
    · exact calm_playAt ..

theorem calm_syncRequest (s : State) (h : Header) (mask : BitVec 8) (p : PlayFields) : s.Calm (s.syncRequest h mask p).state := by
  unfold State.syncRequest
  split
  · exact calm_syncFold _ _ _ _ _ (s, [])
  · split
    · exact calm_foldl (fun t c => calm_post t ..) _ s
    · exact .refl s

theorem calm_takeChannel (s : State) (c : Fin 4) (st : Fin 16) (level : Nat) : s.Calm (s.takeChannel c st level).state := by
  unfold State.takeChannel
  simp only []
  split
  · exact calm_setChannel (by rfl)
  · split
    · exact calm_setChannel (by rfl)
    · split
      · exact Calm.trans (calm_setChannel (by rfl)) (calm_post ..)
      · exact .refl s

theorem safe_owned {s : State} (h : Header) (channel : Nat) {run : Fin 4 → Answer} (safe : ∀ c, s.Safe (run c).state) :
    s.Safe (s.owned h channel run).state := by
  unfold State.owned
  split
  · exact .refl s
  · split
    · exact safe _
    · exact .refl s

/-! ### Levers and jogs at their channel (R125, R126) -/

theorem takeLever_uses (x : Channel) (m : LeverMotion) : (x.takeLever m).uses = x.uses := by
  unfold Channel.takeLever
  split
  · rfl
  · rfl
  all_goals
    split
    · simp only [Channel.uses, Source.withoutDelay_clipNumber]
    · rfl

theorem calm_deliverJog (s : State) (j : Fin 4) : s.Calm (s.deliverJog j) := by
  unfold State.deliverJog
  simp only []
  split
  · exact .refl s
  · next m rest _ =>
    have taken : s.Calm (s.setJog j { s.jog j with motions := rest }) := .same
    exact taken.trans (calm_setChannel (takeJog_uses ..))

theorem calm_deliverLever (s : State) (v : Fin 4) : s.Calm (s.deliverLever v) := by
  unfold State.deliverLever
  simp only []
  split
  · exact .refl s
  · next m rest _ =>
    have taken : s.Calm (s.setLever v { s.lever v with motions := rest }) := .same
    exact taken.trans (calm_setChannel (takeLever_uses ..))

end Sys2Proof.Machine
/-!
PROOFS. The resets, the ticks and the mark lines' inputs keep the invariants (R2, R15, R73, R202).
-/

namespace Sys2Proof.Machine

open State

/-! ### A state without clips, claims and entries -/

/-- The state has no clip, no entry, no source and no claim, as after a reset. -/
structure State.Blank (t : State) : Prop where
  clips    : t.clips = []
  lanes    : ∀ l, (t.lane l).core = Lane.powerOn.core
  working  : ∀ m, (t.mark m).workingClip = 0
  channels : ∀ c, t.channel c = Channel.reset
  exporter : t.exporter = Exporter.reset
  queued   : ∀ c, t.fetchOf c = none

namespace State.Blank

variable {t : State} (blank : t.Blank)
include blank

theorem clip (n : Nat) : t.clip n = Clip.free := by rw [State.clip, blank.clips]; rfl

theorem ofCore {α : Type} (f : Lane → α) (reads : ∀ x : Lane, f x.core = f x) (l : Fin 8) : f (t.lane l) = f Lane.powerOn := by
  rw [← reads, blank.lanes, reads]

theorem entries (l : Fin 8) : (t.lane l).entries = [] := blank.ofCore Lane.entries (fun _ => rfl) l
theorem newestAssigned (l : Fin 8) : (t.lane l).newestAssigned = none := blank.ofCore Lane.newestAssigned (fun _ => rfl) l

theorem laneSound (l : Fin 8) : (t.lane l).sound :=
  (Lane.sound_core _).mp (blank.lanes l ▸ (Lane.sound_core _).mpr powerOn_sound)

theorem clipsSound (lines : ∀ m, (t.mark m).el ≤ (t.mark m).vl ∧ (t.mark m).vl ≤ 3) : t.clipsSound := by
  refine (clipsSound_iff t).mpr ⟨⟨by rw [blank.clips]; exact .nil, fun e listed => ?_⟩, fun n => ?_, lines⟩
  · rw [blank.clips] at listed
    cases listed
  · rw [blank.clip]
    exact Clip.fine_free

theorem usesSound : t.usesSound := by
  refine ⟨fun n => ?_, fun m => .inl (blank.working m), fun m k _ => (blank.working m).trans (blank.working k).symm, fun some => ?_⟩
  · simp only [State.roles, blank.channels, blank.clip, blank.exporter]
    rfl
  · rw [blank.exporter] at some
    exact absurd rfl some

theorem protectionSound : t.protectionSound := by
  refine ⟨fun l => ?_, fun l e listed => ?_, fun l a newest => ?_, fun e listed => ?_, fun e listed => ?_, fun running => ?_⟩
  · rw [blank.ofCore Lane.held (fun _ => rfl), State.heldEntries, blank.entries]
    rfl
  · rw [blank.entries] at listed
    cases listed
  · rw [blank.newestAssigned] at newest
    cases newest
  · rw [blank.clips] at listed
    cases listed
  · rw [blank.clips] at listed
    cases listed
  · rw [blank.exporter] at running
    cases running

theorem claimsSound : t.claimsSound := by
  refine ⟨fun l e listed => ?_, fun c r fetch => ?_, fun f frame => ?_, fun c => ?_⟩
  · rw [blank.entries] at listed
    cases listed
  · rw [blank.channels] at fetch
    cases fetch
  · rw [blank.exporter] at frame
    cases frame
  · rw [blank.queued, blank.channels]
    rfl

theorem safe {s : State} (lines : s.clipsSound → ∀ m, (t.mark m).el ≤ (t.mark m).vl ∧ (t.mark m).vl ≤ 3) : s.Safe t :=
  ⟨fun _ => blank.laneSound, fun sound => ⟨blank.clipsSound (lines sound.1), blank.usesSound⟩,
    fun _ => ⟨blank.protectionSound, blank.claimsSound⟩⟩

end State.Blank

/-! ### The resets (R15, R202) -/

theorem safe_powerOnReset (s : State) : s.Safe { State.powerOn with
    xrdy := s.xrdy, emitted := s.emitted, fresh := s.fresh, pending := s.pending, storeEpoch := s.storeEpoch + 1 } := by
  refine State.Blank.safe ⟨rfl, fun l => ?_, fun m => ?_, fun c => ?_, rfl, fun c => ?_⟩ fun _ m => ?_
  · exact congrArg Lane.core (powerOn_lane _ rfl l)
  · exact congrArg MarkLine.workingClip (mark_reset m)
  · exact channel_reset c
  · simp [State.fetchOf, State.powerOn, Xfer.reset]
  · have levels : MarkLine.powerOn.el ≤ MarkLine.powerOn.vl ∧ MarkLine.powerOn.vl ≤ 3 := by decide
    rw [← mark_reset m] at levels
    exact levels

theorem safe_unitReset (s : State) : s.Safe s.unitReset := by
  have mark (m : Fin 8) : s.unitReset.mark m = (s.mark m).unitReset := by simp [State.unitReset, State.mark]
  have lane (l : Fin 8) : s.unitReset.lane l = (s.lane l).unitReset := by simp [State.unitReset, State.lane]
  refine State.Blank.safe ⟨rfl, fun l => ?_, fun m => ?_, fun c => ?_, rfl, fun c => ?_⟩ fun sound m => ?_
  · rw [lane]
    rfl
  · rw [mark]
    rfl
  · simp [State.unitReset, State.channel]
  · simp [State.unitReset, State.fetchOf, Xfer.unitReset, Xfer.reset]
  · rw [mark]
    exact sound.lines m

theorem calm_released (s : State) (x : Straps) : s.Calm (s.released x) := by
  refine ⟨rfl, fun _ => rfl, fun m => ?_, fun _ => rfl, rfl, fun _ => rfl⟩
  simp [State.released, State.mark, MarkLine.group]

/-! ### The mark lines' inputs (R73) -/

theorem safe_lineAction (s : State) (m : Fin 8) : s.Safe (s.lineAction m) := by
  unfold State.lineAction
  simp only []
  split
  · exact .refl s
  · exact safe_markAction (safe_markInAction s m)
  · exact safe_markAction (safe_markOutAction s m)
  · exact safe_markAction (safe_markSnapAction s m)
  · exact safe_channelAction fun c => (calm_continueRequest s c).safe
  · exact safe_channelAction fun c => safe_snapLaneRequest s c ..
  · exact safe_channelAction fun c => safe_resumeRequest s c _

theorem safe_lineInput (s : State) (m : Fin 8) (level : Bool) : s.Safe (s.lineInput m level) := by
  unfold State.lineInput
  simp only []
  split
  · exact .refl s
  · have taken : s.Calm (s.setMark m { s.mark m with level }) := calm_setMark rfl
    split
    · have held : (s.setMark m { s.mark m with level }).Calm
          ((s.setMark m { s.mark m with level }).setMark m { s.mark m with level, counter := (s.mark m).holdOff }) :=
        calm_setMark (by rw [State.mark_setMark]; rfl)
      exact (taken.trans held).safe.trans (safe_lineAction ..)
    · exact taken.safe

/-! ### The Output Tick (R2) -/

theorem calm_setCue (s : State) (k : Fin 8) (q : CueLine) : s.Calm (s.setCue k q) := .same

theorem calm_nextConversion (s : State) : s.Calm s.nextConversion := by
  unfold State.nextConversion
  split
  · exact .same
  · exact .same

theorem calm_leverTick (s : State) : s.Calm s.leverTick := by
  have skipped : s.Calm s.skipLevers := calm_foldl (fun _ _ => .same) _ s
  unfold State.leverTick
  exact (skipped.trans .same).trans (calm_nextConversion _)

theorem safe_tickAction (s : State) (a : TickAction) : s.Safe (s.tickAction a) := by
  cases a with
  | lane l => exact safe_laneTick s l
  | markLine m => exact safe_lineTick s m
  | jog j => exact State.Calm.safe .same
  | jogMotion j => exact (calm_deliverJog s j).safe
  | levers => exact (calm_leverTick s).safe
  | channel c => exact safe_channelTick s c
  | exporter => exact safe_exporterTick s
  | cueLine k => exact (calm_setCue ..).safe

theorem safe_blocksTick (s : State) (order : List TickAction) : s.Safe (s.blocksTick order) :=
  State.Safe.foldl (p := fun _ => True) (fun t a _ _ => ⟨safe_tickAction t a, trivial⟩) trivial

theorem calm_setRefu (s : State) (r : Refu) : s.Calm (s.setRefu r) := .same

theorem safe_referencePulse (s : State) (order : List TickAction) : s.Safe (s.referencePulse order) := by
  unfold State.referencePulse
  split
  · exact ((calm_setRefu ..).trans (calm_post ..)).safe
  · refine State.Safe.trans (State.Calm.safe ?_) (safe_blocksTick ..)
    unfold State.onTimePulse
    simp only []
    split
    · exact calm_setRefu ..
    · exact (calm_setRefu ..).trans (calm_post ..)
    · exact (calm_setRefu ..).trans (calm_post ..)

theorem safe_windowTimer (s : State) (order : List TickAction) : s.Safe (s.windowTimer order) := by
  unfold State.windowTimer
  split
  · refine State.Safe.trans (State.Calm.safe ?_) (safe_blocksTick ..)
    unfold State.timerExpires
    simp only []
    split
    · exact (calm_setRefu ..).trans (calm_post ..)
    · split
      · exact calm_setRefu ..
      · exact (calm_setRefu ..).trans (calm_post ..)
    · exact calm_setRefu ..
  · exact .refl s

end Sys2Proof.Machine
/-!
PROOFS. Every host command's request keeps the invariants.
-/

namespace Sys2Proof.Machine

open State

/-! ### Requests to the blocks without frames and clips -/

theorem calm_setLink (s : State) (k : Link) : s.Calm (s.setLink k) := .same

theorem calm_bankWriteRequest (s : State) (bank first count : Nat) (records : List SegmentFields) :
    s.Calm (s.bankWriteRequest bank first count records).state := by
  unfold State.bankWriteRequest
  split
  · split
    · exact .refl s
    · split
      · exact .refl s
      · exact calm_foldl (fun _ _ => .same) _ s
  · exact .refl s
  · exact .refl s
  · exact .refl s

theorem calm_stationSetRequest (s : State) (station ceiling : Nat) : s.Calm (s.stationSetRequest station ceiling).state := by
  unfold State.stationSetRequest
  split
  · exact .refl s
  · simp only []
    split
    · exact calm_setLink ..
    · exact .refl s

theorem calm_jogConfigRequest (s : State) (f : JogFields) : s.Calm (s.jogConfigRequest f).state := by
  unfold State.jogConfigRequest
  split
  · exact .refl s
  · split
    · exact .refl s
    · exact .same

theorem calm_leverConfigRequest (s : State) (f : LeverFields) : s.Calm (s.leverConfigRequest f).state := by
  unfold State.leverConfigRequest
  split
  · exact .refl s
  · split
    · exact .refl s
    · exact .same

theorem calm_cueConfigRequest (s : State) (f : CueFields) : s.Calm (s.cueConfigRequest f).state := by
  unfold State.cueConfigRequest
  split
  · exact .refl s
  · split
    · exact .refl s
    · exact calm_setCue ..

theorem calm_cueFireRequest (s : State) (k : Fin 8) : s.Calm (s.cueFireRequest k).state := by
  unfold State.cueFireRequest
  split
  · exact .refl s
  · exact .refl s
  · exact calm_fireCue ..
  · exact calm_fireCue ..

/-! ### Requests to the clips -/

theorem safe_clipSpan (s : State) (h : Header) (f : SpanFields) (level : Nat) : s.Safe (requestOf (.clipSpan h f) level s).state := by
  simp only [requestOf]
  split
  · exact .refl s
  · split
    · exact .refl s
    · next inRange =>
      split
      · next free =>
        exact safe_createBySpan (free.imp_right fun state => ⟨state, Nat.not_lt.mp fun above => inRange (.inl above)⟩) ..
      · next listed => exact safe_spanExisting (fun state => listed (.inr state)) ..

theorem safe_clipRights (s : State) (h : Header) (n vl el level : Nat) : s.Safe (requestOf (.clipRights h n vl el) level s).state := by
  simp only [requestOf]
  split
  · exact .refl s
  · refine safe_withEdit fun used => ?_
    split
    · next allowed =>
      obtain ⟨-, le, top⟩ := (levelsAllowed_iff level vl el).mp allowed
      exact safe_setRights used ⟨le, top⟩
    · exact .refl s

theorem safe_clipLabel (s : State) (h : Header) (n length : Nat) (text : List Byte) (level : Nat) :
    s.Safe (requestOf (.clipLabel h n length text) level s).state := by
  simp only [requestOf]
  split
  · next valid =>
    refine safe_withEdit fun used => safe_setLabel used ?_
    simp only [labelValid, Bool.and_eq_true, decide_eq_true_iff, beq_iff_eq] at valid
    obtain ⟨⟨length, short⟩, -⟩ := valid
    omega
  · exact .refl s

theorem withClip_same {s : State} (n : Nat) {run : Clip → Answer} (same : ∀ c, (run c).state = s) : (s.withClip n run).state = s := by
  unfold State.withClip
  repeat' split
  · rfl
  · rfl
  · exact same _

/-! ### Every request -/

theorem requestOf_safe (i : Instr) (level : Nat) (s : State) : s.Safe (requestOf i level s).state := by
  have refl := State.Safe.refl s
  cases i
  case poll h => exact (calm_setLink ..).safe
  case unitReset h => exact safe_unitReset s
  case stationSet h a b => exact (calm_stationSetRequest ..).safe
  case noticeLevels h l =>
    simp only [requestOf]
    split
    · exact refl
    · exact (calm_setLink ..).safe
  case refConfig h n w f =>
    simp only [requestOf]
    split
    · exact (calm_setRefu ..).safe
    · exact refl
  case timeSet h a b c d =>
    simp only [requestOf]
    split
    · exact (calm_setRefu ..).safe
    · exact refl
  case laneConfig h f => exact safe_laneConfigRequest s f
  case recStart h m => exact safe_recStart (maskLanes m) (s, [])
  case recStop h m => exact safe_recStop (maskLanes m) (s, [])
  case clipMark h f => exact safe_clipMarkRequest s f level
  case clipSpan h f => exact safe_clipSpan s h f level
  case clipLock h n => exact safe_withEdit fun used => safe_lockRequest used
  case clipUnlock h n => exact safe_withEdit fun used => safe_unlockRequest used
  case clipDelete h n => exact safe_withEdit fun used => safe_deleteRequest used
  case clipRights h n vl el => exact safe_clipRights s h n vl el level
  case clipLabel h n k text => exact safe_clipLabel s h n k text level
  case clipRead h n =>
    have same : (requestOf (.clipRead h n) level s).state = s := withClip_same n fun c => by split <;> rfl
    rw [same]
    exact refl
  case lineConfig h f => exact safe_lineConfigRequest s f
  case jogConfig h f => exact (calm_jogConfigRequest s f).safe
  case jogStatus h j =>
    simp only [requestOf]
    split
    · exact refl
    · exact State.Calm.safe .same
  case leverConfig h f => exact (calm_leverConfigRequest s f).safe
  case curveLoad h v points =>
    simp only [requestOf]
    split
    · exact refl
    · split
      · exact State.Calm.safe .same
      · exact refl
  case channelTake h c =>
    simp only [requestOf]
    split
    · exact refl
    · exact (calm_takeChannel ..).safe
  case channelRelease h c => exact safe_owned h c fun c => (calm_setChannel (by rfl)).safe
  case cueClip h c n o =>
    simp only [requestOf]
    split
    · exact safe_owned h c fun c => safe_cueClipRequest ..
    · exact refl
  case cueLane h c l f n =>
    simp only [requestOf]
    split
    · split
      · exact safe_owned h c fun c => safe_cueLaneRequest ..
      · exact refl
    all_goals exact refl
  case live h c l d =>
    simp only [requestOf]
    split
    · exact refl
    · split
      · exact safe_owned h c fun c => safe_liveRequest ..
      · exact refl
  case play h c f =>
    simp only [requestOf]
    split
    · exact refl
    · exact safe_owned h c fun c => (calm_playRequest ..).safe
  case pause h c => exact safe_owned h c fun c => (calm_pauseRequest s c).safe
  case speed h c k v r =>
    simp only [requestOf]
    split
    · exact safe_owned h c fun c => (calm_speedRequest ..).safe
    all_goals exact refl
  case stepFrames h c n =>
    simp only [requestOf]
    split
    · exact safe_owned h c fun c => (calm_stepRequest ..).safe
    · exact refl
  case continuePlay h c => exact safe_owned h c fun c => (calm_continueRequest s c).safe
  case snap h f =>
    simp only [requestOf]
    split
    · split
      · exact refl
      · split
        · exact safe_owned h _ fun c => safe_snapLaneRequest ..
        · exact refl
    · split
      · exact safe_owned h _ fun c => safe_snapClipRequest ..
      · exact refl
    · exact refl
  case resume h c => exact safe_owned h c fun c => safe_resumeRequest s c _
  case saveDiscard h c => exact safe_owned h c fun c => safe_discardSave s c
  case syncPlay h m f => exact (calm_syncRequest s h m f).safe
  case flagsClear h c m => exact safe_owned h c fun c => (calm_setChannel (by rfl)).safe
  case flagEnables h c m => exact safe_owned h c fun c => (calm_setChannel (by rfl)).safe
  case bankWrite h b e n r => exact (calm_bankWriteRequest ..).safe
  case runOrder h c b e =>
    simp only [requestOf]
    split
    · split
      · exact safe_owned h c fun c => safe_runRequest ..
      · exact refl
    · exact refl
  case segue h c k n =>
    simp only [requestOf]
    split
    · exact safe_owned h c fun c => safe_segueRequest ..
    · exact refl
  case exportStart h n a b t =>
    simp only [requestOf]
    split
    · exact safe_exportStartRequest ..
    · exact refl
  case exportAbort h =>
    simp only [requestOf]
    split
    · exact refl
    · exact (calm_setExporter (by rfl)).safe
  case exportConfig h n =>
    simp only [requestOf]
    split
    · exact (calm_setExporter (by rfl)).safe
    · exact refl
  case cueLineConfig h f => exact (calm_cueConfigRequest s f).safe
  case cueLineFire h k =>
    simp only [requestOf]
    split
    · exact refl
    · exact (calm_cueFireRequest ..).safe
  case indexRead | laneStatus | clipNext | rightsProbe | leverStatus | channelStatus | bankRead | cueLineStatus =>
    simp only [requestOf]
    repeat' split
    all_goals exact refl
  all_goals exact refl

end Sys2Proof.Machine
/-!
PROOFS. Every event keeps the invariants of lanes, clips and frames; with that every step does.
-/

namespace Sys2Proof.Machine

open State

/-! ### Commands and frames of the link -/

theorem safe_takeCommand (s : State) (k : Kind) (h : Header) {run : Nat → State → Answer} (safe : ∀ n, s.Safe (run n s).state) :
    s.Safe (s.takeCommand k h run) := by
  unfold State.takeCommand
  split
  · exact .refl s
  · split
    · split
      · exact safe _
      · exact .refl s
    · split
      · exact (calm_setLink ..).safe
      · split
        · exact (calm_queueReply ..).safe
        · exact (safe _).calm (calm_queueReply ..)

theorem safe_command (s : State) (k : Kind) (h : Header) (i : Instr) : s.Safe (s.takeCommand k h (requestOf i)) :=
  safe_takeCommand s k h fun n => requestOf_safe i n s

theorem safe_runCommand (s : State) (i : Instr) : s.Safe (runCommand i s) := by
  cases c : commandOf i with
  | none => rw [runCommand_of_event c]; exact .refl s
  | some command => rw [runCommand_of_command c]; exact safe_command s _ _ i

theorem safe_takeFrame (s : State) (f : LinkFrame) : s.Safe (s.takeFrame f) := by
  unfold State.takeFrame
  split
  · exact safe_runCommand s _
  all_goals exact (calm_turnAway s f).safe

theorem safe_frameComplete (s : State) (chars : List Byte) (lengthFault : Bool) : s.Safe (s.frameComplete chars lengthFault) :=
  (calm_setLink s { s.link with receiver := .hunt }).safe.trans (safe_takeFrame ..)

theorem safe_receive (s : State) (marked : Bool) (data : Byte) : s.Safe (s.receive marked data) := by
  unfold State.receive
  split
  · split
    · exact (calm_setLink ..).safe
    · exact (calm_setLink ..).safe
  · split
    · exact .refl s
    · exact .refl s
    · simp only [State.extendFrame]
      split
      · exact safe_frameComplete ..
      · split
        · exact safe_frameComplete ..
        · exact (calm_setLink ..).safe

/-! ### Every event -/

theorem safe_whenRunning {s : State} {f : State → State} (h : s.Safe (f s)) : s.Safe (s.whenRunning f) := by
  unfold State.whenRunning
  split
  · exact .refl s
  · exact h

theorem calm_leverResult (s : State) (value : Nat) : s.Calm (s.leverResult value) := by
  unfold State.leverResult
  split
  · exact .refl s
  · next v _ =>
    split
    · have converted : s.Calm (s.setLever v ((s.lever v).converted value)) := .same
      exact converted.trans (calm_nextConversion _)
    · exact .refl s

theorem calm_elapse (s : State) (elapsed : Nat) : s.Calm (s.elapse elapsed) := calm_setRefu ..

theorem safe_blockCompletion {s t : State} {good : Bool} (h : exec (.blockCompletion good) s = .next t) : s.Safe t := by
  simp only [exec, execBlockCompletion] at h
  split at h
  · cases h; exact .refl s
  · next v _ =>
    split at h
    · cases h; exact .refl s
    · split at h
      · cases h
      · cases h
        exact ((safe_finishBlock s v good).calm .same).calm (calm_grant _)

/-- Every event keeps the invariants of lanes, clips and frames. -/
theorem exec_safe {i : Instr} {s t : State} (h : exec i s = .next t) : s.Safe t := by
  cases c : commandOf i with
  | some command =>
    rw [exec_of_command c] at h
    cases h
    exact safe_command s _ _ i
  | none =>
    cases i
    case blockCompletion good => exact safe_blockCompletion h
    case powerOnReset => cases h; exact safe_powerOnReset s
    case resetRelease x =>
      cases h
      split
      · exact (calm_released s x).safe
      · exact .refl s
    case referencePulse elapsed order =>
      cases h
      exact safe_whenRunning ((calm_elapse ..).safe.trans (safe_referencePulse ..))
    case windowTimerExpiry x =>
      cases h
      exact safe_whenRunning ((calm_elapse ..).safe.trans (safe_windowTimer ..))
    case holdoverLimit x =>
      cases h
      refine safe_whenRunning ?_
      split
      · exact (calm_elapse ..).safe.trans (safe_windowTimer ..)
      · exact (calm_elapse ..).safe
    case xrdyAsserted =>
      cases h
      have ready : s.Calm { s with xrdy := true } := .same
      have cleared (u : State) : u.Calm (u.setExporter { u.exporter with stall := 0 }) := calm_setExporter (by rfl)
      exact ready.safe.trans (safe_whenRunning ((cleared _).trans (calm_grant _)).safe)
    case xrdyDeasserted => cases h; exact State.Calm.safe .same
    case linkCharacter marked data => cases h; exact safe_whenRunning (safe_receive ..)
    case frameRefused f =>
      cases h
      refine safe_whenRunning ?_
      split
      · exact (calm_turnAway s f).safe
      · exact .refl s
    case replySent => cases h; exact safe_whenRunning (calm_finishReply s).safe
    case holdOffEnd m =>
      cases h
      refine safe_whenRunning ?_
      split
      · exact safe_lineTick s m
      · exact .refl s
    case pulseEnd k =>
      cases h
      refine safe_whenRunning ?_
      split
      · exact (calm_setCue ..).safe
      · exact .refl s
    case exportStall =>
      cases h
      refine safe_whenRunning ?_
      split
      · exact safe_exporterTick s
      · exact .refl s
    case jogMotion j => cases h; exact safe_whenRunning (calm_deliverJog s j).safe
    case leverResult v => cases h; exact safe_whenRunning (calm_leverResult s v).safe
    case leverMotion v => cases h; exact safe_whenRunning (calm_deliverLever s v).safe
    case signalChange l present => cases h; exact safe_whenRunning (safe_signalReport s l present)
    case frameArrival l => cases h; exact safe_whenRunning (safe_frameArrives s l)
    case ingestBlockDelivered l d => cases h; exact safe_whenRunning (calm_blockDelivered s l d).safe
    case frameEnd l x => cases h; exact safe_whenRunning (safe_frameEnds s l x)
    case markEdge m level => cases h; exact safe_whenRunning (safe_lineInput s m level)
    case jogEdge j a b => cases h; exact safe_whenRunning (State.Calm.safe .same)
    all_goals cases c

/-! ### Every step -/

theorem step_safe {s t : State} (h : step s = .next t) : s.Safe t := by
  cases hp : s.pending with
  | nil =>
    rw [step_idle hp] at h
    cases h
    exact .refl s
  | cons i rest =>
    rw [step_front hp] at h
    have taken : s.Calm { s with pending := rest } := .same
    exact taken.safe.trans (exec_safe h)

/-- Settles O58: every event keeps the lanes, and with the clips and their uses sound, the protection of frames and the claims. -/
theorem everyStepKeepsLanesSound : Obligations.EveryStepKeepsLanesSound := by
  unfold Obligations.EveryStepKeepsLanesSound
  intro s t h lanes
  have safe := step_safe h
  exact ⟨safe.lanes lanes, fun clips uses protection claims => safe.all ⟨lanes, clips, uses, protection, claims⟩⟩

/-- Settles O59: every event keeps the Clip Table and its uses, whatever the lanes are. -/
theorem everyStepKeepsClipsSound : Obligations.EveryStepKeepsClipsSound := by
  unfold Obligations.EveryStepKeepsClipsSound
  intro s t h sound
  exact (step_safe h).clips sound

end Sys2Proof.Machine
